-- ==== Sys2Proof/Word.lean ====
section
/-!
DEFINITION. Word.lean: the word and byte types of the register space (00_scope.md R9, R11).
-/
namespace Sys2Proof

/-- A register word: 32 bits, bit 0 the least significant (R9, R11). -/
abbrev Word := BitVec 32

/-- A byte of one of the addressed memories (R9). -/
abbrev Byte := BitVec 8

end Sys2Proof
end

