-- ==== Sys2Proof/Syntax.lean ====
section
/-!
DEFINITION. Syntax.lean: the commands of the block, one constructor per row of spec/opcode_table.json, with the
units they name and the values that reach the device from outside with them.
-/
namespace Sys2Proof

/-- Band die k, held as k - 1 (00_scope.md R10: k from 1 to 7). -/
abbrev DieIx := Fin 7
/-- Strand s of a band die: 0 to 7 downlink, 8 to 15 uplink (R10). -/
abbrev StrandIx := Fin 16
/-- Port of a band die: 0 D0, 1 D1, 2 S0, 3 S1 (R10). -/
abbrev PortIx := Fin 4
/-- Coil C0 to C23 (R10). -/
abbrev CoilIx := Fin 24
/-- Plait pair P0 to P47 (R10). -/
abbrev PairIx := Fin 48
/-- Wale port W0 to W7 (R10). -/
abbrev WaleIx := Fin 8
/-- Stream or message endpoint of the device (R10). -/
abbrev EpIx := Fin 256
/-- Lashing source (R10). -/
abbrev SrcIx := Fin 256

/-- Who makes a register access (20_address_map.md R586, R404). `root a` is a host request that the root at
address `a` forwarded with HOST = 1; `fabric a` a fabric peer at address `a`; `replay` the configuration replay. -/
inductive Origin where
  | host
  | root (addr : Fin 64)
  | fabric (src : Fin 64)
  | handle
  | lid
  | replay
  deriving DecidableEq, Repr

/-- One complex sample, in codes or in the fixed-point steps of the point it comes from. -/
structure Cx where
  re : Int
  im : Int
  deriving DecidableEq, Repr

/-- The context in which a Withy instruction runs: a strand's invocation or a coil's job (06_withy_model.md R215,
09_coil_engine.md R332). -/
inductive Ctx where
  | strand (k : DieIx) (i : StrandIx)
  | coil (c : CoilIx)
  deriving DecidableEq, Repr

/-- The place, among a row's operands, of a value that State determines: it brings nothing from outside. -/
abbrev Computed := Unit

/-- Where a double-bit error of a coefficient memory lies: the strand, the bank, and the 64-bit word of two taps
(02_converters_riddle.md R88). -/
structure EccAt where
  strand : StrandIx
  bank : Fin 2
  word : Fin 128
  deriving DecidableEq, Repr

/-- Where a parity error is found: the stage of the stream path, 5 the transmit chain, and the sample of the block
(03_strands.md R122, R123). -/
structure ParityAt where
  stage : Fin 6
  sample : Fin 64
  deriving DecidableEq, Repr

/-- The powers of a burst's two measurement symbols, in 0.01 dB (08_radio_control.md R316). -/
structure BurstPower where
  first : Int
  second : Int
  deriving DecidableEq, Repr

/-- What a TRAIN word says of the peer: its port's state and number (11_wale_fabric.md R397). -/
structure TrainWord where
  state : Byte
  number : Byte
  deriving DecidableEq, Repr

/-- A DOWN word at a port: the port and the cause that the peer sends (R397, R424). -/
structure DownWord where
  port : WaleIx
  cause : Byte
  deriving DecidableEq, Repr

/-- The clock domains that run on request (18_clocks_power.md R544, R545). -/
inductive ClockDom where
  | handle | plait | coil | mram | therm | scan (k : DieIx)
  deriving DecidableEq, Repr

/-- The header of a request or response of the wale fabric as a port receives it, with its 16-byte tag as a number, first
byte most significant, and in `zeros` bits [7:6] of bytes 1 and 2 and bit 7 of byte 3, which are to be zero
(11_wale_fabric.md R402). -/
structure WaleHdr where
  dst : Fin 64
  src : Fin 64
  host : Bool
  hops : Fin 64
  dstEp : EpIx
  srcEp : EpIx
  txn : Fin 65536
  seq : Fin 65536
  zeros : Fin 32
  tag : BitVec 128
  deriving DecidableEq, Repr

/-- The header of a Cane request (13_cane_link.md R446). -/
structure CaneHdr where
  tag : Fin 16
  loc : Bool
  retry : Bool
  dst : Fin 64
  ecredit : Fin 256
  seq : Fin 65536
  deriving DecidableEq, Repr

/-- The commands (spec/opcode_table.json). -/
inductive Instr where
  /-- REGISTER_WRITE (R582). -/
  | registerWrite (o : Origin) (bytes : Nat) (addr : Word) (w : Word)
  /-- FT_LO_READ (R420). -/
  | ftLoRead (o : Origin)
  /-- WT_LO_READ (R483). -/
  | wtLoRead (o : Origin)
  /-- CONTROL_PACKET_RETRY (R32). -/
  | controlPacketRetry (k : DieIx)
  /-- CONTROL_LANE_LOST (R32). -/
  | controlLaneLost (k : DieIx)
  /-- BAND_DIE_SELF_MUTE (R33). -/
  | bandDieSelfMute (k : DieIx)
  /-- BAND_DIE_RELEASE (R47). -/
  | bandDieRelease (k : DieIx)
  /-- NCO_APPLY (R61). -/
  | ncoApply (o : Origin) (k : DieIx) (i : StrandIx)
  /-- NCO_COMMIT (R62). -/
  | ncoCommit (k : DieIx) (i : StrandIx)
  /-- RDL_SYNC_NOW (R67). -/
  | rdlSyncNow (o : Origin) (k : DieIx) (mask : BitVec 16)
  /-- RDL_SYNC_ARM (R72). -/
  | rdlSyncArm (o : Origin) (k : DieIx) (mask : BitVec 16)
  /-- RDL_SYNC_CANCEL (R73). -/
  | rdlSyncCancel (o : Origin) (k : DieIx)
  /-- TIMED_SYNC_RESET (R72). -/
  | timedSyncReset (k : DieIx)
  /-- FILL_COUNT_END (R69). -/
  | fillCountEnd (k : DieIx) (i : StrandIx)
  /-- DELAY_TAKE_EFFECT (R76). -/
  | delayTakeEffect (k : DieIx) (i : StrandIx)
  /-- SWAP_REQ (R81). -/
  | swapReq (o : Origin) (k : DieIx) (i : StrandIx) (target : Fin 2) (fade : Fin 16)
  /-- RDL_GROUP_SWAP (R89). -/
  | rdlGroupSwap (o : Origin) (k : DieIx) (mask : BitVec 16) (target : Fin 2) (fade : Fin 16)
  /-- FADE_START (R81). -/
  | fadeStart (k : DieIx) (i : StrandIx)
  /-- FADE_END (R83). -/
  | fadeEnd (k : DieIx) (i : StrandIx)
  /-- COEF_BANK_ECC_ERROR (R88). -/
  | coefBankEccError (k : DieIx) (at_ : EccAt)
  /-- STR_START (R99). -/
  | strStart (o : Origin) (k : DieIx) (i : StrandIx)
  /-- STR_STOP (R102). -/
  | strStop (o : Origin) (k : DieIx) (i : StrandIx)
  /-- STR_GROUP_START (R101). -/
  | strGroupStart (o : Origin) (k : DieIx) (mask : BitVec 16)
  /-- STR_GROUP_STOP (R101). -/
  | strGroupStop (o : Origin) (k : DieIx) (mask : BitVec 16)
  /-- STRAND_RUNNING (R100). -/
  | strandRunning (k : DieIx) (i : StrandIx)
  /-- STRAND_STOPPED (R102). -/
  | strandStopped (k : DieIx) (i : StrandIx)
  /-- LEVEL_STAGE_BLOCK (R107). -/
  | levelStageBlock (k : DieIx) (i : StrandIx)
  /-- GATE_RAMP_END (R112). -/
  | gateRampEnd (k : DieIx) (i : StrandIx)
  /-- METER_WINDOW_END (R117). -/
  | meterWindowEnd (k : DieIx) (i : StrandIx)
  /-- LIMITER_BLOCK_ENTER (R119). -/
  | limiterBlockEnter (k : DieIx) (i : StrandIx)
  /-- LIMITER_BLOCK_LEAVE (R120). -/
  | limiterBlockLeave (k : DieIx) (i : StrandIx)
  /-- STREAM_PARITY_ERROR (R123). -/
  | streamParityError (k : DieIx) (i : StrandIx) (at_ : ParityAt)
  /-- BLOCK_AT_POINT_IN (R134). -/
  | blockAtPointIn (k : DieIx) (i : StrandIx) (valid : Bool) (xs : List Cx) (ovr : Nat) (r0 r1 : List Cx) (refsValid : Bool)
  /-- PROBE_PERIOD_END (R141). The chips, the probe's power, the profiles and the floor follow from the samples that State
  holds. -/
  | probePeriodEnd (k : DieIx) (i : StrandIx) (chips pref c0 c1 floor : Computed)
  /-- ESTIMATE_LAPSE (R144). -/
  | estimateLapse (k : DieIx) (i : StrandIx)
  /-- SOUND_REQ (R143). -/
  | soundReq (o : Origin) (k : DieIx) (i : StrandIx)
  /-- PLACE_REQ (R150). -/
  | placeReq (o : Origin) (k : DieIx) (i : StrandIx)
  /-- PLACEMENT_COMMIT (R148). -/
  | placementCommit (k : DieIx) (i : StrandIx)
  /-- POLYNOMIAL_CHANGE (R136). -/
  | polynomialChange (k : DieIx) (i : StrandIx)
  /-- GUARD_WINDOW_END (R162). -/
  | guardWindowEnd (k : DieIx) (i : StrandIx)
  /-- CHECKPOINT_RESTORE (R164). -/
  | checkpointRestore (k : DieIx) (i : StrandIx)
  /-- GUARD_HOLD_END (R165). -/
  | guardHoldEnd (k : DieIx) (i : StrandIx)
  /-- UG_HOLD_EXPIRED (R177). -/
  | ugHoldExpired (k : DieIx) (i : StrandIx)
  /-- UG_KEEP_START (R179). -/
  | ugKeepStart (k : DieIx) (i : StrandIx)
  /-- UG_KEEP_END (R177). -/
  | ugKeepEnd (k : DieIx) (i : StrandIx)
  /-- PRESENCE_CHECK_TRIGGER (R186). -/
  | presenceCheckTrigger (k : DieIx) (e : Fin 8)
  /-- PRESENCE_CHECK_OVERDUE (R186). -/
  | presenceCheckOverdue (k : DieIx) (e : Fin 8)
  /-- PRESENCE_START_TIMEOUT (R185). -/
  | presenceStartTimeout (k : DieIx) (e : Fin 8)
  /-- PRESENCE_CHECK_DONE (R185). -/
  | presenceCheckDone (k : DieIx) (e : Fin 8) (cells : List (Bool × Int × Nat))
  /-- SS_BURST_DETECTED (R313). -/
  | ssBurstDetected (k : DieIx) (freq : Nat) (port : Fin 2) (t : Nat) (power : BurstPower)
  /-- TDD_APPLY (R195). -/
  | tddApply (o : Origin) (k : DieIx)
  /-- TDD_PATTERN_BOUNDARY (R196). -/
  | tddPatternBoundary (k : DieIx)
  /-- TDD_TIMING_LAPSE (R191). -/
  | tddTimingLapse (k : DieIx)
  /-- TDD_WINDOW_SWITCH (R194). -/
  | tddWindowSwitch (k : DieIx) (p : PortIx) (toTx : Bool)
  /-- DUTY_HIT (R197). The fraction follows from the port's transmit time. -/
  | dutyHit (k : DieIx) (p : PortIx) (frac : Computed)
  /-- DUTY_RECOVER (R197). The fraction follows from the port's transmit time. -/
  | dutyRecover (k : DieIx) (p : PortIx) (frac : Computed)
  /-- LEAN_ENTER (R199). -/
  | leanEnter (k : DieIx) (g : Fin 4)
  /-- LEAN_LEAVE (R200). -/
  | leanLeave (k : DieIx) (g : Fin 4)
  /-- REG_EDIT_OPEN (R209). -/
  | regEditOpen (o : Origin)
  /-- REG_EDIT_DISCARD (R209). -/
  | regEditDiscard (o : Origin)
  /-- REG_EDIT_COMMIT (R210). -/
  | regEditCommit (o : Origin)
  /-- REG_COMMIT_DONE (R211). -/
  | regCommitDone (verified : Bool)
  /-- INVOCATION (R215). -/
  | invocation (k : DieIx) (i : StrandIx)
  /-- OUTPUT_RELEASE (R216). -/
  | outputRelease (k : DieIx) (i : StrandIx)
  /-- LOOKAHEAD_DELIVERY (R236). -/
  | lookaheadDelivery (k : DieIx) (i : StrandIx)
  /-- MESSAGE_ARRIVAL (R287). -/
  | messageArrival (k : DieIx) (i : StrandIx) (r : Fin 4) (bytes : List Byte)
  /-- PRG_LOAD (R242). -/
  | prgLoad (o : Origin) (k : DieIx) (slot : Fin 16)
  /-- PRG_FETCH (R242). -/
  | prgFetch (o : Origin) (k : DieIx) (slot : Fin 16) (lib : Fin 32)
  /-- PRG_STORE (R242). -/
  | prgStore (o : Origin) (k : DieIx) (lib : Fin 32)
  /-- PRG_BIND (R244). -/
  | prgBind (o : Origin) (k : DieIx) (slot : Fin 16)
  /-- PRG_UNBIND (R242). -/
  | prgUnbind (o : Origin) (k : DieIx)
  /-- PRG_FREE (R242). -/
  | prgFree (o : Origin) (k : DieIx) (slot : Fin 16)
  /-- PRG_ERASE (R242). -/
  | prgErase (o : Origin) (k : DieIx) (lib : Fin 32)
  /-- PRG_CMD_DONE (R243). -/
  | prgCmdDone (k : DieIx)
  /-- PRG_PARAM_APPLY (R223). -/
  | prgParamApply (o : Origin) (k : DieIx) (i : StrandIx)
  /-- RDIN (R266). -/
  | rdin (x : Ctx)
  /-- WROUT (R266). -/
  | wrout (x : Ctx)
  /-- MOV (R266). -/
  | mov (x : Ctx)
  /-- AMOV (R266). -/
  | amov (x : Ctx)
  /-- SMOV (R266). -/
  | smov (x : Ctx)
  /-- XMOV (R266). -/
  | xmov (x : Ctx)
  /-- LDS (R266). -/
  | lds (x : Ctx)
  /-- LDC (R266). -/
  | ldc (x : Ctx)
  /-- VSPLAT (R266). -/
  | vsplat (x : Ctx)
  /-- STAT (R220). -/
  | stat (x : Ctx)
  /-- VGET (R266). -/
  | vget (x : Ctx)
  /-- LDX (R266). -/
  | ldx (x : Ctx)
  /-- XIN (R336). -/
  | xin (x : Ctx)
  /-- XOUT (R337). -/
  | xout (x : Ctx)
  /-- XTAB (R269). -/
  | xtab (x : Ctx)
  /-- XFROMS (R266). -/
  | xfroms (x : Ctx)
  /-- SFROMX (R266). -/
  | sfromx (x : Ctx)
  /-- VADD (R270). -/
  | vadd (x : Ctx)
  /-- VSUB (R270). -/
  | vsub (x : Ctx)
  /-- VCMUL (R270). -/
  | vcmul (x : Ctx)
  /-- VCMULC (R270). -/
  | vcmulc (x : Ctx)
  /-- VMAC (R270). -/
  | vmac (x : Ctx)
  /-- VMACC (R270). -/
  | vmacc (x : Ctx)
  /-- VMUL (R270). -/
  | vmul (x : Ctx)
  /-- VMULC (R270). -/
  | vmulc (x : Ctx)
  /-- VPACK (R270). -/
  | vpack (x : Ctx)
  /-- VSHF (R270). -/
  | vshf (x : Ctx)
  /-- VCONJ (R270). -/
  | vconj (x : Ctx)
  /-- VNEG (R270). -/
  | vneg (x : Ctx)
  /-- VMULJ (R270). -/
  | vmulj (x : Ctx)
  /-- VSWAP (R270). -/
  | vswap (x : Ctx)
  /-- VSCL (R270). -/
  | vscl (x : Ctx)
  /-- SADDI (R271). -/
  | saddi (x : Ctx)
  /-- SMAX (R271). -/
  | smax (x : Ctx)
  /-- SMIN (R271). -/
  | smin (x : Ctx)
  /-- SADD (R271). -/
  | sadd (x : Ctx)
  /-- SSUB (R271). -/
  | ssub (x : Ctx)
  /-- SAND (R271). -/
  | sand (x : Ctx)
  /-- SOR (R271). -/
  | sor (x : Ctx)
  /-- SXOR (R271). -/
  | sxor (x : Ctx)
  /-- SSHL (R271). -/
  | sshl (x : Ctx)
  /-- SSHR (R271). -/
  | sshr (x : Ctx)
  /-- SLSR (R271). -/
  | slsr (x : Ctx)
  /-- SMUL (R271). -/
  | smul (x : Ctx)
  /-- STEST (R271). -/
  | stest (x : Ctx)
  /-- SCMP (R272). -/
  | scmp (x : Ctx)
  /-- XCMP (R273). -/
  | xcmp (x : Ctx)
  /-- XADD (R273). -/
  | xadd (x : Ctx)
  /-- XSUB (R273). -/
  | xsub (x : Ctx)
  /-- XMUL (R273). -/
  | xmul (x : Ctx)
  /-- XMIN (R273). -/
  | xmin (x : Ctx)
  /-- XMAX (R273). -/
  | xmax (x : Ctx)
  /-- XABS (R273). -/
  | xabs (x : Ctx)
  /-- XNEG (R273). -/
  | xneg (x : Ctx)
  /-- XCLMP (R273). -/
  | xclmp (x : Ctx)
  /-- VROT (R277). -/
  | vrot (x : Ctx)
  /-- RSET (R276). -/
  | rset (x : Ctx)
  /-- RSTEP (R276). -/
  | rstep (x : Ctx)
  /-- VFIR (R278). -/
  | vfir (x : Ctx)
  /-- VFRAC (R279). -/
  | vfrac (x : Ctx)
  /-- CRES (R280). -/
  | cres (x : Ctx)
  /-- CEST (R280). -/
  | cest (x : Ctx)
  /-- GTRIP (R282). -/
  | gtrip (x : Ctx)
  /-- CREF (R280). -/
  | cref (x : Ctx)
  /-- GMON (R280). -/
  | gmon (x : Ctx)
  /-- VPEAK (R283). -/
  | vpeak (x : Ctx)
  /-- VPOW (R283). -/
  | vpow (x : Ctx)
  /-- VCNT (R283). -/
  | vcnt (x : Ctx)
  /-- ENV (R236). -/
  | env (x : Ctx)
  /-- SDB (R284). -/
  | sdb (x : Ctx)
  /-- FRECV (R239). -/
  | frecv (x : Ctx)
  /-- MSEND (R286). -/
  | msend (x : Ctx)
  /-- MRECV (R287). -/
  | mrecv (x : Ctx)
  /-- LOOP (R226). -/
  | loop (x : Ctx)
  /-- END (R288). -/
  | endLoop (x : Ctx)
  /-- EVENT (R289). -/
  | event (x : Ctx)
  /-- HALT (R288). -/
  | halt (x : Ctx)
  /-- PORT_COMMAND (R301). -/
  | portCommand (o : Origin) (k : DieIx) (p : PortIx) (w : Word)
  /-- PORT_COMMAND_DEQUEUE (R303). -/
  | portCommandDequeue (k : DieIx) (p : PortIx)
  /-- PORT_TRANSITION_DONE (R297). -/
  | portTransitionDone (k : DieIx) (p : PortIx)
  /-- DIE_PLL_LOCK (R305). -/
  | diePllLock (k : DieIx)
  /-- PORT_LOCK_TIMEOUT (R305). -/
  | portLockTimeout (k : DieIx) (p : PortIx)
  /-- DIE_PLL_UNLOCK (R306). -/
  | diePllUnlock (k : DieIx)
  /-- DIE_PLL_STOP (R293). -/
  | diePllStop (k : DieIx)
  /-- SCAN_TASK_START (R312). -/
  | scanTaskStart (k : DieIx) (tdd div tune : Bool)
  /-- SCAN_TASK_DONE (R312). -/
  | scanTaskDone (k : DieIx) (next : Nat) (power : Int) (cells : List (Bool × Int × Nat))
  /-- SCAN_TRANSITION_DONE (R309). -/
  | scanTransitionDone (k : DieIx)
  /-- SCAN_CAL_STEP (R314). -/
  | scanCalStep (k : DieIx) (locked last : Bool) (rej : Nat)
  /-- SCAN_CAL_RETRY (R314). -/
  | scanCalRetry (k : DieIx)
  /-- SCAN_REQ_GO (R312). -/
  | scanReqGo (o : Origin) (k : DieIx)
  /-- SCAN_REQ_ABORT (R312). -/
  | scanReqAbort (o : Origin) (k : DieIx)
  /-- TUNER_MEASURE (R319). -/
  | tunerMeasure (k : DieIx) (p : PortIx) (band fwd rev : Int)
  /-- TUNER_SEARCH (R320). -/
  | tunerSearch (k : DieIx) (p : PortIx)
  /-- TUNER_SEARCH_STEP (R320). -/
  | tunerSearchStep (k : DieIx) (p : PortIx) (rl : Int)
  /-- RFFE_CMD_GO (R322). -/
  | rffeCmdGo (o : Origin) (k : DieIx)
  /-- RFFE_TRANSACTION_DONE (R322). -/
  | rffeTransactionDone (k : DieIx) (data : Nat) (good : Bool)
  /-- COEX_REQ_ASSERT (R323). The burst windows follow from the lean groups. -/
  | coexReqAssert (window : Computed)
  /-- COEX_GNT_FALL (R323). -/
  | coexGntFall
  /-- COEX_REQ_RISE (R324). The burst windows follow from the lean groups. -/
  | coexReqRise (pri : Bool) (window : Computed)
  /-- COEX_GRANT_DECISION (R324). -/
  | coexGrantDecision
  /-- COEX_GNT_RAISE (R324). -/
  | coexGntRaise
  /-- COEX_REQ_FALL (R324). -/
  | coexReqFall
  /-- COIL_LOAD (R359). -/
  | coilLoad (o : Origin) (c : CoilIx)
  /-- COIL_FETCH (R359). -/
  | coilFetch (o : Origin) (c : CoilIx) (lib : Fin 32)
  /-- COIL_STORE (R359). -/
  | coilStore (o : Origin) (lib : Fin 32)
  /-- COIL_FREE (R359). -/
  | coilFree (o : Origin) (c : CoilIx)
  /-- COIL_CMD_DONE (R360). -/
  | coilCmdDone
  /-- COIL_START (R361). -/
  | coilStart (o : Origin) (c : CoilIx)
  /-- COIL_STOP (R363). -/
  | coilStop (o : Origin) (c : CoilIx)
  /-- COIL_PARAM_APPLY (R338). -/
  | coilParamApply (o : Origin) (c : CoilIx)
  /-- COIL_BOUNDARY (R332). -/
  | coilBoundary (c : CoilIx) (fb cur aux : Fin 16384)
  /-- COIL_JOB_RELEASE (R332). -/
  | coilJobRelease (c : CoilIx)
  /-- COIL_OVERRUN (R334). -/
  | coilOverrun (c : CoilIx)
  /-- TRACE_ARM (R357). -/
  | traceArm (o : Origin) (c : CoilIx)
  /-- TRACE_FORCE (R357). -/
  | traceForce (o : Origin) (c : CoilIx)
  /-- PAIR_BOUNDARY (R369). -/
  | pairBoundary (n : PairIx) (t : Nat)
  /-- PL_LOAD_ALL (R381). -/
  | plLoadAll (o : Origin)
  /-- PL_SYNC (R384). -/
  | plSync (o : Origin)
  /-- PAIR_ENABLE (R385). -/
  | pairEnable (o : Origin) (n : PairIx)
  /-- PAIR_DISABLE (R385). -/
  | pairDisable (o : Origin) (n : PairIx)
  /-- PAIR_CLEAR (R389). -/
  | pairClear (o : Origin) (n : PairIx)
  /-- PLAIT_CALIBRATION (R372). -/
  | plaitCalibration (ok : Bool) (trim : Byte)
  /-- TRIP_ASSERT (R386). -/
  | tripAssert (i : Fin 8) (t : Nat)
  /-- TRIP_RELEASE (R386). -/
  | tripRelease (i : Fin 8) (t : Nat)
  /-- WALE_PORT_ENABLE (R398). -/
  | walePortEnable (o : Origin) (w : WaleIx)
  /-- WALE_PORT_DISABLE (R424). -/
  | walePortDisable (o : Origin) (w : WaleIx)
  /-- TRAIN (R398). -/
  | train (w : WaleIx) (peer : TrainWord)
  /-- AUTH_HELLO (R399). -/
  | authHello (w : WaleIx) (serial : Nat) (basket : Word) (key nonce : Nat)
  /-- AUTH_CERT (R399). -/
  | authCert (w : WaleIx) (cert : List Byte) (sig : Nat)
  /-- AUTH_TIMEOUT (R399). -/
  | authTimeout (w : WaleIx)
  /-- AUTH_FAIL_RETRY (R398). -/
  | authFailRetry (w : WaleIx)
  /-- ACK (R407). -/
  | ack (w : WaleIx) (resp : Bool) (seq : Fin 65536)
  /-- CREDIT (R406). -/
  | credit (w : WaleIx) (q r : Byte)
  /-- TIME (R420). -/
  | time (w : WaleIx) (t : Nat)
  /-- TIME_RX (R420). -/
  | timeRx (w : WaleIx) (t2 : Nat)
  /-- DOWN (R424). -/
  | down (d : DownWord)
  /-- ROUND_TIMER (R420). -/
  | roundTimer
  /-- TIME_WORD_MISSING (R424). -/
  | timeWordMissing (w : WaleIx)
  /-- BLOCK_LOCK_LOSS (R424). -/
  | blockLockLoss (w : WaleIx) (lost : Bool) (n : Nat)
  /-- HOLD_DOWN_END (R425). -/
  | holdDownEnd (w : WaleIx)
  /-- FRAME_REPLAY_TIMEOUT (R407). -/
  | frameReplayTimeout (w : WaleIx) (resp : Bool)
  /-- STREAM_FRAME_RX (R413). -/
  | streamFrameRx (w : WaleIx) (bytes : List Byte) (waiting : Nat)
  /-- STREAM_FRAME_TX (R412). -/
  | streamFrameTx (k : DieIx) (i : StrandIx) (waiting : Nat)
  /-- WALE_REGISTER_READ (R403). -/
  | waleRegisterRead (w : WaleIx) (h : WaleHdr) (addr : Word)
  /-- WALE_REGISTER_WRITE (R403). -/
  | waleRegisterWrite (w : WaleIx) (h : WaleHdr) (addr value : Word)
  /-- WALE_MESSAGE (R403). -/
  | waleMessage (w : WaleIx) (h : WaleHdr) (data : List Byte)
  /-- WALE_BULK_WRITE (R403). -/
  | waleBulkWrite (w : WaleIx) (h : WaleHdr) (addr : Word) (data : List Byte)
  /-- ADMISSION_REQUEST (R410). -/
  | admissionRequest (w : WaleIx) (h : WaleHdr) (half : Bool) (block : Fin 8) (tag : Byte) (hops : Fin 64)
  /-- RELEASE_REQUEST (R403). -/
  | releaseRequest (w : WaleIx) (h : WaleHdr) (tag : Byte)
  /-- DISCOVERY_CLAIM (R415). -/
  | discoveryClaim (w : WaleIx) (h : WaleHdr) (serial : Nat) (cane : Bool) (level : Fin 64)
  /-- DISCOVERY_PROBE (R416). -/
  | discoveryProbe (w : WaleIx) (h : WaleHdr) (addr level : Fin 64) (tree : Byte)
  /-- ROUTE_TABLE_LOAD (R418). -/
  | routeTableLoad (w : WaleIx) (h : WaleHdr) (version : Word) (codes : List Byte)
  /-- LINK_EVENT (R426). -/
  | linkEvent (w : WaleIx) (h : WaleHdr) (port : WaleIx) (state : Fin 5) (serial : Nat)
  /-- RESPONSE_FRAME_RX (R433). -/
  | responseFrameRx (w : WaleIx) (h : WaleHdr) (code : Byte) (data : List Byte)
  /-- EP_ADMIT (R410). -/
  | epAdmit (o : Origin) (e : EpIx)
  /-- EP_RELEASE (R410). -/
  | epRelease (o : Origin) (e : EpIx)
  /-- ADMISSION_ANSWER (R410). -/
  | admissionAnswer (w : WaleIx) (h : WaleHdr) (fault : Fin 16) (route : Nat) (tag : Byte)
  /-- ADMISSION_TIMEOUT (R410). -/
  | admissionTimeout (e : EpIx)
  /-- READMIT (R427). -/
  | readmit (e : EpIx)
  /-- REDISCOVER (R416). -/
  | rediscover (o : Origin)
  /-- ROUTE_COMMIT (R419). -/
  | routeCommit (o : Origin)
  /-- ROOT_LOSS_TIMEOUT (R427). -/
  | rootLossTimeout
  /-- TXN_ATTEMPT_TIMEOUT (R433). -/
  | txnAttemptTimeout (txn : Fin 65536) (dst : Fin 64)
  /-- TXN_RETRY (R433). -/
  | txnRetry (txn : Fin 65536) (dst : Fin 64)
  /-- CANE_RESPONSE_DROP (R432). -/
  | caneResponseDrop (t : Fin 16)
  /-- CANE_NUDGE_DETECTED (R452). -/
  | caneNudgeDetected
  /-- CANE_SYNC_ACQUIRED (R452). -/
  | caneSyncAcquired
  /-- CANE_SYNC_LOSS (R452). -/
  | caneSyncLoss
  /-- HELLO (R452). -/
  | hello (seen : Bool) (ecredit : Fin 256) (seq : Fin 65536)
  /-- HELLO_TIMER (R452). -/
  | helloTimer
  /-- CANE_TRAIN_FAIL (R453). -/
  | caneTrainFail
  /-- QUIET (R458). -/
  | quiet (ecredit : Fin 256) (seq : Fin 65536)
  /-- QUIET_ACK (R457). -/
  | quietAck (ecredit : Fin 256) (seq : Fin 65536)
  /-- QUIET_ACK_SEND (R458). -/
  | quietAckSend
  /-- QUIET_AFTER_EXPIRY (R457). -/
  | quietAfterExpiry
  /-- CANE_BAD_FRAME (R446). -/
  | caneBadFrame (code : Bool)
  /-- CANE_REGISTER_READ (R448). -/
  | caneRegisterRead (h : CaneHdr) (addr : Word)
  /-- CANE_REGISTER_WRITE (R448). -/
  | caneRegisterWrite (h : CaneHdr) (addr w : Word)
  /-- CANE_BULK_WRITE (R449). -/
  | caneBulkWrite (h : CaneHdr) (addr : Word) (data : List Byte)
  /-- CANE_BULK_READ (R449). -/
  | caneBulkRead (h : CaneHdr) (addr : Word) (n : Fin 63)
  /-- CANE_WAKE (R450). -/
  | caneWake (h : CaneHdr)
  /-- CANE_RESPONSE_READY (R455). -/
  | caneResponseReady (t : Fin 16)
  /-- CANE_EVENT_SEND (R460). -/
  | caneEventSend
  /-- CANE_SELF_NUDGE (R461). -/
  | caneSelfNudge
  /-- POWER_ON_RESET_RELEASE (R548). -/
  | powerOnResetRelease (hub : Option Int)
  /-- DEVICE_RESET (R473). -/
  | deviceReset (o : Origin) (hub : Option Int)
  /-- BOOT_READY (R473). -/
  | bootReady
  /-- WATCHDOG_EXPIRY (R465). -/
  | watchdogExpiry
  /-- HANDLE_SRAM_ECC (R465). -/
  | handleSramEcc
  /-- HANDLE_RESTART_DONE (R465). -/
  | handleRestartDone (hub : Option Int)
  /-- UPD_BEGIN (R474). -/
  | updBegin (o : Origin) (target : Fin 4)
  /-- UPD_CHUNK (R474). -/
  | updChunk (o : Origin) (target : Fin 4) (index : Fin 65536)
  /-- UPD_VERIFY (R475). -/
  | updVerify (o : Origin) (target : Fin 4)
  /-- UPD_ACTIVATE (R474). -/
  | updActivate (o : Origin) (target : Fin 4)
  /-- UPD_CONFIRM (R472). -/
  | updConfirm (o : Origin)
  /-- UPD_ABORT (R474). -/
  | updAbort (o : Origin) (target : Fin 4)
  /-- UPD_OP_DONE (R475). -/
  | updOpDone
  /-- CONFIG_REPLAY (R478). -/
  | configReplay
  /-- REPLAY_WAIT_TIMEOUT (R478). -/
  | replayWaitTimeout
  /-- REPLAY_DELAY_END (R478). -/
  | replayDelayEnd
  /-- TELEMETRY_READING (R479). -/
  | telemetryReading
  /-- SKEIN_HOLD_EXPIRY (R490). -/
  | skeinHoldExpiry
  /-- SKEIN_FLUSH (R492). -/
  | skeinFlush
  /-- SKEIN_FLUSH_PERIOD (R493). -/
  | skeinFlushPeriod
  /-- SKEIN_FLUSH_DONE (R492). -/
  | skeinFlushDone
  /-- SKN_FLUSH (R493). -/
  | sknFlush (o : Origin)
  /-- SKN_CLEAR (R499). -/
  | sknClear (o : Origin)
  /-- SKN_FREEZE (R497). -/
  | sknFreeze (o : Origin)
  /-- SKN_UNFREEZE (R497). -/
  | sknUnfreeze (o : Origin)
  /-- FREEZE_TIMEOUT (R497). -/
  | freezeTimeout
  /-- TLY_ACK (R506). -/
  | tlyAck (o : Origin) (seq : Word)
  /-- TALLY_WRITE_OUT (R505). -/
  | tallyWriteOut
  /-- WT_APPLY (R483). -/
  | wtApply (o : Origin)
  /-- SEAL (R503). -/
  | seal (o : Origin)
  /-- SEAL_DONE (R503). -/
  | sealDone
  /-- LASHING_SOURCE_ACTIVE (R512). -/
  | lashingSourceActive (n : SrcIx) (unit : Fin 4096) (hold : Bool)
  /-- MUTE_AUTO_END (R520). -/
  | muteAutoEnd (n : SrcIx)
  /-- FAULT_PAIR_BROKEN (R514). -/
  | faultPairBroken (n : SrcIx)
  /-- BROADCAST_PAIR_BROKEN (R515). -/
  | broadcastPairBroken (die : Option DieIx)
  /-- COLLECTOR_SELF_FAULT (R516). -/
  | collectorSelfFault
  /-- ENTER_SAFE (R617). -/
  | enterSafe (o : Origin)
  /-- SAFE_EXIT (R520). -/
  | safeExit (o : Origin)
  /-- LATCHED_CLEAR (R512). -/
  | latchedClear (o : Origin) (n : SrcIx)
  /-- INJECTION_GO (R522). -/
  | injectionGo (o : Origin) (src : SrcIx) (dry atSource : Bool) (len : Fin 65536)
  /-- INJECTION_STOP (R522). -/
  | injectionStop (o : Origin)
  /-- INJECTION_END (R522). -/
  | injectionEnd
  /-- THERMAL_CONVERSION_START (R529). -/
  | thermalConversionStart
  /-- THERMAL_CONVERSION_DONE (R532). -/
  | thermalConversionDone (temp : Int) (diode : Bool)
  /-- CONVERSION_TIMEOUT (R530). -/
  | conversionTimeout
  /-- CONFIRMATION_DUE (R532). -/
  | confirmationDue (d : Fin 8)
  /-- GUARD_TIMER (R529). -/
  | guardTimer
  /-- THM_CONV (R529). -/
  | thmConv (o : Origin) (d : Fin 8)
  /-- REARM (R536). -/
  | rearm (o : Origin)
  /-- DOZE (R550). -/
  | doze (o : Origin)
  /-- DOZE_REACHED (R550). -/
  | dozeReached
  /-- WAKE (R551). -/
  | wake (o : Origin)
  /-- WAKE_TIMER (R551). -/
  | wakeTimer
  /-- COEX_WAKE_EDGE (R551). -/
  | coexWakeEdge
  /-- FOOT (R553). -/
  | foot (o : Origin)
  /-- FOOT_ONLY_REACHED (R553). -/
  | footOnlyReached
  /-- FOOT_EXIT_RAILS_READY (R554). -/
  | footExitRailsReady (hub : Option Int)
  /-- MAIN_EN_TIMEOUT (R554). -/
  | mainEnTimeout
  /-- POWER_FAIL_FALL (R555). -/
  | powerFailFall
  /-- POWER_FAIL_WRITE_END (R496). -/
  | powerFailWriteEnd
  /-- POWER_FAIL_RISE (R556). -/
  | powerFailRise (hub : Option Int)
  /-- RAIL_OUT_OF_RANGE (R589). -/
  | railOutOfRange
  /-- REF_LOST (R543). -/
  | refLost
  /-- REF_HOLDOVER_EXPIRY (R543). -/
  | refHoldoverExpiry
  /-- XTAL_LOST (R542). -/
  | xtalLost
  /-- XTAL_RESTORED (R542). -/
  | xtalRestored
  /-- CLOCK_DOMAIN_STOP (R545). -/
  | clockDomainStop (d : ClockDom)
  /-- LID_OPEN (R560). -/
  | lidOpen (o : Origin) (len : Fin 64)
  /-- LID_CLOSE (R563). -/
  | lidClose (o : Origin)
  /-- SET_PW (R561). -/
  | setPw (o : Origin) (len : Fin 64)
  /-- PASSWORD_CHECK_DONE (R560). -/
  | passwordCheckDone
  /-- LOCKOUT_END (R564). -/
  | lockoutEnd
  /-- LID_IDLE_EXPIRY (R563). -/
  | lidIdleExpiry
  /-- TAP_RESET (R565). -/
  | tapReset
  /-- EXTEST (R567). -/
  | extest (bits : Nat)
  /-- IDCODE (R565). -/
  | idcode
  /-- SAMPLE_PRELOAD (R565). -/
  | samplePreload (bits : Nat)
  /-- CLAMP (R567). -/
  | clamp
  /-- HIGHZ (R567). -/
  | highz
  /-- LIDCHAL (R562). -/
  | lidchal
  /-- LIDRESP (R562). -/
  | lidresp (sig : Nat)
  /-- LIDPW (R560). -/
  | lidpw (len : Fin 64) (pw : Nat)
  /-- LIDCLOSE (R563). -/
  | lidclose
  /-- REGACC (R566). -/
  | regacc (addr w : Word) (write : Bool)
  /-- TAP_HALT (R566). -/
  | tapHalt (bits : Nat)
  /-- HMEM (R565). -/
  | hmem (addr w : Word) (write : Bool)
  /-- BYPASS (R565). -/
  | bypass
  /-- RNG_HEALTH_FAIL (R569). -/
  | rngHealthFail
  /-- RNG_RETEST (R569). -/
  | rngRetest (pass : Bool)
  /-- CONTROL_LANE_REESTABLISHED (R33). -/
  | controlLaneReestablished (k : DieIx)
  /-- LASHING_SOURCE_INACTIVE (R512). -/
  | lashingSourceInactive (n : SrcIx)
  /-- REF_RESTORED (R543). -/
  | refRestored
  /-- COEX_GNT_RISE (R323). -/
  | coexGntRise
  /-- ADC_OVERLOAD (R57). -/
  | adcOverload (k : DieIx) (p : PortIx) (peak : Nat)
  /-- MRAM_READING_STALE (R537). -/
  | mramReadingStale
  /-- WIN_TRIPS_EXPIRY (R167). -/
  | winTripsExpiry (k : DieIx) (i : StrandIx)
  /-- REARM_WINDOW_EXPIRY (R536). -/
  | rearmWindowExpiry
  deriving DecidableEq, Repr

end Sys2Proof
end

