-- ==== Sys2Proof/Decode.lean ====
section
/-!
DEFINITION. Decode.lean: the command that a word spells. No row of spec/opcode_table.json has bits: a command reaches
the block by a register access, a frame, a pin or a moment, not by a word, so no word spells one.
-/
namespace Sys2Proof

/-- The command of a word of nbits bits, by the table's bits. -/
def decodeTableWord (nbits w : Nat) : Option Instr :=
  match nbits, w with
  | _, _ => none

end Sys2Proof
end

