-- ==== Sys2Proof/Machine/StateLog.lean ====
section
/-!
DEFINITION. Machine/StateLog.lean: the state of time, the Skein recorder, Tally, the Lashing, the Lid and the TAP
(15_skein_tally.md, 16_lashing.md, 19_lid_security.md).
-/
namespace Sys2Proof.Machine
open Sys2Proof

/-- The error codes of 20_address_map.md R584. -/
inductive Code where
  | ok | accessDenied | noSuchAddress | busy | lockedRegulatory | auditFull | badProgram | versionHeld | timeout
  | parity | notLocked | thermalHold | lidClosed
  deriving DecidableEq, Repr

/-- The 8-bit number of a code (R584). -/
def Code.num : Code → Nat
  | .ok => 0 | .accessDenied => 1 | .noSuchAddress => 2 | .busy => 3 | .lockedRegulatory => 4 | .auditFull => 5
  | .badProgram => 6 | .versionHeld => 7 | .timeout => 8 | .parity => 9 | .notLocked => 10 | .thermalHold => 11
  | .lidClosed => 12

/-- The code of a number from 0 to 12. -/
def codeOf (n : Nat) : Code :=
  ([.ok, .accessDenied, .noSuchAddress, .busy, .lockedRegulatory, .auditFull, .badProgram, .versionHeld, .timeout, .parity,
    .notLocked, .thermalHold, .lidClosed] : List Code).getD n .timeout

/-- Fabric time, wall time and their latches (11_wale_fabric.md R420, 15_skein_tally.md R481, R483). `ft` is the
device's own count of ns, which never steps; fabric time is that count plus `off`, which joins and steering move.
Wall time is held as its value `wtBase` (in 2^-16 s) at the count `wtFt`. -/
structure TimeState where
  ft : Nat
  off : Int
  ftHi : Nat
  wtBase : Nat
  wtFt : Nat
  wtHi : Nat
  wtSet : Bool
  epoch : Nat
  deriving DecidableEq, Repr

/-- One Skein record (R486). `st` is STATE: 0 closed, 1 OPEN, 2 CLOSE. -/
structure SkeinRec where
  seq : Nat
  epoch : Nat
  rep : Nat
  time : Nat
  lastMs : Nat
  source : Nat
  st : Nat
  sev : Nat
  injected : Bool
  mailbox : Bool
  timeUnset : Bool
  loc : Nat
  code : Nat
  data : Nat
  deriving DecidableEq, Repr

/-- The Skein recorder (R489 to R500). `newest` is the newest record while it is open, with whether a flush has
written it; `buffer` the unflushed entries, oldest first; `flushing` those of the flush in progress; `ringPos` how
many entries have entered the ring; `frozen` the next sequence number at the freeze in force; `wanted` a waiting flush
trigger; `lastAt` the wall time of the newest record's last occurrence; `unreported` the losses no loss record has
named yet; `clearWait` the writes with CLEAR that wait for the end of a flush or for the MRAM window, oldest first. -/
structure Skein where
  next : Nat
  newest : Option (SkeinRec × Bool)
  lastAt : Nat
  buffer : List SkeinRec
  flushing : Option (List SkeinRec)
  ringPos : Nat
  clearMark : Nat
  frozen : Option Nat
  thawed : Bool
  lost : Nat
  unreported : Nat
  wanted : Bool
  clearWait : List (Origin × Word)
  deriving DecidableEq, Repr

/-- One Tally record (R501) without its chain link; `far` marks one of the 32 further staging places (R505). -/
structure TallyRec where
  seq : Nat
  epoch : Nat
  origin : Nat
  code : Nat
  time : Nat
  originAddr : Nat
  tail : Bool
  timeUnset : Bool
  target : Nat
  old : Nat
  new : Nat
  far : Bool
  deriving DecidableEq, Repr

/-- The seal window (R503): SEQ, LINK and the signature. -/
structure Seal where
  seq : Nat
  link : Nat
  sig : Nat
  deriving DecidableEq, Repr

/-- Tally (R501 to R508). `link` is LINK of the newest record written to
MRAM, none before the first; `ackWait` that ACK waits to be written to MRAM. -/
structure Tally where
  next : Nat
  ack : Nat
  ackWait : Bool
  staged : List TallyRec
  link : Option Nat
  tailLost : Nat
  deniedLost : Nat
  inTail : Bool
  sealing : Bool
  sealWin : Option Seal
  deriving DecidableEq, Repr

/-- One Lashing source (R511, R512, R523). `active` its unit asserts it, `wire` its pair is broken, `inj` an
injection drives it; `ended` its MUTE reaction has ended by AUTO while LATCHED stays (R520). -/
structure LashSrc where
  active : Bool
  wire : Bool
  inj : Bool
  latched : Bool
  dry : Bool
  injected : Bool
  ended : Bool
  count : Nat
  auto : Bool
  scope : Bool
  sev : Nat
  deriving DecidableEq, Repr

/-- A running injection (R522). -/
structure Injection where
  source : SrcIx
  dry : Bool
  atSource : Bool
  len : Nat
  deriving DecidableEq, Repr

/-- The Lashing (R511 to R527). -/
structure Lash where
  srcs : Vector LashSrc 256
  safe : Bool
  safeCause : Nat
  collector : Bool
  inj : Option Injection
  deriving DecidableEq, Repr

/-- The Lid states of R559. -/
inductive LidState where
  | closed | service | factory
  deriving DecidableEq, Repr

/-- One copy of the Lid record (R561). -/
structure LidRecord where
  good : Bool
  seq : Nat
  salt : Nat
  hash : Nat
  deriving DecidableEq, Repr

/-- A password check in progress (R560): the length and the password bytes, and who asked. -/
structure LidCheck where
  len : Nat
  pw : Nat
  tap : Bool
  deriving DecidableEq, Repr

/-- The Lid and the access-denial registers (R559 to R574). `lockLeft` is the length in s of the lockout in force, 0 for
none, and `lockAt` the count of ns at its start; `pw` are the words of LID_PW; `chal` an unanswered
challenge with its sequence number, nonce and the fabric time of its issue; `setWait` a SET_PW (length, password) that
waits for the MRAM window. -/
structure Lid where
  st : LidState
  openedBy : Nat
  result : Code
  fails : Nat
  lockLeft : Nat
  lockAt : Int
  checking : Option LidCheck
  pw : Vector Word 8
  chal : Option (Nat × Nat × Nat)
  chalSeq : Nat
  recA : LidRecord
  recB : LidRecord
  factorySeen : Bool
  pwInitial : Bool
  setWait : Option (Nat × Nat)
  denyAddr : Word
  denyOrigin : Nat
  denyCnt : Nat
  rngFail : Bool
  deriving DecidableEq, Repr

/-- The TAP instructions of R565. -/
inductive TapInstr where
  | extest | idcode | samplePreload | clamp | highz | lidchal | lidresp | lidpw | lidclose | regacc | halt | hmem
  | bypass
  deriving DecidableEq, Repr

/-- The TAP (R565 to R567): the current instruction, the last result of REGACC and HMEM, what LIDCHAL and LIDRESP
shift out, the boundary scan register, the halts, and a write of HMEM that waits for the MRAM window. -/
structure Tap where
  ir : TapInstr
  resData : Word
  resCode : Code
  resDone : Bool
  shiftOut : Nat
  scan : Nat
  haltHandle : Bool
  haltCores : Nat
  hmWait : Option (Nat × Word)
  deriving DecidableEq, Repr

/-! The reset values (00_scope.md R12). -/

def TimeState.reset : TimeState := ⟨0, 0, 0, 0, 0, 0, false, 0⟩
def Skein.reset : Skein :=
  { next := 1, newest := none, lastAt := 0, buffer := [], flushing := none, ringPos := 0, clearMark := 1, frozen := none,
    thawed := false, lost := 0, unreported := 0, wanted := false, clearWait := [] }
def Tally.reset : Tally :=
  { next := 1, ack := 0, ackWait := false, staged := [], link := none, tailLost := 0, deniedLost := 0, inTail := false,
    sealing := false, sealWin := none }
def Lid.reset : Lid :=
  { st := .closed, openedBy := 0, result := .ok, fails := 0, lockLeft := 0, lockAt := 0, checking := none,
    pw := Vector.replicate 8 0, chal := none, chalSeq := 0, recA := ⟨false, 0, 0, 0⟩, recB := ⟨false, 0, 0, 0⟩,
    factorySeen := false, pwInitial := false, setWait := none, denyAddr := 0, denyOrigin := 0, denyCnt := 0,
    rngFail := false }
def Tap.reset : Tap := ⟨.idcode, 0, .ok, false, 0, 0, false, 0, none⟩

end Sys2Proof.Machine
end

