-- ==== Sys2Proof/Machine/LashTable.lean ====
section
/-!
DEFINITION. Machine/LashTable.lean: the table of Lashing sources, their default severities and scopes
(16_lashing.md R511).
-/
namespace Sys2Proof.Machine
open Sys2Proof

/-- The band die of a source 16 k + o, for k from 1 to 7 and o from 0 to 8 (R511). -/
def srcDie (n : SrcIx) : Option DieIx :=
  if h : 16 ≤ n.val ∧ n.val < 128 ∧ n.val % 16 ≤ 8 then some ⟨n.val / 16 - 1, by omega⟩ else none

/-- Whether the table of R511 allocates a source. -/
def srcUsed (n : SrcIx) : Bool :=
  decide (n.val ≤ 9) || (srcDie n).isSome || decide (128 ≤ n.val ∧ n.val ≤ 151) || decide (160 ≤ n.val ∧ n.val ≤ 207)

/-- Whether the severity of a source is settable (R511). -/
def srcSettable (n : SrcIx) : Bool :=
  srcUsed n && n.val != 0 && n.val != 8 && n.val != 9 && !((srcDie n).isSome && n.val % 16 == 1)

/-- The default severity of a source (R511). -/
def srcSev (n : SrcIx) : Nat :=
  if n.val = 0 ∨ n.val = 8 ∨ n.val = 9 then 4
  else if n.val = 1 ∨ n.val = 3 ∨ n.val = 6 then 2
  else if n.val < 10 then 1
  else if (srcDie n).isSome then
    (if n.val % 16 = 0 then 3 else if n.val % 16 = 1 then 4 else if n.val % 16 = 4 ∨ n.val % 16 = 5 then 2 else 1)
  else if 128 ≤ n.val ∧ n.val ≤ 151 then 2
  else if 160 ≤ n.val ∧ n.val ≤ 207 then 1
  else 0

/-- The default scope of a source: true for device (R511). -/
def srcScope (n : SrcIx) : Bool := !((srcDie n).isSome && n.val % 16 != 1)

/-- A source as reset leaves it. -/
def LashSrc.reset (n : SrcIx) : LashSrc :=
  { active := false, wire := false, inj := false, latched := false, dry := false, injected := false, ended := false,
    count := 0, auto := false, scope := srcScope n, sev := srcSev n }

end Sys2Proof.Machine
end

