-- ==== Sys2Proof/Machine/StateStrand.lean ====
section
/-!
DEFINITION. Machine/StateStrand.lean: the state of a port's converters and of a strand's riddle chain, level stage,
limiter place and gate (02_converters_riddle.md, 03_strands.md).
-/
namespace Sys2Proof.Machine
open Sys2Proof

/-- A block of a strand's stream: 64 samples and whether all are valid (R71), with the near-site backoff in 0.05 dB
that was in force when it was at point IN (05_network_protection.md R182). `pr` is the part of each sample that is the
strand's probe (04_feedback_cancellation.md R137), the same in I and Q, in 2^-32 codes with its sign; empty where no
probe was added. -/
structure Block where
  valid : Bool
  xs : List Cx
  bo : Nat
  pr : List Int
  deriving DecidableEq, Repr

/-- A sample with its VALID (R71). -/
structure Smp where
  z : Cx
  ok : Bool
  deriving DecidableEq, Repr

/-- The delay lines of a receive chain or a reference decimator, newest first: that of the channel FIR and that of the
fractional delay (R68, R75, 04_feedback_cancellation.md R133). -/
structure Lines where
  fir : List Cx
  dly : List Smp
  deriving DecidableEq, Repr

/-- The integrate-and-dump stage (R77, R79): the samples still to discard, those taken and their sum. -/
structure Snap where
  skip : Nat
  n : Nat
  sum : Cx
  deriving DecidableEq, Repr

/-- The converters of one port (R56 to R58). `heard` is true once the ADC has run since its peak was last read. -/
structure Conv where
  dacClip : Bool
  adcOvr : Bool
  dacReady : Bool
  adcReady : Bool
  ovrCount : Nat
  peak : Nat
  heard : Bool
  deriving DecidableEq, Repr

/-- A fade in progress (R81 to R84): target bank, K and the fabric time of its start. -/
structure Fade where
  target : Fin 2
  k : Nat
  start : Nat
  deriving DecidableEq, Repr

/-- The riddle chain of one strand (R59 to R89). `ftw` and `phOff` are the active NCO values, `phase` and `phaseFt`
what the accumulator was last loaded with and when; `delayAct` the present delay, `delayWait` a DELAY waiting for
its boundary, `slewing` the fabric time
at which a slew in progress had the delay `delayAct`; `filling` the start of the fill count while VALID is low; `sync` the
time of the last synchronising reset; `ecc` a parity error that invalidates the next block; `bad` the 64-bit words of
the bank memory that hold a double-bit error, numbered from bank A's first. `lines` are the delay lines of the chain and
of the two reference decimators, `txFir` that of the transmit FIR; `n` counts the output samples since the reset;
`outs` are samples at point IN that do not fill a block yet. -/
structure Riddle where
  ftw : Nat
  phOff : Nat
  phase : Nat
  phaseFt : Nat
  pending : Bool
  delayAct : Nat
  delayWait : Bool
  slewing : Option Nat
  active : Fin 2
  fade : Option Fade
  pend : Option (Fin 2 × Nat)
  replaced : Bool
  discarded : Bool
  filling : Option Nat
  valid : Bool
  cfgFault : Nat
  snapL : Nat
  sync : Nat
  ecc : Bool
  bad : List Nat
  lines : Vector Lines 3
  txFir : List Cx
  snap : Snap
  n : Nat
  outs : List Smp
  deriving DecidableEq, Repr

/-- The states of R98. -/
inductive StrandState where
  | stopped | starting | running | stopping
  deriving DecidableEq, Repr

/-- The running sums of one meter point over the present window (R116). -/
structure MeterAcc where
  sum : Nat
  max : Nat
  n : Nat
  deriving DecidableEq, Repr

/-- The meters of one strand (R116, R117): sums, window progress and the readings of the last window. -/
structure Meter where
  accIn : MeterAcc
  accOut : MeterAcc
  blocks : Nat
  valids : Nat
  win : Nat
  pwIn : Int
  pkIn : Int
  pwOut : Int
  pkOut : Int
  crIn : Nat
  crOut : Nat
  validBlocks : Nat
  seq : Nat
  deriving DecidableEq, Repr

/-- A block inside the limiter: the block and the largest R computed while it is there (R120), in 0.01 dB. -/
structure LimBlock where
  blk : Block
  r : Nat
  deriving DecidableEq, Repr

/-- A strand's gain, level and gate state (R98 to R127). `m24` to `m30` are the mute sources that other rules set
(bits 24, 25, 28 and 30 of MUTE; the rest follow from other state); `first` is true until the
level stage has seen the first valid block; `gate` counts the steps of the gate's ramp above -60 dB, M_r of them at
0 dB (R112); `toLevel`, `toLim`, `inLim`, `release`, `atGate` and `toGate` are the blocks on their way through the
output path: before the level stage, before and in the limiter, in the release buffer, at the gate, and past it on
their way to a stream endpoint; `latest` is the power of the latest block to have entered the limiter; `tx` is the
block that the transmit chain last brought to its mixer; `gEntHub` and `gEntDie` are g_ent of
17_thermal.md R534 while the hub die or the strand's die is in THROTTLE. -/
structure Strand where
  st : StrandState
  m24 : Bool
  m25 : Bool
  m28 : Bool
  m30 : Bool
  gate : Nat
  startFault : Nat
  first : Bool
  gApp : Int
  limit : Nat
  gAlc : Int
  pIn : Int
  meter : Meter
  parErr : Nat
  invBlocks : Nat
  toLevel : List Block
  toLim : List Block
  inLim : List LimBlock
  latest : Option Nat
  lastRed : Nat
  release : List Block
  atGate : Option Block
  toGate : List Block
  tx : List Cx
  gEntHub : Option Int
  gEntDie : Option Int
  deriving DecidableEq, Repr

/-- The limiter of one port (R118 to R120), in 0.01 dB. -/
structure Limiter where
  red : Nat
  maxRed : Nat
  count : Nat
  deriving DecidableEq, Repr

/-- The zero sample and an empty invalid block. -/
def Cx.zero : Cx := ⟨0, 0⟩
/-- A block of zeros that is not valid (R123). -/
def Block.invalid : Block := ⟨false, List.replicate 64 Cx.zero, 0, []⟩
/-- A block turned into zeros that are not valid (R123). -/
def Block.spoil (b : Block) : Block := { Block.invalid with bo := b.bo }

/-! The reset values (00_scope.md R12). -/

def Conv.reset : Conv := ⟨false, false, false, false, 0, 0, false⟩
def Riddle.reset : Riddle :=
  { ftw := 0, phOff := 0, phase := 0, phaseFt := 0, pending := false, delayAct := 0, delayWait := false,
    slewing := none, active := 0, fade := none, pend := none, replaced := false, discarded := false, filling := none,
    valid := false, cfgFault := 0, snapL := 16, sync := 0, ecc := false, bad := [], lines := Vector.replicate 3 ⟨[], []⟩,
    txFir := [], snap := ⟨0, 0, ⟨0, 0⟩⟩, n := 0, outs := [] }
def MeterAcc.zero : MeterAcc := ⟨0, 0, 0⟩
def Meter.reset : Meter :=
  { accIn := .zero, accOut := .zero, blocks := 0, valids := 0, win := 6, pwIn := -20000, pkIn := -20000,
    pwOut := -20000, pkOut := -20000, crIn := 0, crOut := 0, validBlocks := 0, seq := 0 }
def Strand.reset : Strand :=
  { st := .stopped, m24 := false, m25 := false, m28 := false, m30 := false, gate := 0,
    startFault := 0, first := true, gApp := 0, limit := 0, gAlc := 0, pIn := -20000, meter := .reset, parErr := 0,
    invBlocks := 0, toLevel := [], toLim := [], inLim := [], latest := none, lastRed := 0, release := [],
    atGate := none, toGate := [], tx := [], gEntHub := none, gEntDie := none }
def Limiter.reset : Limiter := ⟨0, 0, 0⟩

end Sys2Proof.Machine
end

