-- ==== Sys2Proof/Machine/StateWithy.lean ====
section
/-!
DEFINITION. Machine/StateWithy.lean: the state of Withy programs: contexts, images, slots, the loader and the
look-ahead (06_withy_model.md, 07_withy_reference.md).
-/
namespace Sys2Proof.Machine
open Sys2Proof

/-- Sixteen complex lanes (R221). -/
abbrev Lanes := Vector Cx 16

/-- What both profiles share (R221, R226, R274): the scalars, the predicates, the instruction index, the open loops
(start and repeats left, innermost first), whether the program is between its start and HALT, and whether an EVENT
has been recorded (R289). -/
structure WScalar where
  s : Vector Word 16
  p0 : Bool
  p1 : Bool
  pc : Nat
  loops : List (Nat × Nat)
  running : Bool
  evented : Bool
  deriving DecidableEq, Repr

/-- The vector side of a strand's registers and its own state beside them (R221, R275). -/
structure WVector where
  v : Vector Lanes 32
  a : Vector Lanes 8
  phi : Nat
  filt : Vector (List Cx) 4
  dly : Vector (List Cx) 4
  deriving DecidableEq, Repr

/-- The blocks and values an invocation reads (R217, R239, R280, R287): x, the canceller's residual and estimate on
the 24-bit lane scale, the two reference blocks, the reservations' blocks and messages, GRD_MON; `at_` is the time of the
hand-over (R231). -/
structure WInput where
  at_ : Nat
  x : Block
  resid : List Cx
  est : List Cx
  ref0 : List Cx
  ref1 : List Cx
  refsValid : Bool
  recv : Vector (Option (List Cx)) 4
  msg : Vector (List Byte) 4
  msgNew : Vector Bool 4
  gmon : Word
  deriving DecidableEq, Repr

/-- A look-ahead value on its way (R236, R349): the strand's value, its delivery time and its peak level in
0.01 dBFS. -/
structure LaValue where
  td : Nat
  level : Int
  deriving DecidableEq, Repr

/-- A strand's program state (R215 to R251). `inQ` are the blocks handed over that no invocation has taken,
`msg` the latest messages, `cur` the inputs of the present invocation; `hist` says for the last invocations, newest first, whether their inputs were valid;
`out` the quarters written; `laHist` whether the last invocations delivered a look-ahead value. -/
structure Prog where
  slot : Option (Fin 16)
  weaver : Nat
  sc : WScalar
  vec : WVector
  inQ : List WInput
  msg : Vector (List Byte) 4
  msgNew : Vector Bool 4
  cur : WInput
  inv : Nat
  hist : List Bool
  eccNow : Bool
  out : Vector (Option Lanes) 4
  outQ : List Block
  env : Option Word
  sends : List (Nat × List Word)
  laQ : List (Option Word)
  la : List LaValue
  laHist : List Bool
  fEcc : Bool
  fEvent : Bool
  fTrip : Bool
  fOclip : Bool
  fSat : Bool
  paramWait : Bool
  staged : Vector Word 8
  deriving DecidableEq, Repr

/-- A reservation of an image (R235). -/
structure Reservation where
  ep : Nat
  kind : Nat
  fmt : Nat
  h : Nat
  strict : Bool
  deriving DecidableEq, Repr

/-- An image in a program slot (R234, R614): its runs in program memory (instructions) and coefficient memory
(rows), and its header. -/
structure Image where
  base : Nat
  len : Nat
  cbase : Nat
  rows : Nat
  h : Nat
  pipe : Nat
  dir : Nat
  cycles : Nat
  latMax : Nat
  laCoil : Nat
  laOff : Nat
  res : List Reservation
  digest : Nat
  deriving DecidableEq, Repr

/-- A loader command in progress (R242, R251, R359): OP, SLOT or COIL, LIB, the masked strands, whether it came while
another die stored to the library, the word that issued it and its origin. -/
structure LoadCmd where
  op : Nat
  slot : Nat
  lib : Nat
  mask : Nat
  late : Bool
  word : Word
  by_ : Origin
  deriving DecidableEq, Repr

/-- A die's loader (R242 to R244): the command in progress and the last result. -/
structure Loader where
  busy : Option LoadCmd
  op : Nat
  code : Code
  fault : Nat
  strand : Nat
  deriving DecidableEq, Repr

/-! The reset values (R222, 00_scope.md R12). -/

def WScalar.zero : WScalar := ⟨Vector.replicate 16 0, false, false, 0, [], false, false⟩
def WVector.zero : WVector :=
  ⟨Vector.replicate 32 (Vector.replicate 16 Cx.zero), Vector.replicate 8 (Vector.replicate 16 Cx.zero), 0,
    Vector.replicate 4 [], Vector.replicate 4 []⟩
def WInput.zero : WInput :=
  { at_ := 0, x := .invalid, resid := [], est := [], ref0 := [], ref1 := [], refsValid := false,
    recv := Vector.replicate 4 none, msg := Vector.replicate 4 [], msgNew := Vector.replicate 4 false, gmon := 0 }
def Prog.reset : Prog :=
  { slot := none, weaver := 0, sc := .zero, vec := .zero, inQ := [], msg := Vector.replicate 4 [],
    msgNew := Vector.replicate 4 false, cur := .zero, inv := 0, hist := [],
    eccNow := false, out := Vector.replicate 4 none, outQ := [], env := none, sends := [], laQ := [], la := [],
    laHist := [], fEcc := false, fEvent := false, fTrip := false, fOclip := false, fSat := false,
    paramWait := false, staged := Vector.replicate 8 0 }
def Loader.reset : Loader := ⟨none, 0, .ok, 0, 0⟩

end Sys2Proof.Machine
end

