-- ==== Sys2Proof/Config.lean ====
section
/-!
DEFINITION. Config.lean: what the spec leaves open. Each constant has no body, so nothing can be proved of its value;
a fresh value is had by applying it to the state's counter of free values.
-/
namespace Sys2Proof.Config
open Sys2Proof Sys2Proof.Machine

/-- How far the gain applied to a sample lies from the exact one, by the counter of free values and the sample: the
spec gives only a bound of 0.005 dB (03_strands.md R109), which `gainErr` keeps. -/
opaque gainError : (counter sample : Nat) → Nat

/-- The value of the fractional delay line between two samples, by the fraction in 1/256 and the line, newest first: the
spec gives no interpolation (02_converters_riddle.md R75). -/
opaque between : (frac : Nat) → List Cx → Int × Int

/-- The 15 low coefficients of polynomial q of the fixed table of 512, and the start of its sequence at cyclic shift 0
(04_feedback_cancellation.md R136): the spec prints neither. -/
opaque polynomial : Nat → Nat
opaque chipStart : Nat → Nat

/-- What a receiver's correlator gives at a lag for a sender of another rate (R141): the spec aligns no chips of two
rates. -/
opaque crossRate : (counter lag : Nat) → Int × Int

/-- Fresh random bits of the generator of 19_lid_security.md R569. -/
opaque random : Nat → Nat

/-- ECDSA P-384 verification of a signature over a digest with a key (R562, R570; 14_handle_boot_update.md R469). -/
opaque verifies : (key digest sig : Nat) → Bool

/-- The signature that the device private key makes over a digest (15_skein_tally.md R503, 11_wale_fabric.md R399). -/
opaque signature : (counter digest : Nat) → Nat

/-- The point of curve P-384 of a private key, as an uncompressed point of 97 bytes, and the shared secret of 48 bytes of a
private key and a peer's point (11_wale_fabric.md R399): the spec names the curve and does not print it. -/
opaque ecdhPublic : (key : Nat) → Nat
opaque ecdhShared : (key point : Nat) → Nat

/-- Key material of the one-time-programmable store, by item (R568). -/
opaque otpKey : Nat → Nat

/-- A value that the spec leaves open for one event, by the counter of free values. -/
opaque free : Nat → Nat

/-- Whether the 256 frequencies spaced evenly across a band include its edges (04_feedback_cancellation.md R145): the
spec does not place their ends. -/
opaque bandEdges : Bool

/-- Whether the Hann window of 128 points is the periodic one (R162): the spec does not say. -/
opaque hannPeriodic : Bool

/-- The verdict of the up*/down* rule on a route table, with the levels of the neighbours by port
(11_wale_fabric.md R419): it depends on tables that the device does not hold. -/
opaque routesLegal : List Nat → List (Nat × Nat) → Bool

end Sys2Proof.Config
end

