-- ==== Sys2Proof/Machine/Bits.lean ====
section
/-!
DEFINITION. Machine/Bits.lean: bit fields of register words, signed encodings, saturating counters and the
rounding of 00_scope.md R610 and 07_withy_reference.md R260.
-/
namespace Sys2Proof.Machine
open Sys2Proof

/-- The unsigned value of bits [hi:lo] of a word (R9). -/
def fld (w : Word) (hi lo : Nat) : Nat := w.toNat / 2 ^ lo % 2 ^ (hi + 1 - lo)

/-- Bit i of a word. -/
def bit (w : Word) (i : Nat) : Bool := w.toNat / 2 ^ i % 2 == 1

/-- The signed value of an n-bit code. -/
def signed (n v : Nat) : Int :=
  if v % 2 ^ n < 2 ^ (n - 1) then ((v % 2 ^ n : Nat) : Int) else ((v % 2 ^ n : Nat) : Int) - (2 : Int) ^ n

/-- The signed value of bits [hi:lo] of a word. -/
def sfld (w : Word) (hi lo : Nat) : Int := signed (hi + 1 - lo) (fld w hi lo)

/-- The n-bit two's complement code of an integer. -/
def enc (n : Nat) (v : Int) : Nat := (v % (2 : Int) ^ n).toNat

/-- A word made of fields, each given as (high bit, low bit, value). -/
def mkWord (l : List (Nat × Nat × Nat)) : Word :=
  BitVec.ofNat 32 (l.foldl (fun a f => a + f.2.2 % 2 ^ (f.1 + 1 - f.2.1) * 2 ^ f.2.1) 0)

/-- A truth value as a one-bit field. -/
def b2n (b : Bool) : Nat := if b then 1 else 0

/-- A counter that saturates at m. -/
def satInc (m n : Nat) : Nat := if n < m then n + 1 else m

/-- Adding to a counter that saturates at m. -/
def satAdd (m a n : Nat) : Nat := min m (n + a)

/-- The clamp to the signed n-bit range (00_scope.md, pseudocode). -/
def sat (n : Nat) (x : Int) : Int :=
  let h := (2 : Int) ^ (n - 1)
  if x < -h then -h else if h - 1 < x then h - 1 else x

/-- The clamp to lo..hi. -/
def clampI (lo hi x : Int) : Int := if x < lo then lo else if hi < x then hi else x

/-- a / b to nearest, ties away from zero (R260, R610); b positive. -/
def roundDiv (a : Int) (b : Nat) : Int :=
  if 0 ≤ a then (2 * a + b) / (2 * (b : Int)) else -((2 * (-a) + b) / (2 * (b : Int)))

/-- x^2000, taken as (x^16)^125. -/
def pow2000 (x : Nat) : Nat := (x ^ 16) ^ 125

/-- 10^e for e below 2^16, taken in two steps. -/
def pow10 (e : Nat) : Nat := (10 ^ 256) ^ (e / 256) * 10 ^ (e % 256)

/-- Whether num/den is at least 10^((2 r + 1) / 2000), that is, rounds above r hundredths of a dB. -/
def dbAbove (num den : Nat) (r : Int) : Bool :=
  let e := 2 * r + 1
  if 0 ≤ e then decide (pow10 e.toNat * pow2000 den ≤ pow2000 num)
  else decide (pow2000 den ≤ pow2000 num * pow10 (-e).toNat)

/-- Search for the least r in lo..lo + 2^fuel that is not rounded above. -/
def dbSearch (num den : Nat) : Nat → Int → Int
  | 0, lo => lo
  | f + 1, lo =>
    if dbAbove num den (lo + (2 : Int) ^ f - 1) then dbSearch num den f (lo + (2 : Int) ^ f)
    else dbSearch num den f lo

/-- The power ratio num/den in 0.01 dB, rounded to nearest (R610); both positive, the result within ±327 dB. -/
def db100 (num den : Nat) : Int := dbSearch num den 16 (-32768)

/-- Whether num/den lies above 10^(r / 1000). -/
def dbOver (num den : Nat) (r : Int) : Bool :=
  let n := (num ^ 8) ^ 125
  let d := (den ^ 8) ^ 125
  if 0 ≤ r then decide (pow10 r.toNat * d < n) else decide (d < n * pow10 (-r).toNat)

/-- Search for the least r in lo..lo + 2^fuel above which num/den does not lie. -/
def dbUpSearch (num den : Nat) : Nat → Int → Int
  | 0, lo => lo
  | f + 1, lo =>
    if dbOver num den (lo + (2 : Int) ^ f - 1) then dbUpSearch num den f (lo + (2 : Int) ^ f)
    else dbUpSearch num den f lo

/-- The power ratio num/den in 0.01 dB, rounded up; both positive, the result within ±327 dB. -/
def db100Up (num den : Nat) : Int := dbUpSearch num den 16 (-32768)

/-- Whether num/den is at least 10^(r / 1000); zero is -200.00 dB. -/
def dbAtLeast (num den : Nat) (r : Int) : Bool :=
  if num = 0 then decide (r ≤ -20000)
  else
    let n := (num ^ 8) ^ 125
    let d := (den ^ 8) ^ 125
    if 0 ≤ r then decide (pow10 r.toNat * d ≤ n) else decide (d ≤ n * pow10 (-r).toNat)

/-- Whole milliseconds of a duration in 2^-16 s, rounded down. -/
def wallMs (t : Nat) : Nat := t * 1000 / 65536

/-- The index list of a mask: bit i of m selects i, for i below n. -/
def maskBits (m n : Nat) : List Nat := (List.range n).filter fun i => m / 2 ^ i % 2 == 1

/-- Serial-number comparison of two 32-bit sequence numbers: a lies before b (15_skein_tally.md R484). -/
def seqLt (a b : Nat) : Bool :=
  let d := (b + 2 ^ 32 - a % 2 ^ 32) % 2 ^ 32
  decide (0 < d ∧ d < 2 ^ 31)

/-- The next 32-bit sequence number: numbers wrap from 0xFFFF_FFFF to 0 (R485). -/
def seqNext (a : Nat) : Nat := (a + 1) % 2 ^ 32

/-- Values packed little-endian from byte 0, each given with its width in bytes (15_skein_tally.md R488). -/
def pack : List (Nat × Nat) → Nat
  | [] => 0
  | (n, v) :: l => v % 256 ^ n + 256 ^ n * pack l

/-- The distance from a up to b in 32-bit sequence numbers. -/
def seqDist (a b : Nat) : Nat := (b + 2 ^ 32 - a % 2 ^ 32) % 2 ^ 32

end Sys2Proof.Machine
end

