-- ==== Sys2Proof/Machine/Crypto.lean ====
section
/-!
DEFINITION. Machine/Crypto.lean: the CRC-32 of IEEE 802.3, SHA-384 of FIPS 180-4 and the tag of AES-256-GCM, which
02_converters_riddle.md R92, 06_withy_model.md R234, 15_skein_tally.md R502 and 11_wale_fabric.md R402 use.
-/
namespace Sys2Proof.Machine
open Sys2Proof

/-- One bit step of the reflected CRC-32. -/
def crcBit (c : Nat) : Nat := if c % 2 = 1 then Nat.xor (c / 2) 0xEDB88320 else c / 2

/-- One byte step of the reflected CRC-32. -/
def crcByte (c : Nat) (b : Byte) : Nat :=
  crcBit (crcBit (crcBit (crcBit (crcBit (crcBit (crcBit (crcBit (Nat.xor c b.toNat))))))))

/-- The CRC-32 of IEEE 802.3 over a list of bytes. -/
def crc32 (l : List Byte) : Nat := Nat.xor (l.foldl crcByte 0xFFFFFFFF) 0xFFFFFFFF

/-- The four bytes of a word, little-endian (R9). -/
def wordBytes (w : Word) : List Byte :=
  [BitVec.ofNat 8 w.toNat, BitVec.ofNat 8 (w.toNat / 2 ^ 8), BitVec.ofNat 8 (w.toNat / 2 ^ 16),
   BitVec.ofNat 8 (w.toNat / 2 ^ 24)]

/-- The n low bytes of a number, little-endian. -/
def leBytes : Nat → Nat → List Byte
  | 0, _ => []
  | n + 1, v => BitVec.ofNat 8 v :: leBytes n (v / 256)

/-- The number that bytes give, little-endian. -/
def leNat : List Byte → Nat
  | [] => 0
  | b :: l => b.toNat + 256 * leNat l

/-- The number that bytes give, big-endian. -/
def beNat (l : List Byte) : Nat := l.foldl (fun a b => a * 256 + b.toNat) 0

/-- The n low bytes of a number, big-endian. -/
def beBytes (n v : Nat) : List Byte := (leBytes n v).reverse

/-! ## SHA-384 (FIPS 180-4)

Its constants are the first 64 bits of the fractional parts of roots of the first primes: cube roots of 80 of them for
the rounds, and square roots of the 9th to the 16th for the initial value. -/

/-- The primes below 410: there are 80. -/
def smallPrimes : List Nat :=
  (List.range 410).filter fun n => decide (2 ≤ n) && (List.range n).all fun d => decide (d < 2) || n % d != 0

/-- The largest number of `n` bits whose e-th power is at most x, bit by bit from the top. -/
def rootBits (e x : Nat) : Nat → Nat → Nat
  | 0, r => r
  | n + 1, r => rootBits e x n (if (r + 2 ^ n) ^ e ≤ x then r + 2 ^ n else r)

/-- The first 64 bits of the fractional part of the e-th root of a prime. -/
def rootFraction (e p : Nat) : BitVec 64 := BitVec.ofNat 64 (rootBits e (p * 2 ^ (64 * e)) 69 0)

/-- The eight words that a block changes, the first in front. -/
abbrev Sha := List (BitVec 64)

/-- The initial hash value of SHA-384. -/
def shaInit : Sha := ((smallPrimes.drop 8).take 8).map (rootFraction 2)

/-- The exclusive or of three rotations of a word. -/
def rot3 (x : BitVec 64) (a b c : Nat) : BitVec 64 := x.rotateRight a ^^^ x.rotateRight b ^^^ x.rotateRight c

/-- The same with a shift in place of the last rotation. -/
def rotShift (x : BitVec 64) (a b c : Nat) : BitVec 64 := x.rotateRight a ^^^ x.rotateRight b ^^^ (x >>> c)

/-- The message schedule of a block, newest word first, lengthened by n words. -/
def shaExtend : Nat → List (BitVec 64) → List (BitVec 64)
  | 0, w => w
  | n + 1, w =>
    shaExtend n ((rotShift (w.getD 1 0) 19 61 6 + w.getD 6 0 + rotShift (w.getD 14 0) 1 8 7 + w.getD 15 0) :: w)

/-- One round with the sum of its constant and its word. -/
def shaRound (v : Sha) (k : BitVec 64) : Sha :=
  match v with
  | [a, b, c, d, e, f, g, h] =>
    let choose := g ^^^ (e &&& (f ^^^ g))
    let major := (a &&& (b ||| c)) ||| (b &&& c)
    let t := rot3 e 14 18 41 + choose + h + k
    [t + major + rot3 a 28 34 39, a, b, c, d + t, e, f, g]
  | _ => v

/-- One block of sixteen words. -/
def shaBlock (h : Sha) (w : List (BitVec 64)) : Sha :=
  let words := (shaExtend 64 w.reverse).reverse
  List.zipWith (· + ·) h ((List.zipWith (· + ·) words (smallPrimes.map (rootFraction 3))).foldl shaRound h)

/-- n 64-bit words of a byte list, big-endian. -/
def shaWords : Nat → List Byte → List (BitVec 64)
  | 0, _ => []
  | n + 1, l => BitVec.ofNat 64 (beNat (l.take 8)) :: shaWords n (l.drop 8)

/-- All blocks of a padded message. -/
def shaBlocks : Nat → Sha → List Byte → Sha
  | 0, h, _ => h
  | n + 1, h, l => shaBlocks n (shaBlock h (shaWords 16 l)) (l.drop 128)

/-- The SHA-384 digest of a message, as a 384-bit number, first byte most significant. -/
def sha384 (l : List Byte) : Nat :=
  let zeros := (239 - l.length % 128) % 128
  let p := l ++ [0x80] ++ List.replicate zeros 0 ++ beBytes 16 (8 * l.length)
  ((shaBlocks (p.length / 128) shaInit p).take 6).foldl (fun n x => n * 2 ^ 64 + x.toNat) 0

/-- The leading four bytes of a digest, first byte in bits [7:0]. -/
def digestLead (d : Nat) : Nat := leNat (beBytes 4 (d / 2 ^ 352))

/-! ## AES-256 and the tag of AES-256-GCM (FIPS 197, NIST SP 800-38D; 11_wale_fabric.md R402) -/

/-- A product in the field of 2^8 elements with the polynomial 0x11B, over the n low bits of the second factor. -/
def mul8 : Nat → Nat → Nat → Nat
  | 0, _, _ => 0
  | n + 1, a, b => Nat.xor (if b % 2 = 1 then a else 0) (mul8 n (if 128 ≤ a then Nat.xor (2 * a) 0x11B else 2 * a) (b / 2))

/-- The power 2^n - 2 of an element; with n = 8 its inverse, and 0 for 0. -/
def inv8 (x : Nat) : Nat :=
  (List.range 6).foldl (fun y _ => mul8 8 (mul8 8 y y) x) x |> fun y => mul8 8 y y

/-- The byte substitution: the inverse, then the affine map. -/
def subByte (x : Nat) : Nat :=
  let y := inv8 x * 257
  Nat.xor 0x63 ((List.range 5).foldl (fun a i => Nat.xor a (y / 2 ^ (8 - i) % 256)) 0)

/-- Word i of the key schedule, from the words before it, newest first. -/
def aesWord (i : Nat) (ws : List (List Nat)) : List Nat :=
  let t := ws.headD []
  let u := if i % 8 = 0 then ((t.drop 1 ++ t.take 1).map subByte) else if i % 8 = 4 then t.map subByte else t
  let v := List.zipWith Nat.xor u (ws.getD 7 [])
  if i % 8 = 0 then Nat.xor (v.headD 0) (2 ^ (i / 8 - 1)) :: v.drop 1 else v

/-- The 60 words of the key schedule of a key of 32 bytes. -/
def aesKeys (key : List Nat) : List (List Nat) :=
  let ws := (List.range 8).map fun i => (key.drop (4 * i)).take 4
  ((List.range 52).foldl (fun l i => aesWord (i + 8) l :: l) ws.reverse).reverse

/-- Adding the key of a round. -/
def aesAdd (ks : List (List Nat)) (r : Nat) (b : List Nat) : List Nat :=
  List.zipWith Nat.xor b ((ks.drop (4 * r)).take 4).flatten

/-- The row shift after the byte substitution: byte i of the result stands at i + 4 × its row before. -/
def aesShift (b : List Nat) : List Nat :=
  (List.range 16).map fun i => subByte (b.getD ((i + 4 * (i % 4)) % 16) 0)

/-- The column mix. -/
def aesMix (b : List Nat) : List Nat :=
  (List.range 16).map fun i =>
    let at_ := fun (j : Nat) => b.getD (i / 4 * 4 + (i + j) % 4) 0
    Nat.xor (Nat.xor (mul8 8 (at_ 0) 2) (mul8 8 (at_ 1) 3)) (Nat.xor (at_ 2) (at_ 3))

/-- The bytes of a number of n bytes, most significant first. -/
def topBytes (n v : Nat) : List Nat := (beBytes n v).map BitVec.toNat

/-- The number that bytes give, most significant first. -/
def ofBytes (l : List Nat) : Nat := l.foldl (fun n b => n * 256 + b) 0

/-- The AES-256 encryption of one block, key and block most significant byte first. -/
def aes256 (key x : Nat) : Nat :=
  let ks := aesKeys (topBytes 32 key)
  let b := (List.range 13).foldl (fun b r => aesAdd ks (r + 1) (aesMix (aesShift b))) (aesAdd ks 0 (topBytes 16 x))
  ofBytes (aesAdd ks 14 (aesShift b))

/-- A product of GHASH: the field of 2^128 elements, bit 127 of a number being the coefficient of 1; over the n high bits
of the first factor that remain. -/
def mul128 : Nat → Nat → Nat → Nat
  | 0, _, _ => 0
  | n + 1, x, v =>
    Nat.xor (if x / 2 ^ n % 2 = 1 then v else 0) (mul128 n x (if v % 2 = 1 then Nat.xor (v / 2) (0xE1 * 2 ^ 120) else v / 2))

/-- GHASH over n blocks of 16 bytes, the last filled with zeros. -/
def ghash (h : Nat) : Nat → List Byte → Nat → Nat
  | 0, _, y => y
  | n + 1, l, y => ghash h n (l.drop 16) (mul128 128 (Nat.xor y (beNat ((l ++ List.replicate 16 0).take 16))) h)

/-- The tag of AES-256-GCM over additional data with an empty plaintext, for a nonce of 96 bits. -/
def gcmTag (key nonce : Nat) (aad : List Byte) : Nat :=
  let h := aes256 key 0
  let y := ghash h ((aad.length + 15) / 16) aad 0
  Nat.xor (mul128 128 (Nat.xor y (8 * aad.length * 2 ^ 64)) h) (aes256 key (nonce * 2 ^ 32 + 1))

end Sys2Proof.Machine
end

