-- ==== Sys2Proof/Machine/Regs.lean ====
section
/-!
DEFINITION. Machine/Regs.lean: every register of the spec, by the name its chapter gives it, with its address, the
counts and strides of its indices, and its fields (00_scope.md R11 to R16, 20_address_map.md R577 to R579 and the
register tables of the chapters).
-/
namespace Sys2Proof.Machine

/-- The registers, by the names of the spec. -/
inductive Reg where
  | CONV_CFG | CONV_STAT | ADC_OVR_COUNT | ADC_PEAK | RDL_CFG | NCO_FREQ_LO | NCO_FREQ_HI | NCO_PHASE
  | NCO_CTRL | NCO_ACT_LO | NCO_ACT_HI | DELAY_CFG | BANK_STAT | SWAP_REQ | SNAP_CFG | RDL_STAT | RDL_SYNC
  | RDL_SYNC_TIME | RDL_SYNC_STAT | RDL_GROUP_SWAP | STR_CTRL | STR_STAT | STR_PLACE | STR_LAT | GAIN_CFG
  | GAIN_STAT | ALC_CFG | ALC_STAT | METER_CFG | METER_IN | METER_OUT | METER_CREST | METER_STAT | PAR_STAT
  | STR_GROUP | LIM_LEVEL | LIM_RED | LIM_COUNT | CNC_CTRL | CNC_ADAPT | SOUND_CFG | SOUND_STAT | PLACE_CFG
  | PLACE_STAT | MARGIN_CFG | LOOP_STAT | ISO_STAT | DEPTH_STAT | CAP_STAT | PROF_SEL | TAP | COEF_RE | COEF_IM
  | PROF_WIN | RX_CAL | GRD_CFG | GRD_RECOV | GRD_STAT | GRD_COUNT | GRD_MON | UG_CFG | UG_STAT | BO_CFG
  | BO_STAT | PROT_STAT | PRES_CFG | PRES_STAT | PRES_ID | TDD_CFG | TDD_SLOTS | TDD_SYNC | TDD_ADV | TDD_STAT
  | DUTY_STAT | LEAN_CFG | LEAN_MASK | REG_EDIT | REG_SEQ | REG_STAT | PRG_CMD | PRG_MASK | PRG_RESULT
  | PRG_USE | PRG_WEAVE | PRG_SLOT | PRG_DIG | LIB_DIG | PRG_STAT | PRG_FLAGS | PRG_PCTRL | PRG_PARAM
  | PRC_CTRL | PRC_STAT | PRC_COUNT | TUNE_CFG | TUNE_STAT | TUNE_SEQ | DIV_CFG | DIV_STAT | SCAN_STAT
  | SCAN_CAL | SCAN_REQ | SCAN_DWELL | SCAN_RES | SCAN_CELL | RFFE_CFG | RFFE_CMD | RFFE_DATA | RFFE_STAT
  | COEX_CFG | COEX_PORTS | COEX_STAT | COEX_GRANTS | COIL_CTRL | COIL_STAT | COIL_CFG | COIL_SENSE | SP_MIN
  | SP_MAX | SLEW_UP | SLEW_DN | FIXED_SP | SP_HOST | BANK_HYST | DUTY_LIM | NOTCH_B0 | NOTCH_B1 | NOTCH_B2
  | NOTCH_A1 | NOTCH_A2 | PLAUS_CFG | PLAUS_MG | PLAUS_MO | PLAUS_LIM | COIL_FLAGS | MON_Y | MON_SP | MON_TRIM
  | MON_LA | MON_RES | MON_DUTY | TRACE_CFG | TRACE_STAT | COIL_PARAM | COIL_PCTRL | COIL_IMG | BANK_EDGE
  | BANK_BAND | TRIM_MIN | TRIM_MAX | BANK_DUTY | BANK_KI | COIL_CMD | COIL_RESULT | COIL_USE | CORE_LOAD
  | TAB_SEL | TRACE_VIEW | SNS_GAIN | SNS_OFS | PAIR_CTRL | PAIR_PERIOD | PAIR_DUTY | PAIR_PHASE | PAIR_DT
  | PAIR_TRIP | PAIR_STAT | PAIR_EVT | PL_MASK0 | PL_MASK1 | PL_CMD | PL_TRIP_CFG | PL_TRIP_POL | PL_TRIP_STAT
  | PL_CAL | WALE_CTRL | WALE_STAT | BASKET_ID | FT_LO | FT_HI | TIME_STAT | ROUTE | ROUTE_CMD | PIN_SER_LO
  | PIN_SER_HI | PIN_ADDR | PORT_CTRL | PORT_STAT | PORT_DELAY | PORT_ERR | PORT_EVT | PEER_SER_LO
  | PEER_SER_HI | EP_CFG | EP_PLAY | EP_CTRL | EP_MON | GRT_STAT | GRT_CNT0 | GRT_CNT1 | CANE_CTRL | CANE_STAT
  | CANE_TAGS | CANE_ERR | CANE_PROT | CANE_EVT | CANE_LINK | HDL_STAT | CFG_FIRST | RST_CTRL | UPD_CTRL
  | UPD_STAT | UPD_SIZE | UPD_DIG | TEL_CFG | TEL_VMAX | TEL_IMAX | TEL_V | TEL_I | TEL_P | TEL_VMIN_SEEN
  | TEL_VMAX_SEEN | TEL_STAT | ID_PART | ID_SER_LO | ID_SER_HI | VER_HUB | VER_MCODE | VER_WITHY | BOOT_STAT
  | SKN_CTRL | SKN_STAT | SKN_SEQ | SKN_FIRST | SKN_RD | SKN_LOST | SKN_WIN | TLY_ACK | TLY_NEXT | TLY_RD
  | TLY_STAT | TLY_LOST | WT_LO | WT_SET_LO | WT_HI | WT_SET_HI | WT_CTRL | TLY_SEAL | TLY_WIN | TLY_SEAL_WIN
  | LSH_CTRL | LSH_STAT | LSH_INJ | LSH_SUM | LSH_SRC_CFG | LSH_SRC_STAT | THM_CTRL | THM_THR | THM_STAT
  | THM_DIE | THM_CNT | PWR_CTRL | PWR_STAT | WAKE_CFG | CLK_STAT | PWR_CNT | LID_CTRL | LID_STAT | LID_LOCK
  | LID_CFG | LID_PW | LID_EVAL | DENY_ADDR | DENY_CNT | LID_CERT
  deriving DecidableEq, Repr

/-- Access codes of R14. -/
inductive Acc where
  | rw | ro | wo | w1c | w1s | rc
  deriving DecidableEq, Repr

/-- One field: its bits, its access code, whether it is LK (R15), whether its code is signed, and the values a write
may give it (R91; an empty list admits every value). -/
structure Field where
  name : String
  hi : Nat
  lo : Nat
  acc : Acc
  lk : Bool
  sgn : Bool
  rng : List (Int × Int)
  deriving DecidableEq, Repr

/-- One register: the address of its first instance, the (count, stride) of each index, the reset value of its stored
fields, and its fields. -/
structure RegInfo where
  base : Nat
  dims : List (Nat × Nat)
  reset : Nat
  fields : List Field
  deriving DecidableEq, Repr

/-- A register instance: the register and its indices in the order of `dims` (the die, held as k - 1, first). -/
structure RegKey where
  reg : Reg
  i : Nat
  j : Nat
  l : Nat
  deriving DecidableEq, Repr

/-- A field with no range. -/
def fd (name : String) (hi lo : Nat) (acc : Acc) : Field := ⟨name, hi, lo, acc, false, false, []⟩
/-- A signed field. -/
def fs (name : String) (hi lo : Nat) (acc : Acc) : Field := ⟨name, hi, lo, acc, false, true, []⟩
/-- A field with ranges. -/
def fr (name : String) (hi lo : Nat) (acc : Acc) (r : List (Int × Int)) : Field := ⟨name, hi, lo, acc, false,
        false, r⟩
/-- A signed field with ranges. -/
def fsr (name : String) (hi lo : Nat) (acc : Acc) (r : List (Int × Int)) : Field := ⟨name, hi, lo, acc,
        false, true, r⟩
/-- An LK field. -/
def fk (name : String) (hi lo : Nat) (acc : Acc) (r : List (Int × Int)) : Field := ⟨name, hi, lo, acc, true,
        false, r⟩

/-- The register tables. -/
def Reg.info : Reg → RegInfo
  | .CONV_CFG => ⟨0x1400000, [(7, 0x400000), (4, 0x100)], 0x0,
      [fd "DAC_MODE" 0 0 .rw]⟩
  | .CONV_STAT => ⟨0x1400004, [(7, 0x400000), (4, 0x100)], 0x0,
      [fd "DAC_CLIP" 3 3 .w1c, fd "ADC_OVR" 2 2 .w1c, fd "DAC_READY" 1 1 .ro, fd "ADC_READY" 0 0 .ro]⟩
  | .ADC_OVR_COUNT => ⟨0x1400008, [(7, 0x400000), (4, 0x100)], 0x0,
      [fd "COUNT" 31 0 .rc]⟩
  | .ADC_PEAK => ⟨0x140000c, [(7, 0x400000), (4, 0x100)], 0x0,
      [fd "PEAK" 13 0 .rc]⟩
  | .RDL_CFG => ⟨0x1410000, [(7, 0x400000), (16, 0x100)], 0x201,
      [fr "BW" 26 16 .rw [(0, 2000)], fd "SNAP_EN" 12 12 .rw, fr "TAPS" 10 8 .rw [(0, 4)], fr "H" 2 0 .rw [(1, 5)]]⟩
  | .NCO_FREQ_LO => ⟨0x1410004, [(7, 0x400000), (16, 0x100)], 0x0,
      [fd "FTW_LO" 31 0 .rw]⟩
  | .NCO_FREQ_HI => ⟨0x1410008, [(7, 0x400000), (16, 0x100)], 0x0,
      [fd "FTW_HI" 15 0 .rw]⟩
  | .NCO_PHASE => ⟨0x141000c, [(7, 0x400000), (16, 0x100)], 0x0,
      [fd "PHASE" 31 0 .rw]⟩
  | .NCO_CTRL => ⟨0x1410010, [(7, 0x400000), (16, 0x100)], 0x0,
      [fd "PENDING" 2 2 .ro, fd "ZONE" 1 1 .ro, fd "APPLY" 0 0 .w1s]⟩
  | .NCO_ACT_LO => ⟨0x1410014, [(7, 0x400000), (16, 0x100)], 0x0,
      [fd "ACT" 31 0 .ro]⟩
  | .NCO_ACT_HI => ⟨0x1410018, [(7, 0x400000), (16, 0x100)], 0x0,
      [fd "ACT" 31 0 .ro]⟩
  | .DELAY_CFG => ⟨0x1410020, [(7, 0x400000), (16, 0x100)], 0x0,
      [fd "DELAY_ACT" 31 18 .ro, fd "SLEW" 16 16 .rw, fd "DELAY" 13 0 .rw]⟩
  | .BANK_STAT => ⟨0x1410030, [(7, 0x400000), (16, 0x100)], 0x0,
      [fd "FADE_POS" 28 16 .ro, fd "PEND_K" 15 12 .ro, fd "PEND_TARGET" 11 11 .ro, fd "PENDING" 10 10 .ro,
        fd "REPLACED" 9 9 .w1c, fd "FADE_K" 8 5 .ro, fd "FADE_TARGET" 4 4 .ro, fd "FADING" 3 3 .ro,
        fd "ACTIVE" 0 0 .ro]⟩
  | .SWAP_REQ => ⟨0x1410034, [(7, 0x400000), (16, 0x100)], 0x0,
      [fd "TARGET" 8 8 .wo, fr "K" 3 0 .wo [(0, 12)]]⟩
  | .SNAP_CFG => ⟨0x1410040, [(7, 0x400000), (16, 0x100)], 0x10,
      [fr "L" 10 0 .rw [(4, 1024)]]⟩
  | .RDL_STAT => ⟨0x1410050, [(7, 0x400000), (16, 0x100)], 0x0,
      [fd "CFG_FAULT" 27 24 .ro, fd "DISCARDED" 17 17 .w1c, fd "VALID" 16 16 .ro, fd "FILL_LEFT" 10 0 .ro]⟩
  | .RDL_SYNC => ⟨0x1411000, [(7, 0x400000)], 0x0,
      [fd "CANCEL" 17 17 .wo, fd "AT_TIME" 16 16 .wo, fd "MASK" 15 0 .wo]⟩
  | .RDL_SYNC_TIME => ⟨0x1411004, [(7, 0x400000)], 0x0,
      [fd "TIME" 31 0 .rw]⟩
  | .RDL_SYNC_STAT => ⟨0x1411008, [(7, 0x400000)], 0x0,
      [fd "MISSED" 17 17 .w1c, fd "ARMED" 16 16 .ro, fd "ARMED_MASK" 15 0 .ro]⟩
  | .RDL_GROUP_SWAP => ⟨0x141100c, [(7, 0x400000)], 0x0,
      [fd "TARGET" 24 24 .wo, fr "K" 19 16 .wo [(0, 12)], fd "MASK" 15 0 .wo]⟩
  | .STR_CTRL => ⟨0x1420000, [(7, 0x400000), (16, 0x1000)], 0x0,
      [fd "STOP" 1 1 .w1s, fd "START" 0 0 .w1s]⟩
  | .STR_STAT => ⟨0x1420004, [(7, 0x400000), (16, 0x1000)], 0x0,
      [fd "MUTE" 31 24 .ro, fd "START_FAULT" 23 20 .ro, fd "GATE_OPEN" 3 3 .ro, fd "STATE" 2 0 .ro]⟩
  | .STR_PLACE => ⟨0x1420008, [(7, 0x400000), (16, 0x1000)], 0x0,
      [fd "OUT_EP" 31 24 .rw, fd "IN_EP" 23 16 .rw, fd "LIM_PORT" 11 10 .rw, fd "OUT_PORT" 9 8 .rw,
        fr "OUT_KIND" 7 6 .rw [(0, 2)], fd "IN_KIND" 2 2 .rw, fd "IN_PORT" 1 0 .rw]⟩
  | .STR_LAT => ⟨0x142000c, [(7, 0x400000), (16, 0x1000)], 0x0,
      [fd "LAT" 31 0 .ro]⟩
  | .GAIN_CFG => ⟨0x1420010, [(7, 0x400000), (16, 0x1000)], 0x14,
      [fsr "GAIN" 27 16 .rw [(-800, 1000)], fr "RAMP" 9 0 .rw [(1, 1023)]]⟩
  | .GAIN_STAT => ⟨0x1420014, [(7, 0x400000), (16, 0x1000)], 0x0,
      [fd "APPLIED" 27 16 .ro, fd "LIMIT" 4 0 .ro]⟩
  | .ALC_CFG => ⟨0x1420018, [(7, 0x400000), (16, 0x1000)], 0xa20f830,
      [fd "ALC_EN" 31 31 .rw, fr "DECAY" 28 24 .rw [(0, 20)], fd "ATTACK" 23 20 .rw,
        fsr "TARGET" 15 0 .rw [(-6000, 0)]]⟩
  | .ALC_STAT => ⟨0x142001c, [(7, 0x400000), (16, 0x1000)], 0x0,
      [fd "G_ALC" 27 16 .ro, fd "P_IN" 15 0 .ro]⟩
  | .METER_CFG => ⟨0x1420020, [(7, 0x400000), (16, 0x1000)], 0x6,
      [fr "WIN" 3 0 .rw [(0, 10)]]⟩
  | .METER_IN => ⟨0x1420024, [(7, 0x400000), (16, 0x1000)], 0x0,
      [fd "PEAK" 31 16 .ro, fd "POWER" 15 0 .ro]⟩
  | .METER_OUT => ⟨0x1420028, [(7, 0x400000), (16, 0x1000)], 0x0,
      [fd "PEAK" 31 16 .ro, fd "POWER" 15 0 .ro]⟩
  | .METER_CREST => ⟨0x142002c, [(7, 0x400000), (16, 0x1000)], 0x0,
      [fd "CREST_OUT" 31 16 .ro, fd "CREST_IN" 15 0 .ro]⟩
  | .METER_STAT => ⟨0x1420030, [(7, 0x400000), (16, 0x1000)], 0x0,
      [fd "VALID_BLOCKS" 26 16 .ro, fd "SEQ" 15 0 .ro]⟩
  | .PAR_STAT => ⟨0x1420034, [(7, 0x400000), (16, 0x1000)], 0x0,
      [fd "PAR_ERR" 31 16 .rc, fd "INV_BLOCKS" 15 0 .rc]⟩
  | .STR_GROUP => ⟨0x1430000, [(7, 0x400000)], 0x0,
      [fd "STOP_MASK" 31 16 .wo, fd "START_MASK" 15 0 .wo]⟩
  | .LIM_LEVEL => ⟨0x1488000, [(7, 0x400000), (4, 0x100)], 0x0,
      [fd "LEVEL" 15 0 .ro]⟩
  | .LIM_RED => ⟨0x1488004, [(7, 0x400000), (4, 0x100)], 0x0,
      [fd "MAX_RED" 31 16 .rc, fd "RED" 15 0 .ro]⟩
  | .LIM_COUNT => ⟨0x1488008, [(7, 0x400000), (4, 0x100)], 0x0,
      [fd "COUNT" 31 0 .rc]⟩
  | .CNC_CTRL => ⟨0x1440000, [(7, 0x400000), (16, 0x1000)], 0x1,
      [fd "SOUND_REQ" 4 4 .w1s, fd "PLACE_REQ" 3 3 .w1s, fd "PLACE_MODE" 2 2 .rw, fd "FREEZE" 1 1 .rw,
        fd "ADAPT_EN" 0 0 .rw]⟩
  | .CNC_ADAPT => ⟨0x1440004, [(7, 0x400000), (16, 0x1000)], 0x1008,
      [fr "LEAK" 12 8 .rw [(0, 0), (8, 31)], fr "MU" 4 0 .rw [(4, 20)]]⟩
  | .SOUND_CFG => ⟨0x1440008, [(7, 0x400000), (16, 0x1000)], 0x41e,
      [fr "AVG" 10 8 .rw [(0, 6)], fr "PROBE_DB" 5 0 .rw [(25, 45)]]⟩
  | .SOUND_STAT => ⟨0x144000c, [(7, 0x400000), (16, 0x1000)], 0x0,
      [fd "POLY" 31 23 .ro, fd "SILENT" 19 19 .ro, fd "REQ_PENDING" 18 18 .ro, fd "VALID" 17 17 .ro,
        fd "LAPSED" 16 16 .w1c, fd "PERIODS" 15 0 .ro]⟩
  | .PLACE_CFG => ⟨0x1440010, [(7, 0x400000), (16, 0x1000)], 0x142d02,
      [fr "PLACE_TRIG" 21 16 .rw [(6, 40)], fr "PLACE_FLOOR" 13 8 .rw [(20, 60)], fd "CLUSTER" 1 0 .rw]⟩
  | .PLACE_STAT => ⟨0x1440014, [(7, 0x400000), (16, 0x1000)], 0x0,
      [fd "PLACE_COUNT" 31 16 .ro, fd "TAPS_USED" 15 8 .ro, fd "PLACE_PENDING" 0 0 .ro]⟩
  | .MARGIN_CFG => ⟨0x1440018, [(7, 0x400000), (16, 0x1000)], 0x12c,
      [fk "K_COLD" 25 16 .rw [(0, 600)], fr "MARGIN" 9 0 .rw [(200, 800)]]⟩
  | .LOOP_STAT => ⟨0x144001c, [(7, 0x400000), (16, 0x1000)], 0x0,
      [fd "K_EFF" 31 16 .ro, fd "K_PHYS" 15 0 .ro]⟩
  | .ISO_STAT => ⟨0x1440020, [(7, 0x400000), (16, 0x1000)], 0x0,
      [fd "I_EFF" 31 16 .ro, fd "I_PHYS" 15 0 .ro]⟩
  | .DEPTH_STAT => ⟨0x1440024, [(7, 0x400000), (16, 0x1000)], 0x0,
      [fd "DR" 31 16 .ro, fd "C_DEPTH" 15 0 .ro]⟩
  | .CAP_STAT => ⟨0x1440028, [(7, 0x400000), (16, 0x1000)], 0x0,
      [fd "CAP" 27 16 .ro, fd "COLD" 3 3 .ro, fd "GUARD_CAP" 2 2 .ro, fd "BROKEN" 1 1 .ro, fd "MEMBER" 0 0 .ro]⟩
  | .PROF_SEL => ⟨0x144002c, [(7, 0x400000), (16, 0x1000)], 0x0,
      [fd "HOLD" 4 4 .rw, fd "REF" 3 3 .rw, fd "PAGE" 2 0 .rw]⟩
  | .TAP => ⟨0x1440400, [(7, 0x400000), (16, 0x1000), (128, 0x4)], 0x0,
      [fd "EN" 16 16 .rw, fd "REF" 11 11 .rw, fd "LAG" 10 0 .rw]⟩
  | .COEF_RE => ⟨0x1440800, [(7, 0x400000), (16, 0x1000), (128, 0x8)], 0x0,
      [fs "VALUE" 23 0 .rw]⟩
  | .COEF_IM => ⟨0x1440804, [(7, 0x400000), (16, 0x1000), (128, 0x8)], 0x0,
      [fs "VALUE" 23 0 .rw]⟩
  | .PROF_WIN => ⟨0x1440c00, [(7, 0x400000), (16, 0x1000), (128, 0x4)], 0x0,
      [fd "ODD" 31 16 .ro, fd "EVEN" 15 0 .ro]⟩
  | .RX_CAL => ⟨0x1450000, [(7, 0x400000), (4, 0x4)], 0x0,
      [fs "R_IN" 15 0 .rw]⟩
  | .GRD_CFG => ⟨0x1480000, [(7, 0x400000), (16, 0x100)], 0xb8091008,
      [fd "C3_EN" 31 31 .rw, fr "RUN" 30 28 .rw [(2, 7)], fr "RHO_THR" 27 20 .rw [(64, 230)],
        fr "PEAK_THR" 19 15 .rw [(10, 30)], fr "GROW" 14 11 .rw [(1, 12)], fr "OVR_THR" 3 0 .rw [(1, 15)]]⟩
  | .GRD_RECOV => ⟨0x1480004, [(7, 0x400000), (16, 0x100)], 0x40a0040,
      [fr "TRIP_MAX" 27 24 .rw [(1, 15)], fr "TRIP_WIN" 23 16 .rw [(1, 255)], fr "HOLD" 15 0 .rw [(16, 65535)]]⟩
  | .GRD_STAT => ⟨0x1480008, [(7, 0x400000), (16, 0x100)], 0x0,
      [fd "WIN_TRIPS" 27 24 .ro, fd "LAST_CRIT" 18 16 .ro, fd "TRIPPED" 2 2 .w1c, fd "PHASE" 1 0 .ro]⟩
  | .GRD_COUNT => ⟨0x148000c, [(7, 0x400000), (16, 0x100)], 0x0,
      [fd "COUNT" 31 0 .rc]⟩
  | .GRD_MON => ⟨0x1480010, [(7, 0x400000), (16, 0x100)], 0x0,
      [fd "RHO" 31 24 .ro, fd "PAR" 23 16 .ro, fd "GROWTH" 15 0 .ro]⟩
  | .UG_CFG => ⟨0x1420100, [(7, 0x400000), (16, 0x1000)], 0x8014e4a8,
      [fd "UG_EN" 31 31 .rw, fr "KEEP" 30 26 .rw [(0, 5)], fr "HOLD" 25 16 .rw [(1, 1000)],
        fsr "THR" 15 0 .rw [(-9000, 0)]]⟩
  | .UG_STAT => ⟨0x1420104, [(7, 0x400000), (16, 0x1000)], 0x0,
      [fd "OPENINGS" 31 16 .rc, fd "HOLD_LEFT" 13 4 .ro, fd "STATE" 1 0 .ro]⟩
  | .BO_CFG => ⟨0x1420108, [(7, 0x400000), (16, 0x1000)], 0xa00f060,
      [fd "BO_EN" 31 31 .rw, fd "BO_HOLD" 30 24 .rw, fd "UL_MASK" 23 16 .rw, fsr "BO_THR" 15 0 .rw [(-9000, 0)]]⟩
  | .BO_STAT => ⟨0x142010c, [(7, 0x400000), (16, 0x1000)], 0x0,
      [fd "TARGET" 25 16 .ro, fd "APPLIED" 9 0 .ro]⟩
  | .PROT_STAT => ⟨0x1420110, [(7, 0x400000), (16, 0x1000)], 0x0,
      [fd "REG_FAULT" 27 24 .ro, fd "PRES_PENDING" 8 8 .ro, fd "ENTRY_OK" 3 3 .ro, fd "ENTRY" 2 0 .ro]⟩
  | .PRES_CFG => ⟨0x1431000, [(7, 0x400000), (8, 0x100)], 0x4000000,
      [fd "EN" 31 31 .rw, fd "PORT" 30 30 .rw, fr "DWELL" 29 23 .rw [(1, 80)], fd "FREQ" 22 0 .rw]⟩
  | .PRES_STAT => ⟨0x1431004, [(7, 0x400000), (8, 0x100)], 0x0,
      [fd "CHECKS" 31 16 .ro, fd "LAST_ID" 15 8 .ro, fd "MISSES" 6 4 .ro, fd "STATE" 2 0 .ro]⟩
  | .PRES_ID => ⟨0x1431040, [(7, 0x400000), (8, 0x100), (32, 0x4)], 0x0,
      [fd "VALID" 31 31 .rw, fd "RAT" 30 30 .rw, fd "PCI" 9 0 .rw]⟩
  | .TDD_CFG => ⟨0x1432000, [(7, 0x400000)], 0xa0a,
      [fd "EN" 31 31 .rw, fr "SCS" 30 29 .rw [(0, 2)], fr "PERIOD" 28 25 .rw [(0, 9)], fd "SP_DL" 23 20 .rw,
        fd "SP_UL" 19 16 .rw, fd "GUARD_LEAD" 15 8 .rw, fd "GUARD_TAIL" 7 0 .rw]⟩
  | .TDD_SLOTS => ⟨0x1432004, [(7, 0x400000), (3, 0x4)], 0x0,
      [fd "SLOTS" 31 0 .rw]⟩
  | .TDD_SYNC => ⟨0x1432010, [(7, 0x400000)], 0x20000000,
      [fr "HOLDOVER" 31 28 .rw [(1, 15)], fr "SSB_OFS" 23 0 .rw [(0, 10000000)]]⟩
  | .TDD_ADV => ⟨0x1432014, [(7, 0x400000)], 0x0,
      [fd "APPLY" 31 31 .w1s, fr "UL_ADV" 15 0 .rw [(0, 50000)]]⟩
  | .TDD_STAT => ⟨0x1432018, [(7, 0x400000)], 0x0,
      [fd "SYNC_AGE" 31 16 .ro, fd "TDD_FAULT" 15 12 .ro, fd "JUMP" 3 3 .w1c, fd "PENDING" 2 2 .ro,
        fd "VALID" 1 1 .ro, fd "ACTIVE" 0 0 .ro]⟩
  | .DUTY_STAT => ⟨0x1432100, [(7, 0x400000), (4, 0x4)], 0x0,
      [fd "HITS" 31 16 .rc, fd "MAX" 15 0 .rc]⟩
  | .LEAN_CFG => ⟨0x1433000, [(7, 0x400000), (4, 0x10)], 0x2000032,
      [fd "EN" 31 31 .rw, fr "PERIOD" 26 24 .rw [(0, 5)], fr "DEPTH" 20 16 .rw [(0, 20)],
        fr "WINDOW" 7 0 .rw [(1, 50)]]⟩
  | .LEAN_MASK => ⟨0x1433004, [(7, 0x400000), (4, 0x10)], 0x0,
      [fd "STATE" 17 16 .ro, fd "UL_MASK" 15 8 .rw, fd "DL_MASK" 7 0 .rw]⟩
  | .REG_EDIT => ⟨0xd0000, [], 0x0,
      [fd "EDIT_CODE" 23 16 .ro, fd "EDIT_FAULT" 11 8 .ro, fd "BUSY" 4 4 .ro, fd "STAGED" 3 3 .ro,
        fk "DISCARD" 2 2 .w1s [], fk "COMMIT" 1 1 .w1s [], fk "OPEN" 0 0 .w1s []]⟩
  | .REG_SEQ => ⟨0xd0004, [], 0x0,
      [fd "SEQ" 31 0 .ro]⟩
  | .REG_STAT => ⟨0xd0008, [], 0x0,
      [fd "COPY_B_OK" 2 2 .ro, fd "COPY_A_OK" 1 1 .ro, fd "ACTIVE" 0 0 .ro]⟩
  | .PRG_CMD => ⟨0x1434000, [(7, 0x400000)], 0x0,
      [fd "LIB" 20 16 .wo, fd "SLOT" 11 8 .wo, fr "OP" 3 0 .wo [(1, 7)]]⟩
  | .PRG_MASK => ⟨0x1434004, [(7, 0x400000)], 0x0,
      [fd "MASK" 15 0 .rw]⟩
  | .PRG_RESULT => ⟨0x1434008, [(7, 0x400000)], 0x0,
      [fd "BUSY" 31 31 .ro, fd "CODE" 23 16 .ro, fd "STRAND" 11 8 .ro, fd "FAULT" 7 4 .ro, fd "OP" 3 0 .ro]⟩
  | .PRG_USE => ⟨0x143400c, [(7, 0x400000)], 0x0,
      [fd "PMEM_FREE" 31 16 .ro, fd "CMEM_FREE" 15 4 .ro]⟩
  | .PRG_WEAVE => ⟨0x1434010, [(7, 0x400000)], 0x0,
      [fd "USED" 4 0 .ro]⟩
  | .PRG_SLOT => ⟨0x1434040, [(7, 0x400000), (16, 0x4)], 0x0,
      [fd "BOUND" 31 16 .ro, fd "VALID" 15 15 .ro, fd "H" 14 12 .ro, fd "PIPE" 11 8 .ro, fd "DIR" 1 0 .ro]⟩
  | .PRG_DIG => ⟨0x1434080, [(7, 0x400000), (16, 0x4)], 0x0,
      [fd "DIGEST" 31 0 .ro]⟩
  | .LIB_DIG => ⟨0x1434100, [(7, 0x400000), (32, 0x4)], 0x0,
      [fd "DIGEST" 31 0 .ro]⟩
  | .PRG_STAT => ⟨0x1420200, [(7, 0x400000), (16, 0x1000)], 0x0,
      [fd "ACCEPTED" 31 31 .ro, fd "SLOT" 27 24 .ro, fd "PIPE" 23 20 .ro, fd "CYCLES" 15 0 .ro]⟩
  | .PRG_FLAGS => ⟨0x1420204, [(7, 0x400000), (16, 0x1000)], 0x0,
      [fd "ECC" 4 4 .w1c, fd "EVENT" 3 3 .w1c, fd "TRIP" 2 2 .w1c, fd "OCLIP" 1 1 .w1c, fd "SAT" 0 0 .w1c]⟩
  | .PRG_PCTRL => ⟨0x1420208, [(7, 0x400000), (16, 0x1000)], 0x0,
      [fd "PENDING" 1 1 .ro, fd "APPLY" 0 0 .w1s]⟩
  | .PRG_PARAM => ⟨0x1420210, [(7, 0x400000), (16, 0x1000), (8, 0x4)], 0x0,
      [fd "VALUE" 31 0 .rw]⟩
  | .PRC_CTRL => ⟨0x14c0000, [(7, 0x400000), (4, 0x100)], 0x0,
      [fd "DIV_EN" 9 9 .rw, fd "TUNE_EN" 8 8 .rw, fd "DUPLEX" 4 4 .rw, fr "TARGET" 2 0 .rw [(0, 4)]]⟩
  | .PRC_STAT => ⟨0x14c0004, [(7, 0x400000), (4, 0x100)], 0x0,
      [fd "RESULT" 31 24 .ro, fd "COEX_HELD" 19 19 .ro, fd "TRSW" 18 18 .ro, fd "PAEN" 17 17 .ro,
        fd "LOCK" 16 16 .ro, fd "PENDING" 11 11 .ro, fd "PEND_TARGET" 10 8 .ro, fd "TRANSIT" 3 3 .ro,
        fd "STATE" 2 0 .ro]⟩
  | .PRC_COUNT => ⟨0x14c0008, [(7, 0x400000), (4, 0x100)], 0x0,
      [fd "UNLOCKS" 31 16 .rc, fd "REFUSED" 15 0 .rc]⟩
  | .TUNE_CFG => ⟨0x14c0010, [(7, 0x400000), (4, 0x100)], 0x1640a00,
      [fr "COUNT" 27 24 .rw [(1, 8)], fr "RL_THR" 23 16 .rw [(30, 250)], fr "HOLD" 15 8 .rw [(1, 255)]]⟩
  | .TUNE_STAT => ⟨0x14c0014, [(7, 0x400000), (4, 0x100)], 0x0,
      [fd "RL" 31 16 .ro, fd "SEARCHES" 15 8 .rc, fd "MEAS_VALID" 3 3 .ro, fd "STATE" 2 0 .ro]⟩
  | .TUNE_SEQ => ⟨0x14c0020, [(7, 0x400000), (4, 0x100), (8, 0x4)], 0x0,
      [fr "USID" 31 28 .rw [(1, 15)], fd "LEN" 24 24 .rw, fd "ADDR" 23 16 .rw, fd "DATA" 15 0 .rw]⟩
  | .DIV_CFG => ⟨0x14c0040, [(7, 0x400000), (4, 0x100)], 0x60a0214,
      [fr "STEP" 28 24 .rw [(3, 20)], fr "MIN_INT" 23 16 .rw [(1, 255)], fr "LEAD" 15 11 .rw [(0, 20)],
        fd "AVG" 10 8 .rw, fr "HYST" 7 0 .rw [(5, 100)]]⟩
  | .DIV_STAT => ⟨0x14c0044, [(7, 0x400000), (4, 0x100)], 0x0,
      [fd "SWITCHES" 31 24 .rc, fd "NO_REF" 17 17 .ro, fd "SELECTED" 16 16 .ro, fd "DELTA" 15 0 .ro]⟩
  | .SCAN_STAT => ⟨0x14c1000, [(7, 0x400000)], 0x0,
      [fd "REQ_CODE" 31 24 .ro, fd "REQ_DONE" 20 20 .ro, fd "CAL_FAIL" 19 19 .w1c, fd "LOCK" 18 18 .ro,
        fd "TASK" 11 8 .ro, fd "STATE" 2 0 .ro]⟩
  | .SCAN_CAL => ⟨0x14c1004, [(7, 0x400000)], 0x0,
      [fd "IMG_REJ" 31 16 .ro, fd "CAL_TEMP" 15 8 .ro]⟩
  | .SCAN_REQ => ⟨0x14c1008, [(7, 0x400000)], 0x0,
      [fd "GO" 31 31 .w1s, fd "ABORT" 30 30 .w1s, fr "MODE" 29 28 .rw [(0, 1)], fd "INPUT" 27 26 .rw,
        fr "FREQ" 22 0 .rw [(600000, 7200000)]]⟩
  | .SCAN_DWELL => ⟨0x14c100c, [(7, 0x400000)], 0x10000a,
      [fr "L" 26 16 .rw [(4, 1024)], fr "DWELL" 15 0 .rw [(1, 20000)]]⟩
  | .SCAN_RES => ⟨0x14c1010, [(7, 0x400000)], 0x0,
      [fd "CELLS" 19 16 .ro, fd "POWER" 15 0 .ro]⟩
  | .SCAN_CELL => ⟨0x14c1020, [(7, 0x400000), (8, 0x4)], 0x0,
      [fd "VALID" 31 31 .ro, fd "RAT" 30 30 .ro, fd "SINR" 23 16 .ro, fd "PCI" 9 0 .ro]⟩
  | .RFFE_CFG => ⟨0x14c2000, [(7, 0x400000)], 0xa,
      [fd "EN" 8 8 .rw, fr "DIV" 7 0 .rw [(5, 255)]]⟩
  | .RFFE_CMD => ⟨0x14c2004, [(7, 0x400000)], 0x0,
      [fd "GO" 31 31 .w1s, fr "TYPE" 26 24 .rw [(0, 4)], fd "USID" 23 20 .rw, fd "LEN" 16 16 .rw,
        fd "ADDR" 7 0 .rw]⟩
  | .RFFE_DATA => ⟨0x14c2008, [(7, 0x400000)], 0x0,
      [fd "DATA" 15 0 .rw]⟩
  | .RFFE_STAT => ⟨0x14c200c, [(7, 0x400000)], 0x0,
      [fd "PAR_ERR" 31 16 .rc, fd "PARITY" 8 8 .w1c, fd "BUSY" 0 0 .ro]⟩
  | .COEX_CFG => ⟨0xc0000, [], 0x203203e8,
      [fr "ROLE" 31 30 .rw [(0, 2)], fd "PRI_BURST" 29 29 .rw, fd "LEAD" 23 16 .rw,
        fr "WAIT" 15 0 .rw [(1, 65535)]]⟩
  | .COEX_PORTS => ⟨0xc0004, [], 0x0,
      [fd "MASK" 27 0 .rw]⟩
  | .COEX_STAT => ⟨0xc0008, [], 0x0,
      [fd "DENIALS" 31 16 .rc, fd "PRI" 2 2 .ro, fd "GNT" 1 1 .ro, fd "REQ" 0 0 .ro]⟩
  | .COEX_GRANTS => ⟨0xc000c, [], 0x0,
      [fd "COUNT" 31 0 .rc]⟩
  | .COIL_CTRL => ⟨0x70000, [(24, 0x200)], 0x0,
      [fd "HOST_SEC" 2 2 .rw, fd "STOP" 1 1 .w1s, fd "START" 0 0 .w1s]⟩
  | .COIL_STAT => ⟨0x70004, [(24, 0x200)], 0x0,
      [fd "START_FAULT" 31 28 .ro, fd "BANK" 26 24 .ro, fd "LAW" 18 18 .ro, fd "LA_VALID" 17 17 .ro,
        fd "MODE" 16 16 .ro, fd "STATE" 0 0 .ro]⟩
  | .COIL_CFG => ⟨0x70008, [(24, 0x200)], 0x1001000,
      [fd "CLASS" 31 30 .ro, fd "CORE" 29 28 .rw, fr "N_BANKS" 27 24 .rw [(1, 8)],
        fr "PAIR_FIRST" 21 16 .rw [(0, 47)], fr "PAIR_COUNT" 14 12 .rw [(1, 4)], fd "BANK_SEL" 3 3 .rw,
        fd "PLAUS_EN" 2 2 .rw, fd "NOTCH_EN" 1 1 .rw, fd "TRIM_EN" 0 0 .rw]⟩
  | .COIL_SENSE => ⟨0x7000c, [(24, 0x200)], 0x3f3f3f,
      [fr "SNS_AUX" 21 16 .rw [(0, 47), (63, 63)], fr "SNS_CUR" 13 8 .rw [(0, 47), (63, 63)],
        fr "SNS_FB" 5 0 .rw [(0, 47), (63, 63)]]⟩
  | .SP_MIN => ⟨0x70010, [(24, 0x200)], 0x0,
      [fs "VALUE" 31 0 .rw]⟩
  | .SP_MAX => ⟨0x70014, [(24, 0x200)], 0x0,
      [fs "VALUE" 31 0 .rw]⟩
  | .SLEW_UP => ⟨0x70018, [(24, 0x200)], 0x0,
      [fs "VALUE" 31 0 .rw]⟩
  | .SLEW_DN => ⟨0x7001c, [(24, 0x200)], 0x0,
      [fs "VALUE" 31 0 .rw]⟩
  | .FIXED_SP => ⟨0x70020, [(24, 0x200)], 0x0,
      [fs "VALUE" 31 0 .rw]⟩
  | .SP_HOST => ⟨0x70024, [(24, 0x200)], 0x0,
      [fs "VALUE" 31 0 .rw]⟩
  | .BANK_HYST => ⟨0x70028, [(24, 0x200)], 0x0,
      [fs "VALUE" 31 0 .rw]⟩
  | .DUTY_LIM => ⟨0x7002c, [(24, 0x200)], 0xf3330000,
      [fd "D_MAX" 31 16 .rw, fd "D_MIN" 15 0 .rw]⟩
  | .NOTCH_B0 => ⟨0x70030, [(24, 0x200)], 0x40000000,
      [fs "COEF" 31 0 .rw]⟩
  | .NOTCH_B1 => ⟨0x70034, [(24, 0x200)], 0x0,
      [fs "COEF" 31 0 .rw]⟩
  | .NOTCH_B2 => ⟨0x70038, [(24, 0x200)], 0x0,
      [fs "COEF" 31 0 .rw]⟩
  | .NOTCH_A1 => ⟨0x7003c, [(24, 0x200)], 0x0,
      [fs "COEF" 31 0 .rw]⟩
  | .NOTCH_A2 => ⟨0x70040, [(24, 0x200)], 0x0,
      [fs "COEF" 31 0 .rw]⟩
  | .PLAUS_CFG => ⟨0x70044, [(24, 0x200)], 0x804,
      [fr "RES_CNT" 15 8 .rw [(1, 255)], fr "MA" 4 0 .rw [(0, 16)]]⟩
  | .PLAUS_MG => ⟨0x70048, [(24, 0x200)], 0x0,
      [fs "VALUE" 31 0 .rw]⟩
  | .PLAUS_MO => ⟨0x7004c, [(24, 0x200)], 0x0,
      [fs "VALUE" 31 0 .rw]⟩
  | .PLAUS_LIM => ⟨0x70050, [(24, 0x200)], 0x0,
      [fs "VALUE" 31 0 .rw]⟩
  | .COIL_FLAGS => ⟨0x70054, [(24, 0x200)], 0x0,
      [fd "LA_LOST" 7 7 .w1c, fd "OVERRUN" 6 6 .w1c, fd "PLAUS" 5 5 .w1c, fd "SLEW_LIM" 4 4 .w1c,
        fd "NOTCH_SAT" 3 3 .w1c, fd "DUTY_SAT" 2 2 .w1c, fd "TRIM_SAT" 1 1 .w1c, fd "SAT" 0 0 .w1c]⟩
  | .MON_Y => ⟨0x70058, [(24, 0x200)], 0x0,
      [fd "VALUE" 31 0 .ro]⟩
  | .MON_SP => ⟨0x7005c, [(24, 0x200)], 0x0,
      [fd "VALUE" 31 0 .ro]⟩
  | .MON_TRIM => ⟨0x70060, [(24, 0x200)], 0x0,
      [fd "VALUE" 31 0 .ro]⟩
  | .MON_LA => ⟨0x70064, [(24, 0x200)], 0x0,
      [fd "VALUE" 31 0 .ro]⟩
  | .MON_RES => ⟨0x70068, [(24, 0x200)], 0x0,
      [fd "VALUE" 31 0 .ro]⟩
  | .MON_DUTY => ⟨0x7006c, [(24, 0x200)], 0x0,
      [fd "DUTY" 15 0 .ro]⟩
  | .TRACE_CFG => ⟨0x70070, [(24, 0x200)], 0x0,
      [fd "ARM" 31 31 .w1s, fd "FORCE" 30 30 .w1s, fd "TRIG_MASK" 29 24 .rw, fd "DEC" 23 20 .rw,
        fd "SHIFT" 19 16 .rw, fd "SEL_B" 15 12 .rw, fd "SEL_A" 11 8 .rw, fd "PRE" 7 0 .rw]⟩
  | .TRACE_STAT => ⟨0x70074, [(24, 0x200)], 0x0,
      [fd "TRIG_IDX" 27 16 .ro, fd "STATE" 1 0 .ro]⟩
  | .COIL_PARAM => ⟨0x70080, [(24, 0x200), (8, 0x4)], 0x0,
      [fd "VALUE" 31 0 .rw]⟩
  | .COIL_PCTRL => ⟨0x700a0, [(24, 0x200)], 0x0,
      [fd "PENDING" 1 1 .ro, fd "APPLY" 0 0 .w1s]⟩
  | .COIL_IMG => ⟨0x700a4, [(24, 0x200)], 0x0,
      [fd "DIGEST" 31 0 .ro]⟩
  | .BANK_EDGE => ⟨0x70100, [(24, 0x200), (8, 0x20)], 0x0,
      [fs "VALUE" 31 0 .rw]⟩
  | .BANK_BAND => ⟨0x70108, [(24, 0x200), (8, 0x20)], 0x0,
      [fs "VALUE" 31 0 .rw]⟩
  | .TRIM_MIN => ⟨0x70110, [(24, 0x200), (8, 0x20)], 0x0,
      [fs "VALUE" 31 0 .rw]⟩
  | .TRIM_MAX => ⟨0x70114, [(24, 0x200), (8, 0x20)], 0x0,
      [fs "VALUE" 31 0 .rw]⟩
  | .BANK_DUTY => ⟨0x70104, [(24, 0x200), (8, 0x20)], 0x0,
      [fd "D_HI" 31 16 .rw, fd "D_LO" 15 0 .rw]⟩
  | .BANK_KI => ⟨0x7010c, [(24, 0x200), (8, 0x20)], 0x10,
      [fr "KI" 4 0 .rw [(4, 24)]]⟩
  | .COIL_CMD => ⟨0x73000, [], 0x0,
      [fd "LIB" 20 16 .wo, fr "COIL" 12 8 .wo [(0, 23)], fr "OP" 2 0 .wo [(1, 4)]]⟩
  | .COIL_RESULT => ⟨0x73004, [], 0x0,
      [fd "BUSY" 31 31 .ro, fd "CODE" 23 16 .ro, fd "COIL" 12 8 .ro, fd "FAULT" 7 4 .ro, fd "OP" 2 0 .ro]⟩
  | .COIL_USE => ⟨0x73008, [], 0x0,
      [fd "PMEM_FREE" 13 0 .ro]⟩
  | .CORE_LOAD => ⟨0x73010, [(4, 0x4)], 0x0,
      [fd "SUM" 31 16 .ro, fd "WINDOW" 15 0 .ro]⟩
  | .TAB_SEL => ⟨0x73020, [], 0x0,
      [fr "COIL" 4 0 .rw [(0, 23)]]⟩
  | .TRACE_VIEW => ⟨0x73024, [], 0x0,
      [fr "COIL" 4 0 .rw [(0, 23)]]⟩
  | .SNS_GAIN => ⟨0x73100, [(48, 0x8)], 0x1,
      [fs "GAIN" 31 0 .rw]⟩
  | .SNS_OFS => ⟨0x73104, [(48, 0x8)], 0x0,
      [fd "CODE" 31 16 .ro, fd "OFS" 13 0 .rw]⟩
  | .PAIR_CTRL => ⟨0x80000, [(48, 0x20)], 0x0,
      [fd "CLEAR" 16 16 .w1s, fd "SAFE_B" 11 11 .rw, fd "SAFE_A" 10 10 .rw, fd "INV_B" 9 9 .rw,
        fd "INV_A" 8 8 .rw, fd "SWAP" 4 4 .rw, fd "POLICY" 1 1 .rw, fd "EN" 0 0 .rw]⟩
  | .PAIR_PERIOD => ⟨0x80004, [(48, 0x20)], 0x3c,
      [fd "ACT" 31 16 .ro, fr "PERIOD" 15 0 .rw [(60, 65535)]]⟩
  | .PAIR_DUTY => ⟨0x80008, [(48, 0x20)], 0x0,
      [fr "W" 22 0 .rw [(0, 4194240)]]⟩
  | .PAIR_PHASE => ⟨0x8000c, [(48, 0x20)], 0x0,
      [fr "PHASE" 16 0 .rw [(0, 131069)]]⟩
  | .PAIR_DT => ⟨0x80010, [(48, 0x20)], 0x0,
      [fd "MINP" 26 16 .rw, fd "DT" 9 0 .rw]⟩
  | .PAIR_TRIP => ⟨0x80014, [(48, 0x20)], 0x10100,
      [fr "WIN" 31 16 .rw [(1, 65535)], fr "N" 15 8 .rw [(1, 255)], fd "MASK" 7 0 .rw]⟩
  | .PAIR_STAT => ⟨0x80018, [(48, 0x20)], 0x0,
      [fd "WIN_TRIPS" 23 16 .ro, fd "LATCH_SRC" 15 8 .ro, fd "DUTY_CLAMP" 6 6 .w1c, fd "SHORT" 5 5 .w1c,
        fd "EXEMPT" 4 4 .ro, fd "OWNED" 3 3 .ro, fd "PENDING" 2 2 .ro, fd "LATCHED" 1 1 .ro, fd "AT_SAFE" 0 0 .ro]⟩
  | .PAIR_EVT => ⟨0x8001c, [(48, 0x20)], 0x0,
      [fd "TRIPS" 31 16 .rc, fd "SHORTS" 15 0 .rc]⟩
  | .PL_MASK0 => ⟨0x81000, [], 0x0,
      [fd "MASK" 31 0 .rw]⟩
  | .PL_MASK1 => ⟨0x81004, [], 0x0,
      [fd "MASK" 15 0 .rw]⟩
  | .PL_CMD => ⟨0x81008, [], 0x0,
      [fd "SYNC" 1 1 .w1s, fd "LOAD_ALL" 0 0 .w1s]⟩
  | .PL_TRIP_CFG => ⟨0x8100c, [], 0x0,
      [fd "FILT" 31 0 .rw]⟩
  | .PL_TRIP_POL => ⟨0x81010, [], 0x0,
      [fd "POL" 7 0 .rw]⟩
  | .PL_TRIP_STAT => ⟨0x81014, [], 0x0,
      [fd "SEEN" 15 8 .w1c, fd "LEVEL" 7 0 .ro]⟩
  | .PL_CAL => ⟨0x81018, [], 0x0,
      [fd "CAL_FAIL" 31 31 .w1c, fd "CAL_VALID" 30 30 .ro, fd "TRIM" 23 16 .ro, fd "CALS" 15 0 .ro]⟩
  | .WALE_CTRL => ⟨0x90000, [], 0x0,
      [fd "HOST_TABLES" 1 1 .rw, fd "REDISCOVER" 0 0 .w1s]⟩
  | .WALE_STAT => ⟨0x90004, [], 0x0,
      [fd "DEVICES" 31 24 .ro, fd "LEVEL" 23 16 .ro, fd "UP_PORT" 15 12 .ro, fd "PIN_CONFLICT" 10 10 .w1c,
        fd "UNADDRESSED" 9 9 .ro, fd "ROOT" 8 8 .ro, fd "ADDR" 5 0 .ro]⟩
  | .BASKET_ID => ⟨0x90008, [], 0x0,
      [fk "ID" 31 0 .rw []]⟩
  | .FT_LO => ⟨0x90010, [], 0x0,
      [fd "TIME" 31 0 .ro]⟩
  | .FT_HI => ⟨0x90014, [], 0x0,
      [fd "TIME" 31 0 .ro]⟩
  | .TIME_STAT => ⟨0x90018, [], 0x0,
      [fd "OFFSET" 31 16 .ro, fd "STEPS" 15 8 .rc, fd "FREQ_LOCK" 0 0 .ro]⟩
  | .ROUTE => ⟨0x90800, [(64, 0x4)], 0xf,
      [fr "PORT" 3 0 .rw [(0, 8), (15, 15)]]⟩
  | .ROUTE_CMD => ⟨0x90900, [], 0x0,
      [fd "VERSION" 31 16 .ro, fd "COMMIT" 0 0 .w1s]⟩
  | .PIN_SER_LO => ⟨0x92000, [(64, 0x10)], 0x0,
      [fd "VALUE" 31 0 .rw]⟩
  | .PIN_SER_HI => ⟨0x92004, [(64, 0x10)], 0x0,
      [fd "VALUE" 31 0 .rw]⟩
  | .PIN_ADDR => ⟨0x92008, [(64, 0x10)], 0x0,
      [fd "VALID" 31 31 .rw, fr "ADDR" 5 0 .rw [(0, 62)]]⟩
  | .PORT_CTRL => ⟨0x90100, [(8, 0x40)], 0x0,
      [fs "ASYM" 31 16 .rw, fd "EN" 0 0 .rw]⟩
  | .PORT_STAT => ⟨0x90104, [(8, 0x40)], 0x0,
      [fd "SLOTS" 31 24 .ro, fd "DOWN_CAUSE" 23 20 .ro, fd "PEER_PORT" 19 17 .ro, fd "TREE" 16 16 .ro,
        fd "PEER_ADDR" 13 8 .ro, fd "STATE" 2 0 .ro]⟩
  | .PORT_DELAY => ⟨0x90108, [(8, 0x40)], 0x0,
      [fd "DELAY" 31 0 .ro]⟩
  | .PORT_ERR => ⟨0x9010c, [(8, 0x40)], 0x0,
      [fd "TAG_FAIL" 31 16 .rc, fd "BLK_ERR" 15 0 .rc]⟩
  | .PORT_EVT => ⟨0x90110, [(8, 0x40)], 0x0,
      [fd "RESENDS" 31 16 .rc, fd "DOWNS" 15 0 .rc]⟩
  | .PEER_SER_LO => ⟨0x90114, [(8, 0x40)], 0x0,
      [fd "SERIAL" 31 0 .ro]⟩
  | .PEER_SER_HI => ⟨0x90118, [(8, 0x40)], 0x0,
      [fd "SERIAL" 31 0 .ro]⟩
  | .EP_CFG => ⟨0x94000, [(256, 0x10)], 0x3f0100,
      [fd "PEER_EP" 31 24 .rw, fd "PEER_ADDR" 21 16 .rw, fr "H" 10 8 .rw [(1, 5)], fd "FMT" 4 4 .rw,
        fd "KIND" 1 0 .rw]⟩
  | .EP_PLAY => ⟨0x94004, [(256, 0x10)], 0x800007d0,
      [fd "REROUTE" 31 31 .rw, fr "PLAYOUT" 19 0 .rw [(0, 1000000)]]⟩
  | .EP_CTRL => ⟨0x94008, [(256, 0x10)], 0x0,
      [fd "ADMIT" 31 31 .w1s, fd "RELEASE" 30 30 .w1s, fd "SLOTS" 23 16 .ro, fd "FAULT" 15 12 .ro,
        fd "STATE" 9 8 .ro, fd "LOCKED" 5 5 .ro, fd "HOPS" 4 0 .ro]⟩
  | .EP_MON => ⟨0x9400c, [(256, 0x10)], 0x0,
      [fd "LATE" 31 20 .rc, fd "CRC_ERR" 19 12 .rc, fd "OFFSET" 11 0 .ro]⟩
  | .GRT_STAT => ⟨0x90a00, [], 0x0,
      [fd "CONTEND" 8 8 .w1c, fd "A5" 4 4 .w1c, fd "A4" 3 3 .w1c, fd "A3" 2 2 .w1c, fd "A2" 1 1 .w1c,
        fd "A1" 0 0 .w1c]⟩
  | .GRT_CNT0 => ⟨0x90a04, [], 0x0,
      [fd "TXN_TIMEOUT" 31 16 .rc, fd "RETRIES" 15 0 .rc]⟩
  | .GRT_CNT1 => ⟨0x90a08, [], 0x0,
      [fd "CONTENDS" 31 16 .rc, fd "DRAIN_DROP" 15 8 .rc, fd "POLICED" 7 0 .rc]⟩
  | .CANE_CTRL => ⟨0xa0000, [], 0xa,
      [fd "EVT_EN" 16 16 .rw, fd "QUIET_AFTER" 7 0 .rw]⟩
  | .CANE_STAT => ⟨0xa0004, [], 0x0,
      [fd "CREDITS" 31 24 .ro, fd "BUSY_TAGS" 20 16 .ro, fd "STATE" 2 0 .ro]⟩
  | .CANE_TAGS => ⟨0xa0008, [], 0x0,
      [fd "TAGS" 31 0 .ro]⟩
  | .CANE_ERR => ⟨0xa000c, [], 0x0,
      [fd "CRC_ERR" 31 16 .rc, fd "CODE_ERR" 15 0 .rc]⟩
  | .CANE_PROT => ⟨0xa0010, [], 0x0,
      [fd "TAG_ERR" 31 24 .rc, fd "DUPS" 23 16 .rc, fd "GAPS" 15 8 .rc]⟩
  | .CANE_EVT => ⟨0xa0014, [], 0x0,
      [fd "EVT_SENT" 31 16 .rc, fd "EVT_DROP" 15 0 .rc]⟩
  | .CANE_LINK => ⟨0xa0018, [], 0x0,
      [fd "NUDGES" 31 16 .rc, fd "SYNC_LOSS" 15 8 .rc, fd "TRAIN_FAIL" 7 0 .rc]⟩
  | .HDL_STAT => ⟨0x10000, [], 0x0,
      [fd "RESTARTS" 31 24 .rc, fd "CFG_DONE" 19 19 .ro, fd "CFG_FAULT" 18 18 .ro, fd "STATE" 17 16 .ro,
        fd "CFG_ERRS" 15 0 .rc]⟩
  | .CFG_FIRST => ⟨0x10004, [], 0x0,
      [fd "ENTRY" 16 0 .ro]⟩
  | .RST_CTRL => ⟨0x10008, [], 0x0,
      [fd "KEY" 15 8 .wo, fd "RESET" 0 0 .w1s]⟩
  | .UPD_CTRL => ⟨0x10010, [], 0x0,
      [fr "INDEX" 31 16 .wo [(0, 1535)], fr "TARGET" 9 8 .wo [(0, 2)], fr "OP" 2 0 .wo [(1, 6)]]⟩
  | .UPD_STAT => ⟨0x10014, [], 0x0,
      [fd "BUSY" 31 31 .ro, fd "CODE" 23 16 .ro, fd "FAULT" 15 12 .ro, fd "VERIFIED" 11 11 .ro,
        fd "CHUNKS" 10 0 .ro]⟩
  | .UPD_SIZE => ⟨0x10018, [], 0x0,
      [fd "VALUE" 31 0 .rw]⟩
  | .UPD_DIG => ⟨0x1001c, [], 0x0,
      [fd "VALUE" 31 0 .ro]⟩
  | .TEL_CFG => ⟨0x10040, [], 0xa003f3f,
      [fr "TEL_PERIOD" 31 24 .rw [(1, 255)], fr "TEL_I_SNS" 13 8 .rw [(0, 47), (63, 63)],
        fr "TEL_V_SNS" 5 0 .rw [(0, 47), (63, 63)]]⟩
  | .TEL_VMAX => ⟨0x10044, [], 0x7fffffff,
      [fs "VALUE" 31 0 .rw]⟩
  | .TEL_IMAX => ⟨0x10048, [], 0x7fffffff,
      [fs "VALUE" 31 0 .rw]⟩
  | .TEL_V => ⟨0x1004c, [], 0x0,
      [fd "VALUE" 31 0 .ro]⟩
  | .TEL_I => ⟨0x10050, [], 0x0,
      [fd "VALUE" 31 0 .ro]⟩
  | .TEL_P => ⟨0x10054, [], 0x0,
      [fd "VALUE" 31 0 .ro]⟩
  | .TEL_VMIN_SEEN => ⟨0x10058, [], 0x0,
      [fd "VALUE" 31 0 .rc]⟩
  | .TEL_VMAX_SEEN => ⟨0x1005c, [], 0x0,
      [fd "VALUE" 31 0 .rc]⟩
  | .TEL_STAT => ⟨0x10060, [], 0x0,
      [fd "OVER" 1 1 .w1c, fd "VALID" 0 0 .ro]⟩
  | .ID_PART => ⟨0xe0000, [], 0x0,
      [fd "PART" 31 16 .ro, fd "DIES" 7 1 .ro]⟩
  | .ID_SER_LO => ⟨0xe0004, [], 0x0,
      [fd "SERIAL" 31 0 .ro]⟩
  | .ID_SER_HI => ⟨0xe0008, [], 0x0,
      [fd "SERIAL" 31 0 .ro]⟩
  | .VER_HUB => ⟨0xe0010, [], 0x0,
      [fd "VERSION" 31 0 .ro]⟩
  | .VER_MCODE => ⟨0xe0014, [], 0x0,
      [fd "VERSION" 31 0 .ro]⟩
  | .VER_WITHY => ⟨0xe0018, [], 0x0,
      [fd "VERSION" 31 0 .ro]⟩
  | .BOOT_STAT => ⟨0xe0020, [], 0x0,
      [fd "SVN_MIN" 31 16 .ro, fd "READY" 7 7 .ro, fd "RECOVERY" 6 6 .ro, fd "VERSION_HELD" 5 5 .ro,
        fd "FALLBACK" 4 4 .ro, fd "TRIES" 3 2 .ro, fd "TRIAL" 1 1 .ro, fd "SLOT" 0 0 .ro]⟩
  | .SKN_CTRL => ⟨0x20000, [], 0x3e80000,
      [fd "HOLD" 31 16 .rw, fd "UNFREEZE" 3 3 .w1s, fd "FREEZE" 2 2 .w1s, fd "CLEAR" 1 1 .w1s, fd "FLUSH" 0 0 .w1s]⟩
  | .SKN_STAT => ⟨0x20004, [], 0x0,
      [fd "BUF" 28 16 .ro, fd "FOUND" 9 9 .ro, fd "IN_BUFFER" 8 8 .ro, fd "THAWED" 3 3 .w1c,
        fd "FROZEN" 2 2 .ro, fd "FLUSHING" 1 1 .ro, fd "OPEN" 0 0 .ro]⟩
  | .SKN_SEQ => ⟨0x20008, [], 0x0,
      [fd "SEQ" 31 0 .ro]⟩
  | .SKN_FIRST => ⟨0x2000c, [], 0x0,
      [fd "SEQ" 31 0 .ro]⟩
  | .SKN_RD => ⟨0x20010, [], 0x0,
      [fd "SEQ" 31 0 .rw]⟩
  | .SKN_LOST => ⟨0x20014, [], 0x0,
      [fd "LOST" 15 0 .rc]⟩
  | .SKN_WIN => ⟨0x20020, [(8, 0x4)], 0x0,
      [fd "BYTES" 31 0 .ro]⟩
  | .TLY_ACK => ⟨0x30000, [], 0x0,
      [fd "SEQ" 31 0 .rw]⟩
  | .TLY_NEXT => ⟨0x30004, [], 0x0,
      [fd "SEQ" 31 0 .ro]⟩
  | .TLY_RD => ⟨0x30010, [], 0x0,
      [fd "SEQ" 31 0 .rw]⟩
  | .TLY_STAT => ⟨0x30008, [], 0x0,
      [fd "FULL" 31 31 .ro, fd "TAIL" 30 30 .ro, fd "FOUND" 29 29 .ro, fd "STAGED" 28 18 .ro,
        fd "UNHARVESTED" 17 0 .ro]⟩
  | .TLY_LOST => ⟨0x3000c, [], 0x0,
      [fd "TAIL_LOST" 31 16 .rc, fd "DENIED_LOST" 15 0 .rc]⟩
  | .WT_LO => ⟨0x30020, [], 0x0,
      [fd "SEC_LO" 31 16 .ro, fd "FRAC" 15 0 .ro]⟩
  | .WT_SET_LO => ⟨0x30028, [], 0x0,
      [fd "SEC_LO" 31 16 .rw, fd "FRAC" 15 0 .rw]⟩
  | .WT_HI => ⟨0x30024, [], 0x0,
      [fd "SEC_HI" 31 0 .ro]⟩
  | .WT_SET_HI => ⟨0x3002c, [], 0x0,
      [fd "SEC_HI" 31 0 .rw]⟩
  | .WT_CTRL => ⟨0x30030, [], 0x0,
      [fd "EPOCH" 31 16 .ro, fd "SET" 1 1 .ro, fd "APPLY" 0 0 .w1s]⟩
  | .TLY_SEAL => ⟨0x30034, [], 0x0,
      [fd "READY" 1 1 .ro, fd "SEAL" 0 0 .w1s]⟩
  | .TLY_WIN => ⟨0x30040, [(16, 0x4)], 0x0,
      [fd "BYTES" 31 0 .ro]⟩
  | .TLY_SEAL_WIN => ⟨0x30100, [(29, 0x4)], 0x0,
      [fd "BYTES" 31 0 .ro]⟩
  | .LSH_CTRL => ⟨0x40000, [], 0x0,
      [fd "ENTER_SAFE" 1 1 .w1s, fd "SAFE_EXIT" 0 0 .w1s]⟩
  | .LSH_STAT => ⟨0x40004, [], 0x0,
      [fd "SAFE_CAUSE" 31 24 .ro, fd "SAFE" 23 23 .ro, fd "COLLECTOR" 22 22 .ro, fd "INJ_ACTIVE" 21 21 .ro,
        fd "REACTION" 20 18 .ro, fd "DEV_MUTE" 17 17 .ro, fd "DIE_MUTE" 15 8 .ro]⟩
  | .LSH_INJ => ⟨0x40008, [], 0x20006400,
      [fk "GO" 31 31 .w1s [], fk "STOP" 30 30 .w1s [], fk "DRY" 29 29 .rw [], fk "AT_SOURCE" 28 28 .rw [],
        fk "LEN" 23 8 .rw [], fk "SOURCE" 7 0 .rw []]⟩
  | .LSH_SUM => ⟨0x40040, [(8, 0x4)], 0x0,
      [fd "LATCHED" 31 0 .ro]⟩
  | .LSH_SRC_CFG => ⟨0x41000, [(256, 0x8)], 0x0,
      [fd "AUTO" 7 7 .rw, fd "SCOPE" 4 4 .rw, fr "SEV" 2 0 .rw [(0, 4)]]⟩
  | .LSH_SRC_STAT => ⟨0x41004, [(256, 0x8)], 0x0,
      [fd "COUNT" 31 16 .rc, fd "WIRE" 4 4 .ro, fd "DRY" 3 3 .ro, fd "INJECTED" 2 2 .ro,
        fd "STILL_ACTIVE" 1 1 .ro, fd "LATCHED" 0 0 .w1c]⟩
  | .THM_CTRL => ⟨0x50000, [], 0x10a,
      [fd "REARM" 16 16 .w1s, fd "CONV" 15 15 .w1s, fd "CONV_DIE" 14 12 .rw, fd "AUTO_REARM" 8 8 .rw,
        fr "GUARD_INT" 5 0 .rw [(1, 60)]]⟩
  | .THM_THR => ⟨0x50004, [], 0x14050003,
      [fr "RATE_LIM" 31 24 .rw [(1, 200)], fr "STEP_INT" 23 16 .rw [(1, 255)], fr "STEP" 3 0 .rw [(1, 12)]]⟩
  | .THM_STAT => ⟨0x50008, [], 0x0,
      [fd "REARMS_24H" 31 24 .ro, fd "SHUT_DIE" 23 20 .ro, fd "SHUT_CAUSE" 19 16 .ro, fd "MAILBOX" 7 7 .ro,
        fd "MRAM_OK" 6 6 .ro, fd "REARM_NEEDED" 5 5 .ro, fd "HOLD" 4 4 .ro]⟩
  | .THM_DIE => ⟨0x50010, [(8, 0x4)], 0x0,
      [fd "TEMP" 31 16 .ro, fd "RATE" 15 4 .ro, fd "BROKEN" 3 3 .ro, fd "STATE" 2 0 .ro]⟩
  | .THM_CNT => ⟨0x50030, [], 0x0,
      [fd "SHUTDOWNS" 31 24 .rc, fd "MAILBOX_LOST" 23 16 .rc, fd "THROTTLES" 15 0 .rc]⟩
  | .PWR_CTRL => ⟨0x60000, [], 0x0,
      [fd "KEY" 15 8 .wo, fd "FOOT" 2 2 .w1s, fd "WAKE" 1 1 .w1s, fd "DOZE" 0 0 .w1s]⟩
  | .PWR_STAT => ⟨0x60004, [], 0x0,
      [fd "DIES_ON" 23 16 .ro, fd "LAST_WAKE" 15 12 .ro, fd "FROM_FOOT" 5 5 .ro, fd "TRANSIT" 4 4 .ro,
        fd "STATE" 1 0 .ro]⟩
  | .WAKE_CFG => ⟨0x60008, [], 0x1,
      [fd "TIMER" 31 16 .rw, fd "COEX_EN" 2 2 .rw, fd "NUDGE_EN" 0 0 .rw]⟩
  | .CLK_STAT => ⟨0x6000c, [], 0x0,
      [fd "CORE_LOCK" 23 16 .ro, fd "DIE_LOCK" 15 8 .ro, fd "FOOT_RC" 4 4 .ro, fd "REF_LOST" 3 3 .ro,
        fd "WALE_LOCK" 2 2 .ro, fd "CANE_LOCK" 1 1 .ro, fd "HUB_LOCK" 0 0 .ro]⟩
  | .PWR_CNT => ⟨0x60010, [], 0x0,
      [fd "WAKES" 31 16 .rc, fd "PFAILS" 15 8 .rc, fd "FOOT_ENTRIES" 7 0 .rc]⟩
  | .LID_CTRL => ⟨0xb0000, [], 0x0,
      [fd "LEN" 13 8 .wo, fd "SET_PW" 2 2 .w1s, fd "CLOSE" 1 1 .w1s, fd "OPEN" 0 0 .w1s]⟩
  | .LID_STAT => ⟨0xb0004, [], 0x0,
      [fd "RESULT" 31 24 .ro, fd "FAILS" 23 16 .ro, fd "OPENED_BY" 5 4 .ro, fd "LOCKED_OUT" 3 3 .ro,
        fd "CHECKING" 2 2 .ro, fd "STATE" 1 0 .ro]⟩
  | .LID_LOCK => ⟨0xb0008, [], 0x0,
      [fd "LEFT" 16 0 .ro]⟩
  | .LID_CFG => ⟨0xb000c, [], 0xf,
      [fk "IDLE" 7 0 .rw []]⟩
  | .LID_PW => ⟨0xb0010, [(8, 0x4)], 0x0,
      [fd "BYTES" 31 0 .wo]⟩
  | .LID_EVAL => ⟨0xb0030, [], 0x0,
      [fd "RNG_FAIL" 5 5 .ro, fd "RECOVERY" 4 4 .ro, fd "BASKET_ZERO" 3 3 .ro, fd "IDLE_OFF" 2 2 .ro,
        fd "PW_INITIAL" 1 1 .ro, fd "FACTORY_SEEN" 0 0 .ro]⟩
  | .DENY_ADDR => ⟨0xb0040, [], 0x0,
      [fd "ADDR" 31 0 .ro]⟩
  | .DENY_CNT => ⟨0xb0044, [], 0x0,
      [fd "DENY_ORIGIN" 23 16 .ro, fd "COUNT" 15 0 .rc]⟩
  | .LID_CERT => ⟨0xb0100, [(89, 0x4)], 0x0,
      [fd "BYTES" 31 0 .ro]⟩

/-- Registers in the order of the tables, from CONV_CFG on. -/
def Reg.allFrom1 : List Reg :=
  [.CONV_CFG, .CONV_STAT, .ADC_OVR_COUNT, .ADC_PEAK, .RDL_CFG, .NCO_FREQ_LO, .NCO_FREQ_HI, .NCO_PHASE, .NCO_CTRL,
    .NCO_ACT_LO, .NCO_ACT_HI, .DELAY_CFG, .BANK_STAT, .SWAP_REQ, .SNAP_CFG, .RDL_STAT, .RDL_SYNC, .RDL_SYNC_TIME,
    .RDL_SYNC_STAT, .RDL_GROUP_SWAP, .STR_CTRL, .STR_STAT, .STR_PLACE, .STR_LAT, .GAIN_CFG, .GAIN_STAT, .ALC_CFG,
    .ALC_STAT, .METER_CFG, .METER_IN, .METER_OUT, .METER_CREST, .METER_STAT, .PAR_STAT, .STR_GROUP, .LIM_LEVEL,
    .LIM_RED, .LIM_COUNT, .CNC_CTRL, .CNC_ADAPT, .SOUND_CFG, .SOUND_STAT, .PLACE_CFG, .PLACE_STAT, .MARGIN_CFG,
    .LOOP_STAT, .ISO_STAT, .DEPTH_STAT, .CAP_STAT, .PROF_SEL, .TAP, .COEF_RE, .COEF_IM, .PROF_WIN, .RX_CAL,
    .GRD_CFG, .GRD_RECOV, .GRD_STAT, .GRD_COUNT, .GRD_MON]

/-- Registers in the order of the tables, from UG_CFG on. -/
def Reg.allFrom2 : List Reg :=
  [.UG_CFG, .UG_STAT, .BO_CFG, .BO_STAT, .PROT_STAT, .PRES_CFG, .PRES_STAT, .PRES_ID, .TDD_CFG, .TDD_SLOTS,
    .TDD_SYNC, .TDD_ADV, .TDD_STAT, .DUTY_STAT, .LEAN_CFG, .LEAN_MASK, .REG_EDIT, .REG_SEQ, .REG_STAT, .PRG_CMD,
    .PRG_MASK, .PRG_RESULT, .PRG_USE, .PRG_WEAVE, .PRG_SLOT, .PRG_DIG, .LIB_DIG, .PRG_STAT, .PRG_FLAGS,
    .PRG_PCTRL, .PRG_PARAM, .PRC_CTRL, .PRC_STAT, .PRC_COUNT, .TUNE_CFG, .TUNE_STAT, .TUNE_SEQ, .DIV_CFG,
    .DIV_STAT, .SCAN_STAT, .SCAN_CAL, .SCAN_REQ, .SCAN_DWELL, .SCAN_RES, .SCAN_CELL, .RFFE_CFG, .RFFE_CMD,
    .RFFE_DATA, .RFFE_STAT, .COEX_CFG, .COEX_PORTS, .COEX_STAT, .COEX_GRANTS, .COIL_CTRL, .COIL_STAT, .COIL_CFG,
    .COIL_SENSE, .SP_MIN, .SP_MAX, .SLEW_UP]

/-- Registers in the order of the tables, from SLEW_DN on. -/
def Reg.allFrom3 : List Reg :=
  [.SLEW_DN, .FIXED_SP, .SP_HOST, .BANK_HYST, .DUTY_LIM, .NOTCH_B0, .NOTCH_B1, .NOTCH_B2, .NOTCH_A1, .NOTCH_A2,
    .PLAUS_CFG, .PLAUS_MG, .PLAUS_MO, .PLAUS_LIM, .COIL_FLAGS, .MON_Y, .MON_SP, .MON_TRIM, .MON_LA, .MON_RES,
    .MON_DUTY, .TRACE_CFG, .TRACE_STAT, .COIL_PARAM, .COIL_PCTRL, .COIL_IMG, .BANK_EDGE, .BANK_BAND, .TRIM_MIN,
    .TRIM_MAX, .BANK_DUTY, .BANK_KI, .COIL_CMD, .COIL_RESULT, .COIL_USE, .CORE_LOAD, .TAB_SEL, .TRACE_VIEW,
    .SNS_GAIN, .SNS_OFS, .PAIR_CTRL, .PAIR_PERIOD, .PAIR_DUTY, .PAIR_PHASE, .PAIR_DT, .PAIR_TRIP, .PAIR_STAT,
    .PAIR_EVT, .PL_MASK0, .PL_MASK1, .PL_CMD, .PL_TRIP_CFG, .PL_TRIP_POL, .PL_TRIP_STAT, .PL_CAL, .WALE_CTRL,
    .WALE_STAT, .BASKET_ID, .FT_LO, .FT_HI]

/-- Registers in the order of the tables, from TIME_STAT on. -/
def Reg.allFrom4 : List Reg :=
  [.TIME_STAT, .ROUTE, .ROUTE_CMD, .PIN_SER_LO, .PIN_SER_HI, .PIN_ADDR, .PORT_CTRL, .PORT_STAT, .PORT_DELAY,
    .PORT_ERR, .PORT_EVT, .PEER_SER_LO, .PEER_SER_HI, .EP_CFG, .EP_PLAY, .EP_CTRL, .EP_MON, .GRT_STAT, .GRT_CNT0,
    .GRT_CNT1, .CANE_CTRL, .CANE_STAT, .CANE_TAGS, .CANE_ERR, .CANE_PROT, .CANE_EVT, .CANE_LINK, .HDL_STAT,
    .CFG_FIRST, .RST_CTRL, .UPD_CTRL, .UPD_STAT, .UPD_SIZE, .UPD_DIG, .TEL_CFG, .TEL_VMAX, .TEL_IMAX, .TEL_V,
    .TEL_I, .TEL_P, .TEL_VMIN_SEEN, .TEL_VMAX_SEEN, .TEL_STAT, .ID_PART, .ID_SER_LO, .ID_SER_HI, .VER_HUB,
    .VER_MCODE, .VER_WITHY, .BOOT_STAT, .SKN_CTRL, .SKN_STAT, .SKN_SEQ, .SKN_FIRST, .SKN_RD, .SKN_LOST, .SKN_WIN,
    .TLY_ACK, .TLY_NEXT, .TLY_RD]

/-- Registers in the order of the tables, from TLY_STAT on. -/
def Reg.allFrom5 : List Reg :=
  [.TLY_STAT, .TLY_LOST, .WT_LO, .WT_SET_LO, .WT_HI, .WT_SET_HI, .WT_CTRL, .TLY_SEAL, .TLY_WIN, .TLY_SEAL_WIN,
    .LSH_CTRL, .LSH_STAT, .LSH_INJ, .LSH_SUM, .LSH_SRC_CFG, .LSH_SRC_STAT, .THM_CTRL, .THM_THR, .THM_STAT,
    .THM_DIE, .THM_CNT, .PWR_CTRL, .PWR_STAT, .WAKE_CFG, .CLK_STAT, .PWR_CNT, .LID_CTRL, .LID_STAT, .LID_LOCK,
    .LID_CFG, .LID_PW, .LID_EVAL, .DENY_ADDR, .DENY_CNT, .LID_CERT]

/-- Every register, in the order of the tables. -/
def Reg.all : List Reg := Reg.allFrom1 ++ Reg.allFrom2 ++ Reg.allFrom3 ++ Reg.allFrom4 ++ Reg.allFrom5

/-- The rank of a register in the order of declaration, which orders the stored words. -/
def Reg.rank (r : Reg) : Nat := r.ctorIdx

end Sys2Proof.Machine
end

