-- ==== Sys2Proof/Machine/StateCancel.lean ====
section
/-!
DEFINITION. Machine/StateCancel.lean: the state of the canceller, the sounding, the caps and the oscillation guard of
a strand (04_feedback_cancellation.md).
-/
namespace Sys2Proof.Machine
open Sys2Proof

/-- One tap slot (R135): active, its reference, its lag, and the coefficient in 2^-21. -/
structure TapSlot where
  en : Bool
  ref : Bool
  lag : Nat
  w : Cx
  deriving DecidableEq, Repr

/-- An averaged profile over both references (R141): complex values in units of 2^-exp, lag 0 first, empty while
every average is zero. -/
structure Profile where
  exp : Nat
  c0 : List Cx
  c1 : List Cx
  deriving DecidableEq, Repr

/-- An estimate (R145): the physical profile in 2^-exp, and what it yields in 0.01 dB. -/
structure Estimate where
  phys : Profile
  kPhys : Int
  kEff : Int
  dr : Int
  depth : Int
  deriving DecidableEq, Repr

/-- A placement that waits for its block boundary: taps that the device chose (R147), or the shadow table as it stands at
that boundary (R150). -/
inductive Placement where
  | taps (l : List (Bool × Nat))
  | shadow
  deriving DecidableEq, Repr

/-- The canceller and the sounding of a strand (R133 to R159). `hist0` and `hist1` are the reference samples, newest
last; `e` and `yhat` the residual and the estimate of the last block, in 2^-21 codes; `blocks` counts blocks since
the synchronising reset. `avg` and `floor` are the running averages (the floor as a power in 2^-floorExp); `lapsed`
the sticky flag and `live` whether the estimate counts. `place` is a placement that waits for its block boundary,
`shown` the profile of PROF_WIN. `cap` is c of the strand's group in 0.05 dB, `rise` the fabric time of its last rise,
`cold` whether it came from K_COLD. `pathCap` says that a guard cap set at a path change waits for the new estimate. `probe` is P_probe in
0.01 dBFS, `poly` the polynomial number in use. `chip` is the number of the next chip in its period; `sent` are the probe parts that left the gate, newest first, 0 for a chip that is excluded;
`outSum`, `outPr` and `outN` the power at OUT over the period, the probe's
part of it and the number of samples; `es` the residual over the period, newest first. `avgCfg`, `margin` and `kCold` are
AVG, MARGIN and K_COLD as the present period has them (R173). `capAt`, `capWas` and `riseWas` are the time of the last
computation of the cap and what stood before it (R156). `group` is
the strand's loop group as last formed (R129). -/
structure Canc where
  slots : Vector TapSlot 128
  hist0 : List Cx
  hist1 : List Cx
  e : List Cx
  yhat : List Cx
  blocks : Nat
  avg : Profile
  floor : Nat
  floorExp : Nat
  periods : Nat
  uncounted : Nat
  lastCounted : Nat
  restart : Bool
  reqPending : Bool
  est : Option Estimate
  lapsedNow : Bool
  lapsed : Bool
  mixed : Bool
  place : Option Placement
  placeReq : Bool
  placeCount : Nat
  firstPlace : Bool
  shown : Profile
  ckpt : Option (Vector TapSlot 128)
  cap : Option Int
  rise : Nat
  cold : Bool
  broken : Bool
  gcap : Option Int
  pathCap : Bool
  probe : Int
  poly : Nat
  polyWait : Bool
  chip : Nat
  sent : List Int
  outSum : Nat
  outPr : Nat
  outN : Nat
  es : List Cx
  avgCfg : Nat
  margin : Nat
  kCold : Nat
  capAt : Option Nat
  capWas : Option Int
  group : List StrandIx
  riseWas : Nat
  deriving DecidableEq, Repr

/-- The guard phases of GRD_STAT. -/
inductive GuardPhase where
  | armed | muted | sounding | locked
  deriving DecidableEq, Repr

/-- PHASE of GRD_STAT. -/
def GuardPhase.num : GuardPhase → Nat
  | .armed => 0 | .muted => 1 | .sounding => 2 | .locked => 3

/-- What a window of the guard yields (R160 to R162): whether the loop was live, the energies of e and of the
estimate, the square of their correlation, the peak bin and its power, the power of all bins, and the overloaded
samples. -/
structure GuardWin where
  live : Bool
  pe : Nat
  py : Nat
  cross : Nat
  bin : Nat
  peak : Nat
  total : Nat
  ovr : Nat
  deriving DecidableEq, Repr

/-- The oscillation guard of a strand (R160 to R169). `xs` and `ys` are the residual and estimate samples of the
present window, `ovr` its overloads, `prog` a trip that the program raised in it; `wins` the last windows, newest
first; `muted` the blocks since the trip; `hold` the HOLD at the trip; `trips` the fabric times of the trips within TRIP_WIN; `restore` a
checkpoint restore that waits for its block boundary. -/
structure Guard where
  phase : GuardPhase
  lastCrit : Nat
  tripped : Bool
  count : Nat
  trips : List Nat
  xs : List Cx
  ys : List Cx
  ovr : Nat
  liveNow : Bool
  prog : Bool
  wins : List GuardWin
  muted : Nat
  hold : Nat
  restore : Bool
  rho : Nat
  par : Nat
  growth : Int
  deriving DecidableEq, Repr

/-! The reset values (00_scope.md R12). -/

def TapSlot.zero : TapSlot := ⟨false, false, 0, ⟨0, 0⟩⟩
def Profile.zero : Profile := ⟨0, [], []⟩
def Canc.reset : Canc :=
  { slots := Vector.replicate 128 .zero, hist0 := [], hist1 := [], e := [], yhat := [], blocks := 0, avg := .zero,
    floor := 0, floorExp := 0, periods := 0, uncounted := 0, lastCounted := 0, restart := false, reqPending := false,
    est := none, lapsedNow := false, lapsed := false, mixed := false, place := none, placeReq := false,
    placeCount := 0, firstPlace := false, shown := .zero, ckpt := none, cap := none, rise := 0, cold := false,
    broken := false, gcap := none, pathCap := false, probe := -8000, poly := 0, polyWait := false, chip := 0,
    sent := [], outSum := 0, outPr := 0, outN := 0, es := [], avgCfg := 4, margin := 300, kCold := 0,
    capAt := none, capWas := none, group := [], riseWas := 0 }
def Guard.reset : Guard :=
  { phase := .armed, lastCrit := 0, tripped := false, count := 0, trips := [], xs := [], ys := [], ovr := 0,
    liveNow := false, prog := false, wins := [], muted := 0, hold := 0, restore := false, rho := 0, par := 0, growth := 0 }

end Sys2Proof.Machine
end

