-- ==== Sys2Proof/Machine/StateCoil.lean ====
section
/-!
DEFINITION. Machine/StateCoil.lean: the state of the coil engine (09_coil_engine.md).
-/
namespace Sys2Proof.Machine
open Sys2Proof

/-- STOPPED, started and waiting for its boundary (R362), or RUNNING. -/
inductive CoilState where
  | stopped | starting | running
  deriving DecidableEq, Repr

/-- Where a coil's job stands (R332): none, released and not at HALT, or its duties written for this period. -/
inductive JobState where
  | idle | released | done
  deriving DecidableEq, Repr

/-- The image a coil holds (R359): its place and length in coil program memory, in instructions, its cycle count and
the leading digest bytes. -/
structure CoilImage where
  base : Nat
  len : Nat
  cycles : Nat
  digest : Nat
  deriving DecidableEq, Repr

/-- TRACE_STAT.STATE (R357). -/
inductive TraceState where
  | idle | armed | triggered | done
  deriving DecidableEq, Repr

/-- The trace of a coil (R356, R357): entries written since ARM, entries still to write after the trigger. -/
structure Trace where
  st : TraceState
  written : Nat
  left : Nat
  trigIdx : Nat
  skip : Nat
  deriving DecidableEq, Repr

/-- The loop values of a coil (R335 to R354), Q16.16 unless said otherwise: raw and notched feedback with the notch's
history, the other senses, the set-point, trim, law state, bank and mode, the duties in 2^-16, the model and its
count, the look-ahead and the program's outputs. -/
structure Loop where
  primed : Bool
  raw : Int
  y : Int
  yPrev : Int
  x1 : Int
  x2 : Int
  y1 : Int
  y2 : Int
  cur : Int
  aux : Int
  sp : Int
  trim : Int
  high : Bool
  bank : Nat
  sec : Bool
  holdSp : Int
  d : Int
  dAct : Int
  m : Int
  res : Int
  cnt : Nat
  periods : Nat
  lam : Int
  out0 : Int
  out1 : Int
  out2 : Int
  rq : Int
  deriving DecidableEq, Repr

/-- One coil (R327 to R368). `snsIn` are the values latched at release for XIN (R336), and `fixedSp`, `hostSec` and
`traceCfg` the settings that act from a release (R365); `relAt` is the time of the last release; `flags` is COIL_FLAGS;
`laBack` the strand through which the look-ahead has become valid since the last mode decision (R368). -/
structure Coil where
  st : CoilState
  stopWait : Bool
  startFault : Nat
  image : Option CoilImage
  job : JobState
  ctx : WScalar
  xs : Vector Word 16
  loop : Loop
  snsIn : Vector Int 11
  relAt : Nat
  fixedSp : Int
  hostSec : Bool
  traceCfg : Word
  flags : Nat
  laValid : Bool
  laBack : Option Nat
  paramWait : Bool
  staged : Vector Word 8
  loadReq : Bool
  trace : Trace
  deriving DecidableEq, Repr

/-- The coil loader (R359, R360): the command in progress and the last result. -/
structure CoilLoader where
  busy : Option LoadCmd
  op : Nat
  coil : Nat
  fault : Nat
  code : Code
  deriving DecidableEq, Repr

/-! The reset values (00_scope.md R12). -/

def Trace.reset : Trace := ⟨.idle, 0, 0, 0, 0⟩
def Loop.zero : Loop :=
  { primed := false, raw := 0, y := 0, yPrev := 0, x1 := 0, x2 := 0, y1 := 0, y2 := 0, cur := 0, aux := 0, sp := 0,
    trim := 0, high := false, bank := 0, sec := false, holdSp := 0, d := 0, dAct := 0, m := 0, res := 0, cnt := 0,
    periods := 0, lam := 0, out0 := 0, out1 := 0, out2 := 0, rq := 0 }
def Coil.reset : Coil :=
  { st := .stopped, stopWait := false, startFault := 0, image := none, job := .idle, ctx := .zero,
    xs := Vector.replicate 16 0, loop := .zero, snsIn := Vector.replicate 11 0, relAt := 0, fixedSp := 0,
    hostSec := false, traceCfg := 0, flags := 0, laValid := false, laBack := none,
    paramWait := false, staged := Vector.replicate 8 0, loadReq := false, trace := .reset }
def CoilLoader.reset : CoilLoader := ⟨none, 0, 0, 0, .ok⟩

end Sys2Proof.Machine
end

