-- ==== Sys2Proof/Machine/StateHub.lean ====
section
/-!
DEFINITION. Machine/StateHub.lean: the state of the Handle, boot and updates, the thermal guard, and the clocks and
power (14_handle_boot_update.md, 17_thermal.md, 18_clocks_power.md).
-/
namespace Sys2Proof.Machine
open Sys2Proof

/-- STATE of HDL_STAT. -/
inductive HandleState where
  | boot | sleep | run | restart
  deriving DecidableEq, Repr

/-- STATE of HDL_STAT as a number. -/
def HandleState.num : HandleState → Nat
  | .boot => 0 | .sleep => 1 | .run => 2 | .restart => 3

/-- One copy of the boot block (R467). -/
structure BootCopy where
  good : Bool
  seq : Nat
  sel : Bool
  trial : Bool
  tries : Nat
  deriving DecidableEq, Repr

/-- An update OP in progress (R474): OP, TARGET, INDEX, the word that issued it and its origin. -/
structure UpdOp where
  op : Nat
  target : Nat
  index : Nat
  word : Word
  by_ : Origin
  deriving DecidableEq, Repr

/-- An update (R474, R475): the target since BEGIN, the chunks written, VERIFIED, the digest shown, the last outcome. -/
structure Update where
  busy : Option UpdOp
  target : Option Nat
  chunks : List Nat
  verified : Bool
  dig : Word
  code : Code
  fault : Nat
  deriving DecidableEq, Repr

/-- The replay (R478): the entry to do next, whether only PHASE 1 entries count, and the fabric time at which the
present WAIT or DELAY began. -/
structure Replay where
  entry : Nat
  wake : Bool
  since : Option Nat
  deriving DecidableEq, Repr

/-- The Handle and boot (R464 to R480). `bad` marks the image slots that BEGIN or a power loss left invalid; `half` the
store half in force; `lent` a BEGIN on the slot that lends its microcode (R476); `svnMin` the OTP counter; `hubVer`
and `mcVer` the running versions; `vMin` and `vMax` the line voltages seen since the last read, and the extremes of
the current and of the power beside them, which no register shows; `telOver` counts
consecutive readings above a limit. -/
structure Handle where
  st : HandleState
  restarts : Nat
  cfgDone : Bool
  cfgFault : Bool
  cfgErrs : Nat
  cfgFirst : Nat
  cfgFirstSet : Bool
  replay : Option Replay
  upd : Update
  copyA : BootCopy
  copyB : BootCopy
  badA : Bool
  badB : Bool
  half : Option Bool
  lent : Bool
  mcSlot : Option Bool
  svnMin : Nat
  hubVer : Nat
  mcVer : Nat
  ready : Bool
  recovery : Bool
  versionHeld : Bool
  fallback : Bool
  tries : Nat
  trial : Bool
  slot : Bool
  telV : Int
  telI : Int
  telP : Int
  vMin : Option Int
  vMax : Option Int
  iMin : Option Int
  iMax : Option Int
  pMin : Option Int
  pMax : Option Int
  telOver : Nat
  telOut : Bool
  telValid : Bool
  deriving DecidableEq, Repr

/-- The states of a die in the thermal guard (R532). -/
inductive ThmState where
  | normal | warn | throttle | shutdown | off
  deriving DecidableEq, Repr

/-- STATE of THM_DIE. -/
def ThmState.num : ThmState → Nat
  | .normal => 0 | .warn => 1 | .throttle => 2 | .shutdown => 3 | .off => 4

/-- A reading (R530, R531): the fabric time, whether it is broken, the temperature in 0.1 °C, the rate in 0.1 °C/s (0
where it has none) and whether the rate lies above RATE_LIM. -/
structure Reading where
  t : Nat
  broken : Bool
  temp : Int
  rate : Int
  fast : Bool
  deriving DecidableEq, Repr

/-- One die in the thermal guard (R530 to R534). `shown` is TEMP of THM_DIE, absent for 0x8000; `first` the first
reading of a pending crossing, `again` that the second reading after OFF is still to come; `past` the unbroken readings
that a rate may need, newest first; `lastAt` the fabric time of the newest reading; `n` and `stepAt` the throttle count
and the fabric time of its last step. -/
structure ThmDie where
  st : ThmState
  shown : Option Int
  rate : Int
  broken : Bool
  first : Option Reading
  again : Bool
  past : List Reading
  lastAt : Option Nat
  n : Nat
  stepAt : Nat
  deriving DecidableEq, Repr

/-- Who asks for a conversion (R529). -/
inductive ThmWho where
  | confirm | port (k : DieIx) (p : PortIx) | coil (c : CoilIx) | mram | host | handle | timer
  deriving DecidableEq, Repr

/-- The priority of a source (R529). -/
def ThmWho.prio : ThmWho → Nat
  | .confirm => 1 | .port _ _ => 2 | .coil _ => 3 | .mram => 4 | .host => 5 | .handle => 6 | .timer => 7

/-- A queued request for a conversion of a die, 0 the hub. -/
structure ThmReq where
  die : Fin 8
  who : ThmWho
  deriving DecidableEq, Repr

/-- The MRAM window (R537). -/
inductive MramWin where
  | opened | closed | neither
  deriving DecidableEq, Repr

/-- The thermal guard (R528 to R540). `cur` is the conversion in progress: the die, its start and the requests it
answers; `hubAt` the fabric time of the newest hub reading, `stale` that it is older than 2 s; `rearms` the automatic
re-arms of the last 24 h; `win` what the readings made of the window, `winFirst` the first reading of a reopening that
waits for its confirmation. -/
structure Thermal where
  dies : Vector ThmDie 8
  queue : List ThmReq
  cur : Option (Fin 8 × Nat × List ThmWho)
  hold : Bool
  shutDie : Nat
  shutCause : Nat
  rearms : Nat
  mailbox : Option SkeinRec
  mailboxLost : Nat
  shutdowns : Nat
  throttles : Nat
  win : MramWin
  winFirst : Option Nat
  hubAt : Nat
  stale : Bool
  deriving DecidableEq, Repr

/-- The power states of R549; Lean is derived. -/
inductive PowerState where
  | active | doze | foot
  deriving DecidableEq, Repr

/-- An entry or a wake in progress (R550 to R554). -/
inductive Transit where
  | toDoze | toFoot | wake | fromFoot
  deriving DecidableEq, Repr

/-- Clocks and power (R541 to R557). `inReset` is the power-on reset; `entered` the fabric time of the entry to Doze or
Foot-only; `stopped` the clock domains that have stopped; `wakeTags` the Cane tags whose wake waits; `refLong`
whether the reference has been missing for 10 ms; `wakePend` a wake source that came during an entry; `resetDue` an
accepted RESET whose device reset follows its completion; `lean` that STATE last showed Lean. -/
structure Power where
  st : PowerState
  transit : Option Transit
  inReset : Bool
  lastWake : Nat
  fromFoot : Bool
  entered : Nat
  mainEn : Bool
  stopped : List ClockDom
  footRc : Bool
  refLost : Bool
  refLong : Bool
  wakes : Nat
  pfails : Nat
  footEntries : Nat
  failLow : Bool
  failWrites : Bool
  wakeTags : List (Fin 16)
  wakePend : Option Nat
  resetDue : Bool
  lean : Bool
  deriving DecidableEq, Repr

/-! The reset values (00_scope.md R12); every die is OFF before its first reading (R532). -/

def BootCopy.reset : BootCopy := ⟨false, 0, false, false, 0⟩
def Update.reset : Update := ⟨none, none, [], false, 0, .ok, 0⟩
def Handle.reset : Handle :=
  { st := .boot, restarts := 0, cfgDone := false, cfgFault := false, cfgErrs := 0, cfgFirst := 0,
    cfgFirstSet := false, replay := none, upd := .reset, copyA := .reset, copyB := .reset, badA := false,
    badB := false, half := none, lent := false, mcSlot := none, svnMin := 0, hubVer := 0, mcVer := 0, ready := false,
    recovery := false, versionHeld := false, fallback := false, tries := 0, trial := false, slot := false, telV := 0,
    telI := 0, telP := 0, vMin := none, vMax := none,
    iMin := none, iMax := none, pMin := none, pMax := none, telOver := 0, telOut := false, telValid := false }
def ThmDie.reset : ThmDie := ⟨.off, none, 0, false, none, false, [], none, 0, 0⟩
def Thermal.reset : Thermal :=
  { dies := Vector.replicate 8 .reset, queue := [], cur := none, hold := false, shutDie := 0, shutCause := 0,
    rearms := 0, mailbox := none, mailboxLost := 0, shutdowns := 0, throttles := 0,
    win := .neither, winFirst := none, hubAt := 0, stale := false }
def Power.reset : Power :=
  { st := .active, transit := none, inReset := false, lastWake := 0, fromFoot := false, entered := 0, mainEn := true,
    stopped := [.plait, .coil, .mram, .therm] ++ (List.finRange 7).map .scan, footRc := false, refLost := false, refLong := false, wakes := 0, pfails := 0,
    footEntries := 0, failLow := false, failWrites := false, wakeTags := [], wakePend := none, resetDue := false, lean := false }

end Sys2Proof.Machine
end

