-- ==== Sys2Proof/Machine/StateNet.lean ====
section
/-!
DEFINITION. Machine/StateNet.lean: the state of uplink gating, backoff, presence, TDD, duty, lean relay and the
regulatory record (05_network_protection.md).
-/
namespace Sys2Proof.Machine
open Sys2Proof

/-- The gating states of R177. -/
inductive GateState where
  | closed | opened | keep
  deriving DecidableEq, Repr

/-- STATE of UG_STAT. -/
def GateState.num : GateState → Nat
  | .closed => 0 | .opened => 1 | .keep => 2

/-- A strand's gating, backoff and regulatory fault (R175 to R183, R207). `since` is the fabric time at which the
state was entered or the hold last restarted, `keepPeriods` the probe periods that have ended in KEEP; `b` and `bt`
are in 0.05 dB and `hold` in 1/768 ns; `presSince` the fabric time of the last start. -/
structure Prot where
  ug : GateState
  since : Nat
  keepPeriods : Nat
  openings : Nat
  b : Nat
  bt : Nat
  hold : Nat
  regFault : Nat
  presSince : Nat
  deriving DecidableEq, Repr

/-- The list states of R186. -/
inductive ListState where
  | idle | checking | present | missing | absent
  deriving DecidableEq, Repr

/-- STATE of PRES_STAT. -/
def ListState.num : ListState → Nat
  | .idle => 0 | .checking => 1 | .present => 2 | .missing => 3 | .absent => 4

/-- A presence list (R184 to R188). `waiting` is the fabric time of a trigger whose check has not started, `running`
that of the start of the check in progress, `due` that of the next check, `found` whether a cell was found since the
list left IDLE or ABSENT. -/
structure PresList where
  st : ListState
  checks : Nat
  lastId : Nat
  misses : Nat
  found : Bool
  waiting : Option Nat
  running : Option Nat
  due : Option Nat
  deriving DecidableEq, Repr

/-- A TDD pattern (R189, R193, R196): the words staged, and the latched least and greatest latencies (in 0.1 ns) of
the downlink strands that send to and the uplink strands that take from each service port, 0 and 1. -/
structure Pattern where
  cfg : Word
  slots0 : Word
  slots1 : Word
  slots2 : Word
  adv : Nat
  dl0 : Option (Nat × Nat)
  dl1 : Option (Nat × Nat)
  ul0 : Option (Nat × Nat)
  ul1 : Option (Nat × Nat)
  deriving DecidableEq, Repr

/-- The TDD state of a die (R189 to R196): the active pattern and the one that waits for its boundary, the frame start
(fabric time), the time of the last detection, a correction that waits for its pattern boundary. -/
structure Tdd where
  active : Option Pattern
  next : Option Pattern
  fault : Nat
  jump : Bool
  valid : Bool
  frame : Nat
  lastDet : Option Nat
  corr : Option Nat
  deriving DecidableEq, Repr

/-- The duty of a port (R197): hits, the largest fraction since the last read up to the last end of a time in Transmit, in
0.1 %, whether bit 27 is held, since when the port is in Transmit, and the past times in Transmit that reach into the last
10 ms, newest first. -/
structure Duty where
  hits : Nat
  max : Nat
  hold : Bool
  since : Option Nat
  past : List (Nat × Nat)
  deriving DecidableEq, Repr

/-- A lean group (R198 to R201): LEAN, and the burst start last detected for it. -/
structure LeanGroup where
  lean : Bool
  burst : Option Nat
  deriving DecidableEq, Repr

/-- The regulatory record (R202 to R211): which copies are good, which is active, STAGED, the commit in progress, and
the outcome of the last. -/
structure RegRec where
  okA : Bool
  okB : Bool
  actB : Bool
  staged : Bool
  dropAfter : Bool
  busy : Option Origin
  code : Code
  fault : Nat
  deriving DecidableEq, Repr

/-! The reset values (00_scope.md R12). -/

def Prot.reset : Prot :=
  { ug := .closed, since := 0, keepPeriods := 0, openings := 0, b := 0, bt := 0, hold := 0, regFault := 0,
    presSince := 0 }
def PresList.reset : PresList := ⟨.idle, 0, 255, 0, false, none, none, none⟩
def Tdd.reset : Tdd := ⟨none, none, 0, false, false, 0, none, none⟩
def Duty.reset : Duty := ⟨0, 0, false, none, []⟩
def LeanGroup.reset : LeanGroup := ⟨false, none⟩
def RegRec.reset : RegRec := ⟨false, false, false, false, false, none, .ok, 0⟩

end Sys2Proof.Machine
end

