-- ==== Sys2Proof/Machine/StatePlait.lean ====
section
/-!
DEFINITION. Machine/StatePlait.lean: the state of Plait (10_plait.md).
-/
namespace Sys2Proof.Machine
open Sys2Proof

/-- The ideal output in the present period (R371, R382), in fine steps after the boundary: `base` until `rise`, high
from `rise`, low from `fall`. -/
structure Schedule where
  base : Bool
  rise : Option Nat
  fall : Option Nat
  deriving DecidableEq, Repr

/-- One pair (R369 to R391). `shPeriod`, `shW`, `shPhase` are the shadow registers, `period`, `w`, `phase` the active
values, `dt`, `minp`, `policy` those in force since the last boundary. `bound` is the CK_PLAIT cycle of the last
boundary (after a restart, that of the boundary before the first), `next` the cycle of the first boundary after a restart; `cut` the position at which a trip turned A off;
`leaving` a cleared latch that waits for its boundary; `tripIdx` the indices of the tripped periods, `counted` that of
the one counted last in TRIPS. `aFrom` and `bFrom` are the instants, in fine steps of fabric time, from which A in the
present high and B in the present low of the ideal output may be on (R374); `off` that a trip of this period acted
before its schedule changed, so that A stays off and B is on from `bFrom` (R387); `cald` that a good calibration was in
force at the last boundary (R373, R393); `safeFrom` the instants from which A and B may be on at the safe levels
(R379). -/
structure Pair where
  en : Bool
  shPeriod : Nat
  shW : Nat
  shPhase : Nat
  period : Nat
  w : Nat
  phase : Nat
  dt : Nat
  minp : Nat
  policy : Bool
  bound : Int
  next : Option Nat
  sched : Schedule
  cut : Option Nat
  off : Bool
  aFrom : Int
  bFrom : Int
  safeFrom : Int × Int
  cald : Bool
  trim : Nat
  periods : Nat
  tripIdx : List Nat
  counted : Option Nat
  latched : Bool
  leaving : Bool
  latchSrc : Nat
  exempt : Bool
  clamp : Bool
  short : Bool
  trips : Nat
  shorts : Nat
  deriving DecidableEq, Repr

/-- Plait's common state: the CK_PLAIT cycle of the last event, the pending host request as a mask of pairs, the
asserted and seen trip inputs, the calibration (R372, R373, R381, R386), and in `driven` whether CK_PLAIT has run since
power-on or Foot-only, so that the balls are driven (R380). -/
structure Plait where
  now : Nat
  hostReq : Nat
  tripIn : Nat
  seen : Nat
  calFail : Bool
  calValid : Bool
  trim : Nat
  cals : Nat
  driven : Bool
  deriving DecidableEq, Repr

/-! The reset values (00_scope.md R12). -/

def Pair.reset : Pair :=
  { en := false, shPeriod := 60, shW := 0, shPhase := 0, period := 60, w := 0, phase := 0, dt := 0, minp := 0,
    policy := false, bound := 0, next := none, sched := ⟨false, none, none⟩, cut := none, off := false, aFrom := 0,
    bFrom := 0, safeFrom := (0, 0), cald := false, trim := 0, periods := 0, tripIdx := [], counted := none, latched := false, leaving := false, latchSrc := 0, exempt := false, clamp := false, short := false,
    trips := 0, shorts := 0 }
def Plait.reset : Plait := ⟨0, 0, 0, 0, false, false, 0, 0, false⟩

end Sys2Proof.Machine
end

