-- ==== Sys2Proof/Machine/StateRadio.lean ====
section
/-!
DEFINITION. Machine/StateRadio.lean: the state of the ports, the die PLL, the scan receiver, diversity, tuners, the
RFFE bus and coexistence (08_radio_control.md).
-/
namespace Sys2Proof.Machine
open Sys2Proof

/-- The port states of R292, also those of the scan receiver (R309). -/
inductive PortState where
  | sleep | standby | synthOn | receive | transmit
  deriving DecidableEq, Repr

/-- STATE of R292. -/
def PortState.num : PortState → Nat
  | .sleep => 0 | .standby => 1 | .synthOn => 2 | .receive => 3 | .transmit => 4

/-- A tuner search in progress (R320): the state j being measured, the best so far with its RL, and the state in force
before. -/
structure TuneSearch where
  j : Nat
  best : Option (Nat × Int)
  old : Nat
  deriving DecidableEq, Repr

/-- One port's radio controller (R291 to R306), its tuner (R319, R320) and its diversity (R316 to R318).
`moving` is the state a transition in progress leads to, `mvAt` the time at which it begins or began, and `mvSwitch`
whether it is a switch of TDD cycling or of coexistence; `inProg` the target of the command in progress; `pend` the target
and DUPLEX of the pending one; `duplex` the DUPLEX in force; `cycling` a TDD cycling port (R296); `paen` and `trsw` the
levels in the state last reached, apart from the causes of R300; `zeroUntil` the time until which the DAC input is held at
zero after such a cause, and `muteUntil` that until which bit 29 stays after a MUTE reaction (16_lashing.md R520);
`selfMuted` the stake-link mute of R33; `hold31` bit 31 set ahead of a ramp-down or a coexistence grant; `target` the
state it settles in, which a command in progress replaces when it completes; `parked` a port that a shutdown took to
Sleep while it keeps its TARGET; `refSeen` the time of the last burst of the diversity reference and `altSecond` whether
its next one takes the second measurement symbol on the alternate antenna (R316). -/
structure Port where
  st : PortState
  target : PortState
  moving : Option PortState
  mvAt : Nat
  mvSwitch : Bool
  inProg : Option PortState
  pend : Option (PortState × Bool)
  duplex : Bool
  result : Code
  cycling : Bool
  paen : Bool
  trsw : Bool
  zeroUntil : Nat
  muteUntil : Nat
  selfMuted : Bool
  hold31 : Bool
  coexHeld : Bool
  parked : Bool
  unlocks : Nat
  refused : Nat
  dutyHold : Bool
  rl : Int
  searches : Nat
  measValid : Bool
  tuned : Nat
  lowRun : Nat
  wantSearch : Bool
  search : Option TuneSearch
  switches : Nat
  selected : Bool
  bursts : List Int
  lastSwitch : Option Nat
  refSeen : Option Nat
  altSecond : Bool
  deriving DecidableEq, Repr

/-- One detected cell of an SS search (SCAN_CELL). -/
structure ScanCell where
  nr : Bool
  sinr : Int
  pci : Nat
  deriving DecidableEq, Repr

/-- The scan receiver of a die (R308 to R314). `task` is the running task of R312; the `due` flags are tasks 1, 3, 4
and 6, `tddAt`, `divAt` and `tuneAt` when the first three last began; `idle` is the state between tasks (R311); `tuned` and
`want` are the frequencies in kHz that the synthesiser has and that its task needs, and `input` the coupler input, coded as
INPUT of SCAN_REQ; `calTemp` is in 0.1 °C; `calOnce` a calibration since the reset; `iq` the IQ correction (R314);
`reqOn` the host request. -/
structure Scan where
  st : PortState
  moving : Option PortState
  task : Nat
  lock : Bool
  idle : PortState
  tuned : Nat
  want : Nat
  input : Nat
  tddAt : Nat
  divAt : Nat
  tuneAt : Nat
  iq : Int × Int
  calOnce : Bool
  tddDue : Bool
  divDue : Bool
  tuneDue : Bool
  calDue : Bool
  calFail : Bool
  calTime : Nat
  calTemp : Int
  imgRej : Nat
  reqOn : Bool
  reqDone : Bool
  reqCode : Code
  power : Int
  cells : List ScanCell
  deriving DecidableEq, Repr

/-- A transaction on the RFFE bus (R322): its TYPE, USID, LEN, ADDR and, of a write, DATA. -/
structure RffeOp where
  ty : Nat
  usid : Nat
  long : Bool
  addr : Nat
  data : Nat
  deriving DecidableEq, Repr

/-- The RFFE master of a die (R322). `busy` is the transaction in progress, with whether the host started it; `owed` the
tuner writes that wait for it, first in first out. `data` is RFFE_DATA. -/
structure Rffe where
  busy : Option (Bool × RffeOp)
  owed : List RffeOp
  data : Nat
  parity : Bool
  parErr : Nat
  deriving DecidableEq, Repr

/-- Coexistence (R323, R324): the pin levels, the grant being prepared and the counters. -/
structure Coex where
  req : Bool
  gnt : Bool
  pri : Bool
  waiting : Bool
  granting : Bool
  denials : Nat
  grants : Nat
  deriving DecidableEq, Repr

/-! The reset values (00_scope.md R12, 08_radio_control.md R307). -/

def Port.reset : Port :=
  { st := .sleep, target := .sleep, moving := none, mvAt := 0, mvSwitch := false, inProg := none, pend := none,
    duplex := false, result := .ok, cycling := false,
    paen := false, trsw := false, zeroUntil := 0, muteUntil := 0, selfMuted := false, hold31 := false, coexHeld := false,
    parked := false, unlocks := 0, refused := 0, dutyHold := false, rl := 0, searches := 0, measValid := false, tuned := 0, lowRun := 0, wantSearch := false,
    search := none, switches := 0, selected := false, bursts := [], lastSwitch := none,
    refSeen := none, altSecond := false }
def Scan.reset : Scan :=
  { st := .sleep, moving := none, task := 0, lock := false, idle := .sleep, tuned := 0, want := 0, input := 0,
    tddAt := 0, divAt := 0, tuneAt := 0, iq := (0, 0), calOnce := false, tddDue := false, divDue := false,
    tuneDue := false, calDue := false, calFail := false, calTime := 0, calTemp := 0, imgRej := 0, reqOn := false,
    reqDone := false, reqCode := .ok, power := -20000, cells := [] }
def Rffe.reset : Rffe := ⟨none, [], 0, false, 0⟩
def Coex.reset : Coex := ⟨false, false, false, false, false, 0, 0⟩

end Sys2Proof.Machine
end

