-- ==== Sys2Proof/Machine/StateWale.lean ====
section
/-!
DEFINITION. Machine/StateWale.lean: the state of the wale fabric, its transactions and the Cane link
(11_wale_fabric.md, 12_guarantees.md, 13_cane_link.md).
-/
namespace Sys2Proof.Machine
open Sys2Proof

/-- The port states of R398. -/
inductive WaleState where
  | down | train | auth | up | authFail
  deriving DecidableEq, Repr

/-- STATE of PORT_STAT. -/
def WaleState.num : WaleState → Nat
  | .down => 0 | .train => 1 | .auth => 2 | .up => 3 | .authFail => 4

/-- A request or response frame without its SEQ and tag (R402); `from_` is the port on which it came, 8 for a frame of
this device. -/
structure Frame where
  resp : Bool
  dst : Nat
  src : Nat
  host : Bool
  hops : Nat
  dstEp : Nat
  srcEp : Nat
  txn : Nat
  payload : List Byte
  from_ : Nat
  deriving DecidableEq, Repr

/-- A sent frame that no ACK has covered (R407): its SEQ and the number of its sends. -/
structure SentFrame where
  f : Frame
  seq : Nat
  sends : Nat
  deriving DecidableEq, Repr

/-- One channel of a link (R406, R407, R431): the queue, the unacknowledged frames, the next SEQ each way, the credits
held, and the fabric time of the last advance. -/
structure Channel where
  queue : List Frame
  unacked : List SentFrame
  seqTx : Nat
  seqRx : Nat
  credits : Nat
  lastAck : Nat
  deriving DecidableEq, Repr

/-- What the peer sent in the first handshake message (R399). -/
structure PeerHello where
  serial : Nat
  basket : Word
  key : Nat
  nonce : Nat
  deriving DecidableEq, Repr

/-- A wale port (R398 to R427). `since` is the fabric time of the entry to the state, `lastUp` that of the last exit
from UP; `t1` to `t4` the stamps of R420, `lastTime` the arrival of the last TIME word; `session` counts AUTHs;
`peerLevel` the level learned from claims; `resent` the fabric times of the resends within a second; `mine` the counter
value that the device's own handshake message drew from; `low` that this device has the lower serial number, `keyTx` and
`keyRx` the link keys of the two directions and `ctrTx` and `ctrRx` their frame counters (R399, R402); `peerState` and
`peerPort` what the peer's last TRAIN word said, `peerCause` its DOWN word (R397); `words` the link-management words and `sent` the frames
that the last command sent. -/
structure WalePort where
  st : WaleState
  since : Nat
  lock : Bool
  trains : Nat
  lastUp : Option Nat
  cause : Nat
  hello : Option PeerHello
  authed : Bool
  session : Nat
  peerSerial : Nat
  peerPort : Nat
  peerAddr : Nat
  peerLevel : Nat
  tree : Bool
  t1 : Option Nat
  t2 : Option Nat
  t3 : Option Nat
  t4 : Option Nat
  lastTime : Nat
  delay : Int
  tagFail : Nat
  blkErr : Nat
  resends : Nat
  downs : Nat
  resent : List Nat
  req : Channel
  rsp : Channel
  mine : Nat
  low : Bool
  keyTx : Nat
  keyRx : Nat
  ctrTx : Nat
  ctrRx : Nat
  peerState : Nat
  peerCause : Nat
  words : List (Nat × List Byte)
  sent : List (List Byte)
  deriving DecidableEq, Repr

/-- One hop of a stream on this device (R410): its source's address, where it enters, as (port, tag) or the source endpoint, and where it
leaves, as (port, tag) or the sink endpoint; the slots it holds on its outgoing port, its block time in 0.1 ns, the
frames of the present round, and whether the admission has been answered. -/
structure Hop where
  src : Nat
  inPort : Option (Nat × Nat)
  srcEp : Nat
  outPort : Option (Nat × Nat)
  sinkEp : Nat
  slots : Nat
  frames : Nat
  admitted : Bool
  deriving DecidableEq, Repr

/-- STATE of EP_CTRL. -/
inductive EpState where
  | idle | admitted | broken
  deriving DecidableEq, Repr

/-- STATE of EP_CTRL as a number. -/
def EpState.num : EpState → Nat
  | .idle => 0 | .admitted => 1 | .broken => 2

/-- An endpoint (R408 to R414). `asked` is the fabric time at which a running admission began, `auto` that it is a
re-admission, `reroute` a broken stream that waits for a new table; `lock` the send time and the invocation of the
lock frame; `offset` how far in ns its hand-over lies after t_s + PLAYOUT, `dRoute` D_route in 1/120 ns; `buf` the blocks received for coming invocations, absent where the block is missing. -/
structure Endpoint where
  st : EpState
  asked : Option Nat
  auto : Bool
  reroute : Bool
  slots : Nat
  fault : Nat
  hops : Nat
  lock : Option (Nat × Nat)
  offset : Nat
  dRoute : Nat
  late : Nat
  crcErr : Nat
  buf : List (Nat × Option Block)
  deriving DecidableEq, Repr

/-- Who waits for a transaction's answer: a Cane tag, a strand's MSEND, or the device itself. -/
inductive TxnOwner where
  | cane (tag : Fin 16)
  | strand (k : DieIx) (i : StrandIx)
  | device
  deriving DecidableEq, Repr

/-- A transaction of this device as originator (R433): the frame, the attempts made, and the fabric time at which the
present attempt or its backoff began. -/
structure Txn where
  f : Frame
  owner : TxnOwner
  attempts : Nat
  waiting : Bool
  since : Nat
  deriving DecidableEq, Repr

/-- A kept response at a target (R434). -/
structure Kept where
  src : Nat
  txn : Nat
  payload : List Byte
  at_ : Nat
  deriving DecidableEq, Repr

/-- A device that the root has found (R416): its address, serial, level, the device and port that reached it, and
which of its ports are UP. -/
structure Found where
  addr : Nat
  serial : Nat
  level : Nat
  parent : Nat
  port : Nat
  ups : Nat
  deriving DecidableEq, Repr

/-- A directed link that the root knows: a port of one device leads to another. -/
structure Edge where
  a : Nat
  port : Nat
  b : Nat
  deriving DecidableEq, Repr

/-- The best root that the device knows (R415): its serial, whether it has an active Cane link, and the level of this
device. -/
structure RootView where
  serial : Nat
  cane : Bool
  level : Nat
  deriving DecidableEq, Repr

/-- The wale fabric of the device. `routes` is the table in force, `hostRoutes` the host-written one; `found`,
`noAddr` (the serial numbers of devices without an
address), `edges` and `toProbe` the root's discovery; `prevAddr` the addresses given before, by serial; `rootLost` the fabric
time at which the partition lost its root. -/
structure Wale where
  addr : Nat
  level : Nat
  upPort : Nat
  unaddressed : Bool
  pinConflict : Bool
  root : RootView
  rootLost : Option Nat
  routes : Vector Nat 64
  hostRoutes : Vector Nat 64
  version : Nat
  ports : Vector WalePort 8
  eps : Vector Endpoint 256
  hops : List Hop
  found : List Found
  noAddr : List Nat
  edges : List Edge
  toProbe : List (Nat × Nat)
  probing : Option (Nat × Nat)
  prevAddr : List (Nat × Nat)
  txns : List Txn
  nextTxn : Nat
  kept : List Kept
  offset : Int
  steps : Nat
  freqLock : Bool
  joined : Bool
  a1 : Bool
  a2 : Bool
  a3 : Bool
  a4 : Bool
  a5 : Bool
  contend : Bool
  txnTimeout : Nat
  retries : Nat
  contends : Nat
  drainDrop : Nat
  policed : Nat
  deriving DecidableEq, Repr

/-- The Cane link states of R452. -/
inductive CaneState where
  | quiet | align | hello | up
  deriving DecidableEq, Repr

/-- STATE of CANE_STAT. -/
def CaneState.num : CaneState → Nat
  | .quiet => 0 | .align => 1 | .hello => 2 | .up => 3

/-- A response of the Cane link (R446, R448). -/
structure CaneResp where
  tag : Nat
  code : Code
  loc : Bool
  src : Nat
  data : List Byte
  deriving DecidableEq, Repr

/-- The tag states of R455. -/
inductive TagState where
  | free
  | busy
  | done (r : CaneResp)
  deriving DecidableEq, Repr

/-- One tag: its state, the count of its new requests, LOCAL of its last one, and the response that is being made ready
(R446, R451, R455). -/
structure CaneTag where
  st : TagState
  n : Nat
  loc : Bool
  ready : Option CaneResp
  deriving DecidableEq, Repr

/-- The Cane link (R443 to R463). `since` is the fabric time of the entry to ALIGN; `txQ` the transmit queue with the
fabric time at which each response entered it or began to wait for it; `idle` the fabric time since which nothing has
passed; `quietSent` the device's own QUIET, `quietAsked` one of the adapter; `helloBoth` a HELLO with SEEN = 1 received; `sent`
the frames that the last command sent. -/
structure Cane where
  st : CaneState
  since : Nat
  helloSeen : Bool
  helloSent : Bool
  helloBoth : Bool
  tags : Vector CaneTag 16
  txQ : List CaneResp
  waitQ : List (Nat × CaneResp)
  evtQ : List SkeinRec
  evtDrop : Nat
  evtMissed : Nat
  evtSent : Nat
  credits : Nat
  seqTx : Nat
  seqRx : Nat
  crcErr : Nat
  codeErr : Nat
  tagErr : Nat
  dups : Nat
  gaps : Nat
  nudges : Nat
  syncLoss : Nat
  trainFail : Nat
  idle : Nat
  quietSent : Bool
  quietAsked : Bool
  sent : List (List Byte)
  deriving DecidableEq, Repr

/-! The reset values (00_scope.md R12). -/

def Channel.reset : Channel := ⟨[], [], 0, 0, 16, 0⟩
def WalePort.reset : WalePort :=
  { st := .down, since := 0, lock := false, trains := 0, lastUp := none, cause := 0, hello := none, authed := false,
    session := 0, peerSerial := 0, peerPort := 0, peerAddr := 63, peerLevel := 0, tree := false, t1 := none,
    t2 := none, t3 := none, t4 := none, lastTime := 0, delay := 0, tagFail := 0, blkErr := 0, resends := 0, downs := 0,
    resent := [], req := .reset, rsp := .reset, mine := 0, low := false, keyTx := 0, keyRx := 0, ctrTx := 0,
    ctrRx := 0, peerState := 0, peerCause := 0, words := [], sent := [] }
def Endpoint.reset : Endpoint :=
  { st := .idle, asked := none, auto := false, reroute := false, slots := 0, fault := 0, hops := 0, lock := none,
    offset := 0, dRoute := 0, late := 0, crcErr := 0, buf := [] }
def Wale.reset : Wale :=
  { addr := 63, level := 0, upPort := 15, unaddressed := false, pinConflict := false, root := ⟨0, false, 0⟩,
    rootLost := none, routes := Vector.replicate 64 15, hostRoutes := Vector.replicate 64 15, version := 0,
    ports := Vector.replicate 8 .reset, eps := Vector.replicate 256 .reset, hops := [], found := [], noAddr := [], edges := [],
    toProbe := [], probing := none, prevAddr := [], txns := [], nextTxn := 0, kept := [], offset := 0, steps := 0,
    freqLock := false, joined := false, a1 := false, a2 := false, a3 := false, a4 := false, a5 := false,
    contend := false, txnTimeout := 0, retries := 0, contends := 0, drainDrop := 0, policed := 0 }
def Cane.reset : Cane :=
  { st := .quiet, since := 0, helloSeen := false, helloSent := false, helloBoth := false, tags := Vector.replicate 16 ⟨.free, 0, false, none⟩,
    txQ := [], waitQ := [], evtQ := [], evtDrop := 0, evtMissed := 0, evtSent := 0, credits := 0, seqTx := 0,
    seqRx := 0, crcErr := 0, codeErr := 0, tagErr := 0, dups := 0, gaps := 0, nudges := 0, syncLoss := 0,
    trainFail := 0, idle := 0, quietSent := false, quietAsked := false, sent := [] }

end Sys2Proof.Machine
end

