-- ==== Sys2Proof/Machine/State.lean ====
section
/-!
DEFINITION. Machine/State.lean: the state of the block, the reasons a step can stop, and the state after reset.
-/
namespace Sys2Proof.Machine
open Sys2Proof

/-- Reasons a step stops with a fault. -/
inductive Fault where
  /-- No meaning raises it: the spec gives every command an effect, and an access that the spec refuses completes
  with an error code. It is safe. -/
  | unreachable
  deriving DecidableEq, Repr

/-- Reasons a step is refused. -/
inductive Refusal where
  /-- The command of this mnemonic has no meaning yet. It is safe. -/
  | notModelled (mnemonic : String)
  deriving DecidableEq, Repr

/-- The completion of the last register access or command: its code (R584) and the value a read returned. -/
structure Done where
  code : Code
  value : Word
  deriving DecidableEq, Repr

/-- A band die (01_architecture.md R25). -/
structure Die where
  released : Bool
  powered : Bool
  laneLost : Bool
  retries : Nat
  selfMute : Bool
  bcastBroken : Bool
  armed : Option (Nat × Nat)
  missed : Bool
  conv : Vector Conv 4
  rid : Vector Riddle 16
  strands : Vector Strand 16
  lims : Vector Limiter 4
  prog : Vector Prog 16
  slots : Vector (Option Image) 16
  loader : Loader
  ports : Vector Port 4
  pllRun : Bool
  pllLock : Bool
  scan : Scan
  rffe : Rffe
  canc : Vector Canc 16
  guards : Vector Guard 16
  prot : Vector Prot 16
  lists : Vector PresList 8
  tdd : Tdd
  duty : Vector Duty 4
  lean : Vector LeanGroup 4
  deriving DecidableEq, Repr

/-- The state of the block. `pending` is the queue of waiting commands, first in first out; `done` the completion of
the last access; `freeCtr` the model's own counter of free values; `regs` the register words that differ from their
reset value; `mem` every addressed memory, one list of cells. -/
structure State where
  pending : List Instr
  done : Done
  freeCtr : Nat
  fitted : Nat
  serial : Nat
  regs : List (RegKey × Word)
  mem : List Host.Cell
  time : TimeState
  skein : Skein
  tally : Tally
  lash : Lash
  lid : Lid
  tap : Tap
  dies : Vector Die 7
  coils : Vector Coil 24
  coreQ : Vector (List Nat) 4
  coilLdr : CoilLoader
  sns : Vector Nat 48
  pairs : Vector Pair 48
  plait : Plait
  coex : Coex
  wale : Wale
  cane : Cane
  reg : RegRec
  handle : Handle
  thm : Thermal
  pwr : Power
  deriving DecidableEq, Repr

/-- A band die as reset leaves it: not released (01_architecture.md R47). -/
def Die.reset : Die :=
  { released := false, powered := false, laneLost := false, retries := 0, selfMute := false, bcastBroken := false,
    armed := none, missed := false, conv := Vector.replicate 4 .reset, rid := Vector.replicate 16 .reset,
    strands := Vector.replicate 16 .reset, lims := Vector.replicate 4 .reset, prog := Vector.replicate 16 .reset,
    slots := Vector.replicate 16 none, loader := .reset, ports := Vector.replicate 4 .reset, pllRun := false,
    pllLock := false, scan := .reset, rffe := .reset, canc := Vector.replicate 16 .reset,
    guards := Vector.replicate 16 .reset, prot := Vector.replicate 16 .reset, lists := Vector.replicate 8 .reset,
    tdd := .reset, duty := Vector.replicate 4 .reset, lean := Vector.replicate 4 .reset }

/-- The Lashing as reset leaves it: each source with its default severity and scope, nothing latched (R511). -/
def Lash.reset : Lash :=
  { srcs := Vector.ofFn LashSrc.reset, safe := false, safeCause := 0, collector := false, inj := none }

/-- The block right after the power-on reset, before the boot ROM has chosen images: every register at its reset
value, no memory cell listed, the queue of commands empty. The part is a ZVX-4208. -/
def State.reset : State :=
  { pending := [], done := ⟨.ok, 0⟩, freeCtr := 0, fitted := 7, serial := 1, regs := [], mem := [],
    time := .reset, skein := .reset, tally := .reset, lash := .reset, lid := .reset, tap := .reset,
    dies := Vector.replicate 7 .reset, coils := Vector.replicate 24 .reset, coreQ := Vector.replicate 4 [],
    coilLdr := .reset, sns := Vector.replicate 48 0, pairs := Vector.replicate 48 .reset, plait := .reset,
    coex := .reset, wale := .reset, cane := .reset, reg := .reset, handle := .reset, thm := .reset, pwr := .reset }

end Sys2Proof.Machine
end

