-- ==== Sys2Proof/Machine/Ops.lean ====
section
/-!
DEFINITION. Machine/Ops.lean: the named operations over the memories, the register words, the units and time.
-/
namespace Sys2Proof.Machine
open Sys2Proof

/-! ## Memories -/

/-- The addressed memories, which share one list of cells, each in a key range of its own. -/
inductive Space where
  | mram | handleSram | bank | prog | coef | load | coilProg | coilLoad | coilTab | coilTrace | chunk | staging
  | marker
  deriving DecidableEq, Repr

/-- The key at which a space begins. -/
def Space.base : Space → Nat
  | .mram => 0
  | .handleSram => 2 ^ 40
  | .bank => 2 * 2 ^ 40
  | .prog => 3 * 2 ^ 40
  | .coef => 4 * 2 ^ 40
  | .load => 5 * 2 ^ 40
  | .coilProg => 6 * 2 ^ 40
  | .coilLoad => 7 * 2 ^ 40
  | .coilTab => 8 * 2 ^ 40
  | .coilTrace => 9 * 2 ^ 40
  | .chunk => 10 * 2 ^ 40
  | .staging => 11 * 2 ^ 40
  | .marker => 12 * 2 ^ 40

/-- What a cell that nothing lists reads as. -/
def unlisted : Byte := 0

/-- The byte at a key. -/
def memGet : List Host.Cell → Nat → Byte
  | [], _ => unlisted
  | c :: m, a => if c.1 = a then c.2 else memGet m a

/-- The cells with the byte at a key replaced; the list stays in its canonical form. -/
def memPut : List Host.Cell → Nat → Byte → List Host.Cell
  | [], a, b => if b = unlisted then [] else [(a, b)]
  | c :: m, a, b =>
    if a < c.1 then (if b = unlisted then c :: m else (a, b) :: c :: m)
    else if a = c.1 then (if b = unlisted then m else (a, b) :: m)
    else c :: memPut m a b

/-- Whether every key of a list lies above a bound, the keys rise, and no cell holds the unlisted value. -/
def memWfFrom : Option Nat → List Host.Cell → Bool
  | _, [] => true
  | lo, c :: m =>
    (match lo with | none => true | some x => decide (x < c.1)) && c.2 != unlisted && memWfFrom (some c.1) m

/-- The canonical form of a memory: keys strictly rising, no cell equal to what an unlisted key reads as. -/
def Memory.wf (m : List Host.Cell) : Bool := memWfFrom none m

/-- Writing bytes from a key upwards. -/
def memPutList (m : List Host.Cell) (a : Nat) : List Byte → List Host.Cell
  | [] => m
  | b :: l => memPutList (memPut m a b) (a + 1) l

/-- The n bytes from a key upwards. -/
def memGetList (m : List Host.Cell) (a : Nat) : Nat → List Byte
  | 0 => []
  | n + 1 => memGet m a :: memGetList m (a + 1) n

/-- The n bytes at an offset of a space. -/
def readBytes (sp : Space) (off n : Nat) (s : State) : List Byte := memGetList s.mem (sp.base + off) n

/-- Writing bytes at an offset of a space. -/
def writeBytes (sp : Space) (off : Nat) (l : List Byte) (s : State) : State :=
  { s with mem := memPutList s.mem (sp.base + off) l }

/-- The word at an offset of a space, little-endian (R9). -/
def readWord (sp : Space) (off : Nat) (s : State) : Word := BitVec.ofNat 32 (leNat (readBytes sp off 4 s))

/-- Writing a word at an offset of a space. -/
def writeWord (sp : Space) (off : Nat) (w : Word) (s : State) : State := writeBytes sp off (wordBytes w) s

/-! ## Stored register words -/

/-- The order of the stored words: by register, then by indices. -/
def RegKey.lt (a b : RegKey) : Bool :=
  decide (a.reg.rank < b.reg.rank) || (decide (a.reg.rank = b.reg.rank) &&
    (decide (a.i < b.i) || (decide (a.i = b.i) && (decide (a.j < b.j) || (decide (a.j = b.j) && decide (a.l < b.l))))))

/-- The reset value of the stored fields of a register (R12); CORE of COIL_CFG is the coil number mod 4. -/
def resetWord (k : RegKey) : Word :=
  match k.reg with
  | .COIL_CFG => BitVec.ofNat 32 (k.reg.info.reset + k.i % 4 * 2 ^ 28)
  | _ => BitVec.ofNat 32 k.reg.info.reset

/-- The stored word of a register. -/
def regGet : List (RegKey × Word) → RegKey → Word
  | [], k => resetWord k
  | c :: m, k => if c.1 = k then c.2 else regGet m k

/-- The stored words with one replaced, in canonical form: rising keys, no word equal to its reset value. -/
def regPut : List (RegKey × Word) → RegKey → Word → List (RegKey × Word)
  | [], k, w => if w = resetWord k then [] else [(k, w)]
  | c :: m, k, w =>
    if k.lt c.1 then (if w = resetWord k then c :: m else (k, w) :: c :: m)
    else if k = c.1 then (if w = resetWord k then m else (k, w) :: m)
    else c :: regPut m k w

/-- Whether stored words lie above a bound, rise, and differ from their reset values. -/
def regWfFrom : Option RegKey → List (RegKey × Word) → Bool
  | _, [] => true
  | lo, c :: m =>
    (match lo with | none => true | some x => x.lt c.1) && c.2 != resetWord c.1 && regWfFrom (some c.1) m

/-- The canonical form of the stored words. -/
def Regs.wf (m : List (RegKey × Word)) : Bool := regWfFrom none m

/-- The stored word of a register without index. -/
def State.cfg0 (s : State) (r : Reg) : Word := regGet s.regs ⟨r, 0, 0, 0⟩
/-- The stored word of a register with one index. -/
def State.cfg1 (s : State) (r : Reg) (i : Nat) : Word := regGet s.regs ⟨r, i, 0, 0⟩
/-- The stored word of a register with two indices. -/
def State.cfg2 (s : State) (r : Reg) (i j : Nat) : Word := regGet s.regs ⟨r, i, j, 0⟩
/-- The stored word of a register with three indices. -/
def State.cfg3 (s : State) (r : Reg) (i j l : Nat) : Word := regGet s.regs ⟨r, i, j, l⟩
/-- Storing the word of a register. -/
def State.putReg (s : State) (k : RegKey) (w : Word) : State := { s with regs := regPut s.regs k w }

/-- The address of a register instance. -/
def keyAddr (k : RegKey) : Nat :=
  let d := k.reg.info.dims
  let st := fun n => match d[n]? with | some x => x.2 | none => 0
  k.reg.info.base + k.i * st 0 + k.j * st 1 + k.l * st 2

/-! ## Units -/

/-- A vector with one element replaced. -/
def vset {α : Type} {n : Nat} (v : Vector α n) (i : Fin n) (x : α) : Vector α n := v.set i.val x i.isLt

/-- A vector with one element changed by a function. -/
def vmod {α : Type} {n : Nat} (v : Vector α n) (i : Fin n) (f : α → α) : Vector α n := vset v i (f v[i])

/-- Changing a band die. -/
def State.modDie (s : State) (k : DieIx) (f : Die → Die) : State := { s with dies := vmod s.dies k f }
/-- The state of a strand's level stage and gate. -/
def State.strand (s : State) (k : DieIx) (i : StrandIx) : Strand := (s.dies[k]).strands[i]
/-- Changing it. -/
def State.modStrand (s : State) (k : DieIx) (i : StrandIx) (f : Strand → Strand) : State :=
  s.modDie k fun d => { d with strands := vmod d.strands i f }
/-- A strand's riddle chain. -/
def State.rid (s : State) (k : DieIx) (i : StrandIx) : Riddle := (s.dies[k]).rid[i]
/-- Changing it. -/
def State.modRid (s : State) (k : DieIx) (i : StrandIx) (f : Riddle → Riddle) : State :=
  s.modDie k fun d => { d with rid := vmod d.rid i f }
/-- A strand's program state. -/
def State.prog (s : State) (k : DieIx) (i : StrandIx) : Prog := (s.dies[k]).prog[i]
/-- Changing it. -/
def State.modProg (s : State) (k : DieIx) (i : StrandIx) (f : Prog → Prog) : State :=
  s.modDie k fun d => { d with prog := vmod d.prog i f }
/-- A port. -/
def State.port (s : State) (k : DieIx) (p : PortIx) : Port := (s.dies[k]).ports[p]
/-- Changing it. -/
def State.modPort (s : State) (k : DieIx) (p : PortIx) (f : Port → Port) : State :=
  s.modDie k fun d => { d with ports := vmod d.ports p f }
/-- The converters of a port. -/
def State.conv (s : State) (k : DieIx) (p : PortIx) : Conv := (s.dies[k]).conv[p]
/-- Changing them. -/
def State.modConv (s : State) (k : DieIx) (p : PortIx) (f : Conv → Conv) : State :=
  s.modDie k fun d => { d with conv := vmod d.conv p f }
/-- Changing a port's limiter. -/
def State.modLim (s : State) (k : DieIx) (p : PortIx) (f : Limiter → Limiter) : State :=
  s.modDie k fun d => { d with lims := vmod d.lims p f }
/-- Changing a coil. -/
def State.modCoil (s : State) (c : CoilIx) (f : Coil → Coil) : State := { s with coils := vmod s.coils c f }
/-- Changing a Plait pair. -/
def State.modPair (s : State) (n : PairIx) (f : Pair → Pair) : State := { s with pairs := vmod s.pairs n f }
/-- Changing a Lashing source. -/
def State.modSrc (s : State) (n : SrcIx) (f : LashSrc → LashSrc) : State :=
  { s with lash := { s.lash with srcs := vmod s.lash.srcs n f } }

/-- The number k of a band die, 1 to 7 (00_scope.md R10). -/
def dieNum (k : DieIx) : Nat := k.val + 1

/-- Whether a band die is fitted (R2, R5). -/
def State.isFitted (s : State) (k : DieIx) : Bool := decide (dieNum k ≤ s.fitted)

/-- Whether the Lashing holds the band dies: in the safe state each is held by 01_architecture.md R40
(16_lashing.md R519). -/
def State.held (s : State) : Bool := s.lash.safe

/-! ## Time and free values -/

/-- The fabric time of an instant of the device's own count (11_wale_fabric.md R420). -/
def State.fabOf (s : State) (t : Nat) : Nat := ((t : Int) + s.time.off).toNat

/-- Fabric time in ns. -/
def State.fab (s : State) : Nat := s.fabOf s.time.ft

/-- Wall time in 2^-16 s, 64 bits (15_skein_tally.md R481). -/
def State.wall (s : State) : Nat := (s.time.wtBase + (s.time.ft - s.time.wtFt) * 65536 / 10 ^ 9) % 2 ^ 64

/-- Taking the next free value: the counter moves on. -/
def State.tick (s : State) : State := { s with freeCtr := s.freeCtr + 1 }

/-- Recording the completion of an access or command. -/
def State.finish (s : State) (c : Code) (v : Word) : State := { s with done := ⟨c, v⟩ }

/-- Applying an operation to each unit of a list, in order. -/
def State.each {α : Type} (s : State) (l : List α) (f : α → State → State) : State := l.foldl (fun t a => f a t) s

/-- All band dies, ports, strands, coils and pairs in rising order. -/
def allDies : List DieIx := List.finRange 7
def allPorts : List PortIx := List.finRange 4
def allStrands : List StrandIx := List.finRange 16
def allCoils : List CoilIx := List.finRange 24
def allPairs : List PairIx := List.finRange 48

end Sys2Proof.Machine
end

