-- ==== Sys2Proof/Machine/AddrMap.lean ====
section
/-!
DEFINITION. Machine/AddrMap.lean: the address map and the origins that each range admits (20_address_map.md R577 to
R581, 19_lid_security.md R571).
-/
namespace Sys2Proof.Machine
open Sys2Proof

/-- What an address names: a register, or a word at an offset of a memory or window. -/
inductive Place where
  | reg (x : RegKey)
  | bank (k : DieIx) (off : Nat)
  | progMem (k : DieIx) (off : Nat)
  | loadBuf (k : DieIx) (off : Nat)
  | coefMem (k : DieIx) (off : Nat)
  | coilTab (off : Nat)
  | coilTrace (off : Nat)
  | coilLoad (off : Nat)
  | regCopy (off : Nat)
  | staging (off : Nat)
  | chunk (off : Nat)
  | mram (off : Nat)
  deriving DecidableEq, Repr

/-- Whether an offset lies in a window. -/
def inWin (a base size : Nat) : Bool := decide (base ≤ a ∧ a < base + size)

/-- The indices that an offset spells by the counts and strides of a register, none where it spells no instance. -/
def spell : List (Nat × Nat) → Nat → Option (List Nat)
  | [], off => if off = 0 then some [] else none
  | (n, st) :: l, off =>
    if off / st < n then (spell l (off % st)).map (off / st :: ·) else none

/-- Registers that do not exist for some indices: the tuner and diversity registers of service ports
(08_radio_control.md) and the registers of Lashing sources that R511 does not allocate. -/
def regExists (x : RegKey) : Bool :=
  match x.reg with
  | .TUNE_CFG | .TUNE_STAT | .TUNE_SEQ | .DIV_CFG | .DIV_STAT => decide (x.j < 2)
  | .LSH_SRC_CFG | .LSH_SRC_STAT => srcUsed (Fin.ofNat 256 x.i)
  | _ => true

/-- The register at an address. -/
def regAt (a : Nat) : List Reg → Option RegKey
  | [] => none
  | r :: l =>
    if r.info.base ≤ a then
      match spell r.info.dims (a - r.info.base) with
      | some ix =>
        let x : RegKey := ⟨r, ix.getD 0 0, ix.getD 1 0, ix.getD 2 0⟩
        if regExists x then some x else none
      | none => regAt a l
    else regAt a l

/-- The band die whose window holds an address (R579). -/
def dieOfAddr (a : Nat) : Option DieIx :=
  if h : 0x01400000 ≤ a ∧ a < 0x03000000 then some ⟨a / 0x400000 - 5, by omega⟩ else none

/-- Whether an address lies in an assigned range (R577). -/
def assigned (a : Nat) : Bool :=
  inWin a 0x00010000 0xE0000 || inWin a 0x01400000 0x01C00000 || inWin a 0x40000000 0x02000000

/-- What lies at an address (R577 to R581); none at a hole or outside every range. -/
def addrDecode (a : Nat) : Option Place :=
  if inWin a 0x40000000 0x02000000 then some (.mram (a - 0x40000000))
  else match dieOfAddr a with
  | some k =>
    let o := a % 0x400000
    if inWin o 0x18000 0x8000 then some (.bank k (o - 0x18000))
    else if inWin o 0x100000 0x40000 then some (.progMem k (o - 0x100000))
    else if inWin o 0x180000 0x20000 then some (.loadBuf k (o - 0x180000))
    else if inWin o 0x200000 0x20000 then some (.coefMem k (o - 0x200000))
    else (regAt a Reg.all).map .reg
  | none =>
    if !assigned a then none
    else if inWin a 0x18000 0x1000 then some (.chunk (a - 0x18000))
    else if inWin a 0x74000 0x800 then some (.coilTab (a - 0x74000))
    else if inWin a 0x78000 0x4000 then some (.coilTrace (a - 0x78000))
    else if inWin a 0x7C000 0x4000 then some (.coilLoad (a - 0x7C000))
    else if inWin a 0xD1000 0x1000 then some (.regCopy (a - 0xD1000))
    else if inWin a 0xD2000 0x1000 then some (.staging (a - 0xD2000))
    else (regAt a Reg.all).map .reg

/-- The letters of R571. -/
inductive Letter where
  | h | f | n | l
  deriving DecidableEq, Repr

/-- The letter of an origin (R586). -/
def originLetter : Origin → Letter
  | .host => .h | .root _ => .h | .fabric _ => .f | .handle => .n | .replay => .n | .lid => .l

/-- Whether R571 admits a read. -/
def mayRead (o : Letter) (p : Place) : Bool :=
  match p with
  | .chunk _ => o == .h || o == .f
  | .mram off => o != .f || inWin off 0x00C00000 0x00A00000
  | _ => true

/-- The hub block of an address. -/
def hubBlock (a : Nat) : Nat := a / 0x10000

/-- Whether R571 admits a write. -/
def mayWrite (o : Letter) (a : Nat) (p : Place) : Bool :=
  match p with
  | .mram _ => false
  | .chunk _ => o == .h || o == .f
  | .reg ⟨.TLY_ACK, _, _, _⟩ | .reg ⟨.WT_SET_LO, _, _, _⟩ | .reg ⟨.WT_SET_HI, _, _, _⟩ | .reg ⟨.WT_CTRL, _, _, _⟩ =>
    o == .h || o == .f
  | _ =>
    match hubBlock a with
    | 0x1 | 0x3 => o != .n
    | 0xA => o != .f
    | 0xB | 0xD => o == .h || o == .l
    | 0xE => false
    | _ => true

end Sys2Proof.Machine
end

