-- ==== Sys2Proof/Machine/Log.lean ====
section
/-!
DEFINITION. Machine/Log.lean: making, repeating and closing Skein records, and reserving, staging and writing out
Tally records (15_skein_tally.md).
-/
namespace Sys2Proof.Machine
open Sys2Proof

/-! ## Skein -/

/-- LOC of a record: die and unit (R486). -/
def locOf (die unit : Nat) : Nat := die * 4096 + unit % 4096

/-- A record for the host's event stream: it waits in the event queue of 64, or is dropped (13_cane_link.md R459,
R460). -/
def skeinEmit (r : SkeinRec) (s : State) : State :=
  if bit (s.cfg0 .CANE_CTRL) 16 then
    if s.cane.evtQ.length < 64 then { s with cane := { s.cane with evtQ := s.cane.evtQ ++ [r] } }
    else { s with cane := { s.cane with
             evtDrop := satInc 0xFFFF s.cane.evtDrop, evtMissed := s.cane.evtMissed + 1 } }
  else s

/-- Places of the buffer in use: unflushed entries, those of a flush in progress and an open unflushed record
(R492, R494). -/
def skeinUsed (k : Skein) : Nat :=
  k.buffer.length + (match k.flushing with | some l => l.length | none => 0) +
    (match k.newest with | some (_, false) => 1 | _ => 0)

/-- Whether a record of a severity finds a place: the last 64 places take only DEGRADE or higher (R494). -/
def skeinPlace (k : Skein) (sev : Nat) : Bool := decide (skeinUsed k < if 2 ≤ sev then 4096 else 4032)

/-- Counting a discarded record (R495). -/
def skeinLose (s : State) : State :=
  { s with skein := { s.skein with lost := satInc 0xFFFF s.skein.lost, unreported := s.skein.unreported + 1 } }

/-- Closing the newest record (R490, R491): one that a flush has written as OPEN makes a CLOSE entry of its own,
any other enters the buffer as closed. -/
def skeinClose (s : State) : State :=
  match s.skein.newest with
  | none => s
  | some (r, false) =>
    let c := { r with st := 0 }
    skeinEmit c { s with skein := { s.skein with newest := none, buffer := s.skein.buffer ++ [c] } }
  | some (r, true) =>
    let c := { r with st := 2 }
    let s := { s with skein := { s.skein with newest := none } }
    let s := if skeinPlace s.skein c.sev then { s with skein := { s.skein with buffer := s.skein.buffer ++ [c] } }
      else skeinLose s
    skeinEmit c s

/-- Making a new record (R486, R490, R494, R495): the newest record closes, and the new one is open when it finds a
place; one that finds none is not made, and closes nothing. A record of severity DEGRADE or higher asks for a flush
(R493). -/
def skeinNew (src sev loc code data : Nat) (inj mbx : Bool) (s : State) : State :=
  let was := s
  let s := skeinClose s
  if skeinPlace s.skein sev then
    let r : SkeinRec :=
      { seq := s.skein.next, epoch := s.time.epoch, rep := 0, time := s.wall, lastMs := 0, source := src, st := 1,
        sev := sev, injected := inj, mailbox := mbx, timeUnset := !s.time.wtSet, loc := loc, code := code,
        data := data % 2 ^ 48 }
    skeinEmit r { s with skein := { s.skein with
      next := seqNext s.skein.next, newest := some (r, false), lastAt := s.wall,
      wanted := s.skein.wanted || decide (2 ≤ sev) } }
  else skeinLose was

/-- Whether an occurrence repeats a record whose last occurrence was at wall time `last` (R489, R490). -/
def skeinRepeats (r : SkeinRec) (last src loc code data hold now : Nat) : Bool :=
  r.source == src && r.loc == loc && r.code == code && r.data == data % 2 ^ 48 && hold != 0 &&
    decide ((now - last) * 1000 ≤ hold * 65536) && decide (wallMs (now - r.time) < 2 ^ 32)

/-- An occurrence: it repeats the newest open record or makes a new one (R489, R490). -/
def skeinOccur (src sev loc code data : Nat) (inj mbx : Bool) (s : State) : State :=
  match s.skein.newest with
  | some (r, f) =>
    if skeinRepeats r s.skein.lastAt src loc code data (fld (s.cfg0 .SKN_CTRL) 31 16) s.wall then
      let r' := { r with rep := r.rep + 1, lastMs := wallMs (s.wall - r.time) }
      let s := { s with skein := { s.skein with newest := some (r', f), lastAt := s.wall } }
      if r'.rep = 65535 then skeinClose s else s
    else skeinNew src sev loc code data inj mbx s
  | none => skeinNew src sev loc code data inj mbx s

/-- The fill trigger (R493, R497): at 3072 unflushed records a flush is wanted and a freeze in force ends by itself. -/
def skeinFill (s : State) : State :=
  if 3072 ≤ skeinUsed s.skein then
    let s := { s with skein := { s.skein with wanted := true } }
    if s.skein.frozen.isSome then
      skeinOccur 1 0 (locOf 15 0) 0x0F03 0 false false
        { s with skein := { s.skein with frozen := none, thawed := true } }
    else s
  else s

/-- A record of a source, severity, location, code and data (R486 to R495). -/
def skein (src sev loc code data : Nat) (s : State) : State := skeinFill (skeinOccur src sev loc code data false false s)

/-- Whether the control lane of band die d, 1 to 7, is lost: the data of the die's own events cross that lane and no other
(01_architecture.md R27). -/
def laneCut (s : State) (d : Nat) : Bool := (List.finRange 7).any fun k => dieNum k == d && (s.dies[k]).laneLost

/-- A device event (SOURCE 1, severity NOTE): rule group and position (R487). Groups 1 to 4 are those of a band die; an
event of a die whose control lane is lost does not reach the hub (DEDUCED, notes/assumptions/134.md). -/
def skeinEvent (loc group pos data : Nat) (s : State) : State :=
  if group ≤ 4 ∧ laneCut s (loc / 4096) = true then s else skein 1 0 loc (group * 256 + pos) data s

/-- The bytes of an entry (R486). -/
def skeinBytes (r : SkeinRec) : List Byte :=
  leBytes 4 r.seq ++ leBytes 2 r.epoch ++ leBytes 2 r.rep ++ leBytes 8 r.time ++ leBytes 4 r.lastMs ++
    leBytes 1 r.source ++
    leBytes 1 (r.st + 4 * r.sev + 32 * b2n r.injected + 64 * b2n r.mailbox + 128 * b2n r.timeUnset) ++
    leBytes 2 r.loc ++ leBytes 2 r.code ++ leBytes 6 r.data

/-- The offset of the Skein ring in MRAM (14_handle_boot_update.md R466). -/
def skeinRingBase : Nat := 0x01400000

/-- Setting the commit marker of the MRAM block at an offset (17_thermal.md R537). -/
def markBlock (off : Nat) (s : State) : State := writeBytes .marker off [1] s

/-- Clearing it. -/
def unmarkBlock (off : Nat) (s : State) : State := writeBytes .marker off [0] s

/-- Whether an MRAM block carries its marker. -/
def isMarked (off : Nat) (s : State) : Bool := memGet s.mem (Space.marker.base + off) == 1

/-- Writing one entry into the ring, overwriting the oldest (R492). -/
def skeinRingPut (r : SkeinRec) (s : State) : State :=
  let off := skeinRingBase + s.skein.ringPos % 65536 * 32
  markBlock off (writeBytes .mram off (skeinBytes r)
    { s with skein := { s.skein with ringPos := s.skein.ringPos + 1 } })

/-! ## Tally -/

/-- The origin code of a record (20_address_map.md R586). -/
def originCode : Origin → Nat
  | .host => 0 | .root _ => 0 | .fabric _ => 1 | .handle => 2 | .lid => 3 | .replay => 5

/-- ORIGIN_ADDR of a record (R501, R586). -/
def originAddr (o : Origin) (s : State) : Nat :=
  match o with
  | .host => s.wale.addr
  | .root a => a.val
  | .fabric a => a.val
  | .handle | .lid | .replay => 63

/-- The unharvested count TLY_NEXT - ACK - 1 (R506). -/
def unharvested (t : Tally) : Nat := (t.next + 2 ^ 33 - t.ack - 1) % 2 ^ 32

/-- Staged records in the 512 places for reserved records (R505). -/
def nearStaged (t : Tally) : Nat := (t.staged.filter fun r => !r.far).length

/-- Staged records in the 32 further places. -/
def farStaged (t : Tally) : Nat := (t.staged.filter fun r => r.far).length

/-- FULL: reservations are refused (R507). -/
def tallyFull (t : Tally) : Bool := decide (130048 ≤ unharvested t + t.staged.length)

/-- Whether a record can be reserved (R39, R505, R507). -/
def tallyRoom (t : Tally) : Bool := decide (nearStaged t < 512) && !tallyFull t

/-- A record of the present time and epoch. -/
def tallyRec (origin code addr target old new : Nat) (tail far : Bool) (s : State) : TallyRec :=
  { seq := s.tally.next, epoch := s.time.epoch, origin := origin, code := code, time := s.wall, originAddr := addr,
    tail := tail, timeUnset := !s.time.wtSet, target := target, old := old, new := new, far := far }

/-- Staging a record, which takes the next sequence number (R504, R505). -/
def tallyStage (r : TallyRec) (s : State) : State :=
  { s with tally := { s.tally with staged := s.tally.staged ++ [r], next := seqNext s.tally.next } }

/-- The record of an accepted change by an origin, which was reserved before (R39, R501). -/
def tallyPut (o : Origin) (target : Nat) (old new : Word) (s : State) : State :=
  tallyStage (tallyRec (originCode o) 0 (originAddr o s) target old.toNat new.toNat false false s) s

/-- A record that may use the reserved tail and the further places (R508): of origin 4, or of a Lid-state change. -/
def tallyForce (origin addr target : Nat) (old new : Word) (s : State) : State :=
  let tail := tallyFull s.tally
  let near := decide (nearStaged s.tally < 512)
  if (near || decide (farStaged s.tally < 32)) && decide (unharvested s.tally < 131072) then
    let entering := tail && !s.tally.inTail
    let s := tallyStage (tallyRec origin 0 addr target old.toNat new.toNat tail (!near) s) s
    let s := { s with tally := { s.tally with inTail := tail || s.tally.inTail } }
    if entering then skeinEvent (locOf 15 0) 0x0F 5 0 s else s
  else
    skeinEvent (locOf 15 0) 0x0F 6 target
      { s with tally := { s.tally with tailLost := satInc 0xFFFF s.tally.tailLost } }

/-- The record of a change that the device makes by itself, origin 4 (R586). -/
def tallyAuto (target : Nat) (old new : Word) (s : State) : State :=
  if laneCut s (target / 2 ^ 24) then s else tallyForce 4 63 target old new s

/-- Bytes 0x00 to 0x1F of a record (R501). -/
def tallyBytes (r : TallyRec) : List Byte :=
  leBytes 4 r.seq ++ leBytes 2 r.epoch ++ leBytes 1 r.origin ++ leBytes 1 r.code ++ leBytes 8 r.time ++
    leBytes 1 r.originAddr ++ leBytes 1 (b2n r.tail + 2 * b2n r.timeUnset) ++ leBytes 2 0 ++ leBytes 4 r.target ++
    leBytes 4 r.old ++ leBytes 4 r.new

/-- The first sixteen bytes of a digest, as a number with the first byte most significant. -/
def digest16 (d : Nat) : Nat := d / 2 ^ 256

/-- The link before the first record: from the serial number (R502). -/
def tallyRoot (serial : Nat) : Nat := digest16 (sha384 (leBytes 8 serial))

/-- The chain link of a record after a link (R502). -/
def tallyLink (prev : Nat) (r : TallyRec) : Nat := digest16 (sha384 (beBytes 16 prev ++ tallyBytes r))

/-- LINK of the newest record written, or the root of the chain. -/
def chainHead (s : State) : Nat :=
  match s.tally.link with
  | some l => l
  | none => tallyRoot s.serial

/-- The offset of the Tally partition in MRAM (R466). -/
def tallyBase : Nat := 0x00C00000

/-- Writing the oldest staged record to its slot (R502, R505). -/
def tallyWriteOne (s : State) : State :=
  match s.tally.staged with
  | [] => s
  | r :: rest =>
    let l := tallyLink (chainHead s) r
    let off := tallyBase + r.seq % 131072 * 64
    markBlock off (writeBytes .mram off (tallyBytes r ++ beBytes 16 l ++ List.replicate 16 0)
      { s with tally := { s.tally with staged := rest, link := some l } })

/-- Recording a denied access (00_scope.md R20; 19_lid_security.md R572, R576): the denial registers, a Skein record
and, when a slot is free, a Tally record with CODE ACCESS_DENIED. -/
def denyAccess (o : Origin) (addr : Word) (s : State) : State :=
  let s := { s with lid := { s.lid with
    denyAddr := addr, denyOrigin := (originCode o), denyCnt := satInc 0xFFFF s.lid.denyCnt } }
  let s := skeinEvent (locOf 15 0) 0x0E 6 ((originCode o) + 256 * addr.toNat) s
  if tallyRoom s.tally then tallyStage (tallyRec (originCode o) 1 (originAddr o s) addr.toNat 0 0 false false s) s
  else { s with tally := { s.tally with deniedLost := satInc 0xFFFF s.tally.deniedLost } }

end Sys2Proof.Machine
end

