-- ==== Sys2Proof/Machine/PlaitCore.lean ====
section
/-!
DEFINITION. Machine/PlaitCore.lean: the outputs and pins of Plait pairs, their safe levels and the stopping of coils,
which the reactions of the Lashing use (10_plait.md R371 to R387, R390; 09_coil_engine.md R363, R364).
-/
namespace Sys2Proof.Machine
open Sys2Proof

/-- A schedule with the ideal output low for the rest of the period. -/
def Schedule.low : Schedule := ⟨false, none, none⟩

/-- The present CK_PLAIT cycle: that of fabric time, at 491.52 MHz, or of the last event if later. -/
def plaitCycle (s : State) : Nat := max s.plait.now (s.time.ft * 49152 / 100000)

/-- The present instant in fine steps of fabric time. -/
def plaitFine (s : State) : Int := 64 * (plaitCycle s : Int)

/-- Whether a pair is at its safe levels (R379, R390, R391). -/
def atSafe (s : State) (n : PairIx) : Bool :=
  let p := s.pairs[n]
  !p.en || p.latched || p.leaving || (s.lash.safe && !p.exempt)

/-! ## The ideal output and the outputs A and B (R371 to R375, R387) -/

/-- The level of the ideal output at a position. -/
def Schedule.level (c : Schedule) (pos : Int) : Bool :=
  let up := match c.rise with | some r => decide ((r : Int) ≤ pos) | none => c.base
  up && (match c.fall with | some f => decide (pos < f) | none => true)

/-- The position of a pair in fine steps at a cycle. -/
def pairPos (p : Pair) (t : Nat) : Int := ((t : Int) - p.bound) * 64

/-- The instant of a pair's last boundary in fine steps of fabric time. -/
def Pair.origin (p : Pair) : Int := 64 * p.bound

/-- An edge instant as the pair places it: on a whole cycle, rounded down, while no calibration had succeeded at its last
boundary (R373, R393). -/
def Pair.place (p : Pair) (x : Int) : Int := if p.cald then x else x / 64 * 64

/-- The ideal output with its edges as the pair places them. -/
def Pair.ideal (p : Pair) (pos : Int) : Bool :=
  if p.cald then p.sched.level pos
  else (Schedule.mk p.sched.base (p.sched.rise.map fun r => r / 64 * 64) (p.sched.fall.map fun r => r / 64 * 64)).level pos

/-- The instant from which A may be on while the ideal output is high: DT after the rise (R374). -/
def Pair.aReady (p : Pair) : Int := match p.sched.rise with | some r => p.origin + r + p.dt | none => p.aFrom

/-- The instant from which B may be on while the ideal output is low at a position: DT after the fall (R374). -/
def Pair.bReady (p : Pair) (pos : Int) : Int :=
  match p.sched.fall with | some f => if (f : Int) ≤ pos then p.origin + f + p.dt else p.bFrom | none => p.bFrom

/-- The instant from which B is on after a trip that acts at a position (R387): DT after A turns off, the end of the dead
time when the trip cancels the rise of A, and as scheduled when A is off. -/
def Pair.cutReady (p : Pair) (c : Nat) : Int :=
  if p.ideal c then (if p.aReady ≤ p.origin + c then p.origin + c + p.dt else p.aReady) else p.bReady c

/-- Whether a trip of the present period has acted by a position. -/
def Pair.tripped (p : Pair) (pos : Int) : Bool :=
  p.off || (match p.cut with | some c => decide ((c : Int) ≤ pos) | none => false)

/-- A pair at an instant before its schedule changes: what its edges so far say of A and B (R374, R387). -/
def Pair.settle (p : Pair) (x : Int) : Pair :=
  let pos := x - p.origin
  if p.off then p
  else if p.tripped pos then { p with off := true, cut := none, bFrom := p.cutReady (p.cut.getD 0) }
  else if p.ideal pos then { p with cut := none, aFrom := p.aReady }
  else { p with cut := none, bFrom := p.bReady pos }

/-- Whether the outputs follow a high ideal output at an instant: no trip holds A off. -/
def Pair.high (p : Pair) (x : Int) : Bool := !p.tripped (x - p.origin) && p.ideal (x - p.origin)

/-- The outputs A and B of a pair that is not at its safe levels at an instant (R374, R387). -/
def Pair.outputs (p : Pair) (x : Int) : Bool × Bool :=
  let q := p.settle x
  if p.high x then (decide (p.place q.aFrom ≤ x), false) else (false, decide (p.place q.bFrom ≤ x))

/-- The outputs that the safe levels of a PAIR_CTRL word turn on, after SWAP and INV are undone (R378). -/
def safeWants (w : Word) : Bool × Bool :=
  let a := bit w 10 != bit w 8
  let b := bit w 11 != bit w 9
  if bit w 4 then (b, a) else (a, b)

/-- Whether A and B are on at an instant (R374, R377, R379). -/
def pairOn (s : State) (n : PairIx) (x : Int) : Bool × Bool :=
  let p := s.pairs[n]
  if atSafe s n then
    let w := safeWants (s.cfg1 .PAIR_CTRL n)
    (w.1 && decide (p.safeFrom.1 ≤ x), w.2 && decide (p.safeFrom.2 ≤ x))
  else p.outputs x

/-- The instants from which A and B may be on after a change to or from the safe levels at an instant (R379): an output
that is on stays on if the new levels have it on, and the other waits DT; where neither is on, a dead time that runs
goes on. -/
def pairFroms (s : State) (n : PairIx) (x : Int) : Int × Int :=
  let p := s.pairs[n]
  let now := pairOn s n x
  let q := p.settle x
  let wait := if atSafe s n then p.safeFrom else if p.high x then (q.aFrom, x) else (x, q.bFrom)
  (if now.2 then x + p.dt else if now.1 then x else max x wait.1, if now.1 then x + p.dt else if now.2 then x else max x wait.2)

/-- A pair goes to its safe levels now: what follows keeps the dead time of R379. -/
def safeMark (n : PairIx) (s : State) : State :=
  if atSafe s n then s else s.modPair n fun p => { p with safeFrom := pairFroms s n (plaitFine s) }

/-- The levels of PWMnA and PWMnB at an instant (R377, R379): no level while the balls are high-impedance, from power-on
until CK_PLAIT first runs and in Foot-only (R380). -/
def pairPins (s : State) (n : PairIx) (x : Int) : Option (Bool × Bool) :=
  if !s.plait.driven || s.pwr.st == .foot then none
  else
    let w := s.cfg1 .PAIR_CTRL n
    let o := pairOn s n x
    let o := if bit w 4 then (o.2, o.1) else o
    some (o.1 != bit w 8, o.2 != bit w 9)

/-- Putting a pair at its safe levels by clearing EN and stopping its counter (R379, R385). -/
def pairOff (n : PairIx) (s : State) : State :=
  (safeMark n s).modPair n fun p =>
    { p with en := false, sched := .low, next := none, cut := none, off := false, leaving := false, exempt := false }

/-! ## Values for the rest of a period (R371, R375, R382) -/

/-- ceil((MINP + DT) / 2). -/
def stretchLimit (p : Pair) : Nat := (p.minp + p.dt + 1) / 2

/-- The half-width that a period runs with: W held to 64 × PERIOD, then the short-pulse policy; and whether a pulse was
short (R371, R375). -/
def effW (p : Pair) : Nat × Bool :=
  let top := 64 * p.period
  let w := min p.w top
  if w = 0 ∨ w = top then (w, false)
  else if p.policy then
    let l := stretchLimit p
    if w < l then (l, true) else if top - l < w then (top - l, true) else (w, false)
  else if 2 * w < p.minp + p.dt ∨ 2 * w ≤ p.dt then (0, true)
  else if 2 * (top - w) < p.minp + p.dt ∨ 2 * (top - w) ≤ p.dt then (top, true)
  else (w, false)

/-- The instants of a whole period with a half-width (R371). -/
def wholePeriod (p : Pair) (w : Nat) : Schedule :=
  let top := 64 * p.period
  if w = 0 then .low
  else if w = top then ⟨true, none, none⟩
  else ⟨false, some (top - w), some (top + w)⟩

/-- The rest of the present period of a pair whose ideal output is high at a position, and whether the pulse of A or of B
that results was short (R375, R382): the new fall while it lies ahead, and otherwise at once. A pulse of A that would
end short is dropped at once, or stretched to MINP; one that a trip has ended is neither (R376). -/
def restHigh (p : Pair) (pos : Int) : Schedule × Bool :=
  let top : Int := 64 * p.period
  let e := effW p
  if p.w = 0 then (⟨true, none, some pos.toNat⟩, false)
  else if 64 * p.period ≤ e.1 then (⟨true, none, none⟩, e.2)
  else
    let short := e.2 && decide (e.1 < p.w ∧ e.1 ≠ 0)
    let fall := max pos (top + (if short then e.1 else p.w))
    let ready := p.aFrom - p.origin
    if p.off ∨ ready + max 1 p.minp ≤ fall then (⟨true, none, some fall.toNat⟩, short)
    else if p.policy then (⟨true, none, if ready + p.minp < 2 * top then some (ready + p.minp).toNat else none⟩, true)
    else (⟨true, none, some pos.toNat⟩, true)

/-- The same while the ideal output is low: the new rise while it lies ahead, and then the new fall; otherwise low. -/
def restLow (p : Pair) (pos : Int) : Schedule × Bool :=
  let top : Int := 64 * p.period
  let e := effW p
  if p.w ≠ 0 ∧ pos < top - p.w then
    if p.off ∨ !e.2 then (⟨false, some (top - p.w).toNat, some (top + p.w).toNat⟩, false)
    else if e.1 = 0 then (.low, true)
    else if 64 * p.period ≤ e.1 then (⟨false, some (top - p.w).toNat, none⟩, true)
    else
      let r := max pos (top - e.1)
      (⟨false, some r.toNat, some (max (top + e.1) (r + p.minp + p.dt)).toNat⟩, true)
  else (.low, false)

/-- The rest of the present period after new values at a position (R382): the level is kept at the very end of a period,
since the boundary there starts a whole one. -/
def midPeriod (p : Pair) (lvl : Bool) (pos : Int) : Schedule × Bool :=
  if 128 * p.period ≤ pos then (⟨lvl, none, none⟩, false) else if lvl then restHigh p pos else restLow p pos

/-- A dropped or stretched pulse counts once (R375). -/
def countShort (short : Bool) (p : Pair) : Pair :=
  { p with short := p.short || short, shorts := if short then satInc 0xFFFF p.shorts else p.shorts }

/-- The rest of a period with the values and the level given. -/
def Pair.rest (p : Pair) (lvl : Bool) (x : Int) : Pair :=
  let m := midPeriod p lvl (x - p.origin)
  countShort m.2 { p with sched := m.1, cut := none }

/-- Where a trip at a position turns A off (R387): at once while the ideal output is high and at a boundary, at the rise
while that lies ahead, unless the input is released before it. -/
def tripCut (p : Pair) (pos : Nat) : Option Nat :=
  match p.cut with
  | some c => some c
  | none =>
    if p.ideal pos || decide (pos = 0) then some pos
    else p.sched.rise.filter fun r => decide (pos < r)

/-- The trip mask, N and WIN of a pair. -/
def tripMask (s : State) (n : PairIx) : Nat := fld (s.cfg1 .PAIR_TRIP n) 7 0
def tripN (s : State) (n : PairIx) : Nat := fld (s.cfg1 .PAIR_TRIP n) 15 8
def tripWin (s : State) (n : PairIx) : Nat := fld (s.cfg1 .PAIR_TRIP n) 31 16

/-- Whether a masked input is asserted on a pair that runs. -/
def tripActs (s : State) (n : PairIx) : Bool := (s.pairs[n]).en && Nat.land s.plait.tripIn (tripMask s n) != 0

/-- A trip that is asserted acts on a pair's new values (R387, R393). -/
def tripAgain (n : PairIx) (x : Int) (s : State) : State :=
  if tripActs s n then s.modPair n fun p => { p with cut := tripCut p (x - p.origin).toNat } else s

/-- A pair that runs leaves its safe levels at an instant that is not its boundary (R379, R382): its ideal output is low,
and B waits where the levels had A on. -/
def safeLeave (x : Int) (n : PairIx) (s : State) : State :=
  let f := pairFroms s n x
  tripAgain n x (s.modPair n fun p => Pair.rest { p with bFrom := f.2, off := false } false x)

/-- The bound pairs of a coil (09_coil_engine.md R329). -/
def boundPairs (c : CoilIx) (s : State) : List PairIx :=
  let w := s.cfg1 .COIL_CFG c.val
  allPairs.filter fun n => decide (fld w 21 16 ≤ n.val ∧ n.val < fld w 21 16 + fld w 14 12)

/-- The class of a coil slot (R327): 0 supply, 1 input, 2 actuator, 3 auxiliary. -/
def coilClass (c : CoilIx) : Nat := if c.val ≤ 13 then 0 else if c.val ≤ 15 then 1 else if c.val ≤ 19 then 2 else 3

/-- The coil that a pair is bound to while that coil is not STOPPED (R329). -/
def pairOwner (n : PairIx) (s : State) : Option CoilIx :=
  allCoils.find? fun c => (s.coils[c]).st != .stopped && (boundPairs c s).contains n

/-- s8 to s15 of a coil take the staged parameters where an APPLY is pending (R338). -/
def Coil.takeParams (q : Coil) : Coil :=
  if q.paramWait then
    { q with paramWait := false,
             ctx := { q.ctx with s := Vector.ofFn fun n : Fin 16 => if h : 8 ≤ n.val then q.staged[n.val - 8]'(by omega) else q.ctx.s[n] } }
  else q

/-- A coil becomes STOPPED (R363, R364, R385): its job ends, parameters that wait reach it (R338), its pending load is
discarded, its pairs go to their safe levels and its trace ends. -/
def coilHalt (c : CoilIx) (s : State) : State :=
  let s := s.each (boundPairs c s) pairOff
  let s := { s with coreQ := s.coreQ.map fun (l : List Nat) => l.filter (fun x => x != c.val) }
  s.modCoil c fun q =>
    let q := q.takeParams
    { q with st := .stopped, stopWait := false, job := .idle, loadReq := false,
             ctx := { q.ctx with running := false },
             trace := if q.trace.st = .armed || q.trace.st = .triggered then { q.trace with st := .done }
               else q.trace }

/-- Stopping a coil that is not STOPPED. -/
def coilHaltIf (c : CoilIx) (s : State) : State := if (s.coils[c]).st = .stopped then s else coilHalt c s

/-- What the safe state does to coils and pairs (R364, R390, R391): input coils run on and their pairs are marked
exempt, every other coil stops, and every other pair goes to its safe levels. -/
def safeDrives (s : State) : State :=
  let s := s.each allCoils fun c s =>
    if coilClass c = 1 && (s.coils[c]).st != .stopped then
      s.each (boundPairs c s) fun n s => s.modPair n fun p => { p with exempt := true }
    else coilHaltIf c s
  s.each allPairs fun n s => if (s.pairs[n]).exempt then s else pairOff n s

end Sys2Proof.Machine
end

