-- ==== Sys2Proof/Machine/Lashing.lean ====
section
/-!
DEFINITION. Machine/Lashing.lean: the sources of the Lashing, their latches, reactions and injections, and the safe
state (16_lashing.md).
-/
namespace Sys2Proof.Machine
open Sys2Proof

/-- Source numbers (R511). -/
def srcOf (n : Nat) : SrcIx := Fin.ofNat 256 n
def srcOfDie (k : DieIx) (o : Nat) : SrcIx := srcOf (16 * dieNum k + o)

/-- STILL_ACTIVE: the unit asserts the source, its pair is broken, or an injection drives it (R512, R514, R522). -/
def LashSrc.still (x : LashSrc) : Bool := x.active || x.wire || x.inj

/-- Whether a source's reaction is in force (R517, R520, R522). -/
def LashSrc.inForce (x : LashSrc) : Bool := x.latched && !x.dry && !x.ended

/-- Whether a source mutes by its reaction. -/
def LashSrc.mutes (x : LashSrc) : Bool := x.inForce && decide (3 ≤ x.sev)

/-- Whether a MUTE reaction of device scope is in force (R517 to R519). -/
def lashDevMute (s : State) : Bool := s.lash.safe || s.lash.srcs.toList.any fun x => x.mutes && (x.scope || decide (4 ≤ x.sev))

/-- Whether a reaction mutes the strands and ports of a band die: bit 29 of MUTE (R517 to R519). -/
def lashMute (s : State) (k : DieIx) : Bool :=
  lashDevMute s || (List.finRange 256).any fun n => srcDie n == some k && (s.lash.srcs[n]).mutes

/-- The level of SAFE_N, high as long as the pull-up has it: low until READY, in the safe state and in Foot-only (R521).
READY is 0 again from a device reset until that boot is complete (14_handle_boot_update.md R473). -/
def safeN (s : State) : Bool := s.handle.ready && !s.lash.safe && !s.pwr.inReset && s.pwr.st != .foot

/-- The end of a reaction (R520): each port in Transmit that no reaction covers any more raises PAEN with its DAC input
held at zero for 8 µs, and bit 29 clears on its strands after that. `was` is the state before. -/
def muteEnds (was s : State) : State :=
  s.each allDies fun k s =>
    if lashMute was k && !lashMute s k then
      s.modDie k fun d => { d with ports := d.ports.map fun q =>
        if q.st = .transmit then { q with zeroUntil := s.time.ft + 8000, muteUntil := s.time.ft + 8000 } else q }
    else s

/-- The highest severity in force (LSH_STAT.REACTION). -/
def lashReaction (s : State) : Nat :=
  s.lash.srcs.toList.foldl (fun m x => if x.inForce then max m x.sev else m) (if s.lash.safe then 4 else 0)

/-- LSH_STAT. -/
def lshStat (s : State) : Word :=
  mkWord [(31, 24, s.lash.safeCause), (23, 23, b2n s.lash.safe), (22, 22, b2n s.lash.collector),
    (21, 21, b2n s.lash.inj.isSome), (20, 18, lashReaction s), (17, 17, b2n (lashDevMute s)),
    (15, 8, allDies.foldl (fun a k => a + b2n (s.isFitted k && lashMute s k) * 2 ^ dieNum k) 0)]

/-- The address of LSH_STAT. -/
def addrLshStat : Nat := 0x00040004

/-- LOC of a source's record (R524): its die and the unit, which is the strand or port of two sources of a band die, the
coil or pair of the source itself, and 0 for any other. -/
def srcLoc (n : SrcIx) (unit : Nat) : Nat :=
  match srcDie n with
  | some k => locOf (dieNum k) (if n.val % 16 = 2 ∨ n.val % 16 = 6 then unit else 0)
  | none => locOf 0 (if 128 ≤ n.val ∧ n.val ≤ 151 then n.val - 128 else if 160 ≤ n.val ∧ n.val ≤ 207 then n.val - 160 else 0)

/-- The Skein record of a latch (R487, R524): DATA holds the severity applied, DRY and WIRE. An injected and a real
occurrence make records of their own (R522, R523). -/
def lashRecord (n : SrcIx) (unit : Nat) (s : State) : State :=
  let x := s.lash.srcs[n]
  let s := match s.skein.newest with
    | some (r, _) => if r.injected != x.injected then skeinClose s else s
    | none => s
  skeinFill (skeinOccur 0 x.sev (srcLoc n unit) n.val
    (pack [(1, if x.dry then 0 else x.sev), (1, b2n x.dry + 2 * b2n x.wire)]) x.injected false s)

/-- Entering the safe state (R519, R525): no change when it is in force. -/
def enterSafe (n : SrcIx) (s : State) : State :=
  if s.lash.safe then s
  else
    let s := safeDrives s
    let s := { s with lash := { s.lash with safe := true, safeCause := n.val } }
    skeinEvent (locOf 15 0) 0x0C 1 n.val s

/-- Applying the reaction that a source's latch now has (R517): the safe state for SAFE; the mutes of a MUTE reaction
follow from the latch itself. An entry into a MUTE reaction, or into the safe state, is recorded by Tally with origin 4
(R526). `was` is whether the source muted before. -/
def lashReact (n : SrcIx) (before : Word) (was : Bool) (s : State) : State :=
  let x := s.lash.srcs[n]
  let safe := s.lash.safe
  let s := if x.inForce && decide (4 ≤ x.sev) then enterSafe n s else s
  if (x.mutes && x.sev == 3 && !was) || (s.lash.safe && !safe) then tallyAuto addrLshStat before (lshStat s) s else s

/-- A real activation of a source (R512, R523, R524): it latches, a dry or injected latch loses those marks, and the
reaction of its severity applies. -/
def lashActivate (n : SrcIx) (unit : Nat) (s : State) : State :=
  let before := lshStat s
  let was := (s.lash.srcs[n]).mutes
  let s := s.modSrc n fun x =>
    { x with latched := true, dry := false, injected := false, ended := false, count := satInc 0xFFFF x.count }
  lashReact n before was (lashRecord n unit s)

/-- Whether the hub sees the pair of a source: not for a band die that is not fitted, power-gated or not released
(R513). -/
def srcSeen (n : SrcIx) (s : State) : Bool :=
  srcUsed n && (match srcDie n with
    | some k => s.isFitted k && (s.dies[k]).powered && (s.dies[k]).released
    | none => true)

/-- A unit asserts a source and holds it. -/
def raiseHold (n : SrcIx) (unit : Nat) (s : State) : State :=
  if srcSeen n s then lashActivate n unit (s.modSrc n fun x => { x with active := true }) else s

/-- A unit asserts a source for a moment: it latches and is inactive afterwards. -/
def raisePulse (n : SrcIx) (unit : Nat) (s : State) : State := if srcSeen n s then lashActivate n unit s else s

/-- A unit stops asserting a source (R512). -/
def lower (n : SrcIx) (s : State) : State := s.modSrc n fun x => { x with active := false }

/-- A source is asserted no longer, by its unit or by a broken pair (R512, R514). With its wire source a band die drops
what it says of its broadcast pair (R515). -/
def sourceInactive (n : SrcIx) (s : State) : State :=
  let s := s.modSrc n fun x => { x with active := false, wire := false }
  match srcDie n with
  | some k => if n.val % 16 = 1 then s.modDie k fun d => { d with bcastBroken := false } else s
  | none => s

/-- A pair is broken: its source is treated as active with WIRE, and the wire source follows (R514). -/
def breakPair (n : SrcIx) (s : State) : State :=
  let s := lashActivate n 0 (s.modSrc n fun x => { x with wire := true })
  let w := match srcDie n with | some k => srcOfDie k 1 | none => srcOf 8
  if w = n then s else raiseHold w 0 s

/-- SAFE_EXIT (R520, R567): refused with BUSY while a SAFE source is latched or active, while COLLECTOR is 1, or
while a pin-driving TAP instruction is current. -/
def safeExit (o : Origin) (s : State) : Code × State :=
  if !s.lash.safe then (.ok, s)
  else
    let blk := (List.finRange 256).find? fun n =>
      decide (4 ≤ (s.lash.srcs[n]).sev) && ((s.lash.srcs[n]).latched || (s.lash.srcs[n]).still)
    let pins := s.tap.ir == .extest || s.tap.ir == .clamp || s.tap.ir == .highz
    if s.lash.collector || blk.isSome || pins then
      (.busy, skeinEvent (locOf 15 0) 0x0C 5 (match blk with | some n => n.val | none => if pins then 9 else 0) s)
    else
      let before := lshStat s
      let was := s
      let held := allPairs.filter fun n => atSafe s n
      let s := s.each (held.filter fun n => (s.pairs[n]).en && !(s.pairs[n]).latched && !(s.pairs[n]).leaving)
        (safeLeave (plaitFine s))
      let s := muteEnds was { s with lash := { s.lash with safe := false } }
      let s := skeinEvent (locOf 15 0) 0x0C 2 (originCode o) s
      (.ok, tallyAuto addrLshStat before (lshStat s) s)

/-- Clearing LATCHED (R512, R520): BUSY while the source is active; a MUTE reaction with AUTO 0 ends with it. -/
def clearLatched (n : SrcIx) (s : State) : Code × State :=
  let x := s.lash.srcs[n]
  if x.still then (.busy, s)
  else
    let before := lshStat s
    let s := muteEnds s (s.modSrc n fun x => { x with latched := false, dry := false, injected := false, ended := false })
    (.ok, if x.mutes && x.sev == 3 then tallyAuto addrLshStat before (lshStat s) s else s)

/-- The end of an AUTO reaction 1 ms after the source became inactive (R520). -/
def autoEnd (n : SrcIx) (s : State) : State :=
  let x := s.lash.srcs[n]
  if x.auto && x.mutes && decide (x.sev = 3) && !x.still then
    let before := lshStat s
    let s := muteEnds s (s.modSrc n fun x => { x with ended := true })
    tallyAuto addrLshStat before (lshStat s) s
  else s

/-- Starting an injection by GO (R522, R525): the refusals of GO first, then the latch with its marks. A source that
has latched for real keeps that latch (R523), and the injection makes neither a latch nor a record. The sources of a die that the hub does not see are never active (R513). -/
def injectGo (src : SrcIx) (dry atSource : Bool) (len : Nat) (s : State) : Code × State :=
  if (atSource && dry) || src.val = 0 || src.val = 8 || src.val = 9 || !srcUsed src then (.badProgram, s)
  else if s.lash.inj.isSome then (.busy, s)
  else
    let before := lshStat s
    let was := (s.lash.srcs[src]).mutes
    let real := (s.lash.srcs[src]).latched && !(s.lash.srcs[src]).injected
    let s := { s with lash := { s.lash with inj := some ⟨src, dry, atSource, len⟩ } }
    let s := skeinEvent (locOf 15 0) 0x0C 3 (pack [(1, src.val), (1, b2n atSource), (1, b2n dry)]) s
    if !srcSeen src s then (.ok, s) else
    let s := s.modSrc src fun x =>
      { x with inj := true, latched := true, count := satInc 0xFFFF x.count,
               injected := if real then x.injected else true, dry := if real then x.dry else dry,
               ended := x.ended && real && dry }
    (.ok, lashReact src before was (if real then s else lashRecord src 0 s))

/-- Ending an injection (R522, R525). -/
def injectEnd (s : State) : State :=
  match s.lash.inj with
  | none => s
  | some j =>
    let s := { s with lash := { s.lash with inj := none } }
    skeinEvent (locOf 15 0) 0x0C 4 0 (s.modSrc j.source fun x => { x with inj := false })

/-- Source 9 active for one cycle (R617). -/
def raiseSafeRequest (s : State) : State := raisePulse (srcOf 9) 0 s

/-- A self-fault of the collector (R516): source 0 latches and COLLECTOR is set. -/
def collectorFault (s : State) : State :=
  lashActivate (srcOf 0) 0 { s with lash := { s.lash with collector := true } }

end Sys2Proof.Machine
end

