-- ==== Sys2Proof/Machine/PlaitOps.lean ====
section
/-!
DEFINITION. Machine/PlaitOps.lean: periods, load points, restarts, trips and latches of the Plait pairs (10_plait.md).
-/
namespace Sys2Proof.Machine
open Sys2Proof

/-- Whether a pair is bound to a coil that is not STOPPED (R383, R385). -/
def pairOwned (s : State) (n : PairIx) : Bool := (pairOwner n s).isSome

/-- The pairs of a mask of 48 bits. -/
def maskPairs (m : Nat) : List PairIx := allPairs.filter fun n => m / 2 ^ n.val % 2 == 1

/-- The set that PL_MASK0 and PL_MASK1 name (R381). -/
def hostMask (s : State) : Nat := (s.cfg0 .PL_MASK0).toNat + 2 ^ 32 * fld (s.cfg0 .PL_MASK1) 15 0

/-- Whether a pair is in a pending request of the host or of a coil (R381, R383). -/
def pairPending (s : State) (n : PairIx) : Bool :=
  s.plait.hostReq / 2 ^ n.val % 2 == 1 ||
    allCoils.any fun c => (s.coils[c]).loadReq && (boundPairs c s).contains n

/-! ## Load points and restarts (R370, R381, R382) -/

/-- Taking the shadows (R381): a W above 64 × PERIOD acts as 64 × PERIOD and sets DUTY_CLAMP (R371). -/
def takeShadow (p : Pair) : Pair :=
  { p with period := p.shPeriod, w := min p.shW (64 * p.shPeriod), phase := p.shPhase,
           clamp := p.clamp || decide (64 * p.shPeriod < p.shW) }

/-- A restart at a cycle of a pair that is settled (R370, R382): the first boundary falls PHASE cycles later. -/
def restartAt (t : Nat) (lvl : Bool) (p : Pair) : Pair :=
  let ph := p.phase % (2 * p.period)
  Pair.rest { p with next := some (t + ph), bound := (t : Int) + ph - 2 * p.period } lvl (64 * (t : Int))

/-- A pair takes a load point at a cycle (R381, R382). One whose own boundary coincides with it keeps its level until
that boundary. -/
def loadPair (t : Nat) (safe : Bool) (p : Pair) : Pair :=
  let lvl := !safe && p.ideal (pairPos p t)
  let q := takeShadow (p.settle (64 * (t : Int)))
  if !p.en then takeShadow p
  else if q.period ≠ p.period ∨ q.phase ≠ p.phase then restartAt t lvl q
  else q.rest lvl (64 * (t : Int))

/-! ## Trips (R386 to R389) -/

/-- Tripped periods among the last WIN (R388). -/
def winTripsOf (s : State) (n : PairIx) : Nat :=
  let p := s.pairs[n]
  (p.tripIdx.filter fun x => decide (p.periods < x + tripWin s n)).length

/-- PAIR_STAT. A count of tripped periods that its field cannot hold is a free value. -/
def pairStat (s : State) (n : PairIx) : Word :=
  let p := s.pairs[n]
  let trips := if winTripsOf s n < 256 then winTripsOf s n else Config.free s.freeCtr
  mkWord [(23, 16, trips), (15, 8, p.latchSrc), (6, 6, b2n p.clamp), (5, 5, b2n p.short),
    (4, 4, b2n p.exempt), (3, 3, b2n (pairOwned s n)), (2, 2, b2n (pairPending s n)), (1, 1, b2n p.latched),
    (0, 0, b2n (atSafe s n))]

/-- The address of PAIR_STAT. -/
def addrPairStat (n : PairIx) : Nat := 0x80018 + n.val * 0x20

/-- The latch decision (R388, R394). -/
def latchCheck (n : PairIx) (s : State) : State :=
  if !(s.pairs[n]).latched && decide (tripN s n ≤ winTripsOf s n) then
    let before := pairStat s n
    let s := (safeMark n s).modPair n fun p => { p with latched := true, leaving := false, latchSrc := s.plait.tripIn }
    let s := raiseHold (srcOf (160 + n.val)) n.val s
    let s := tallyAuto (addrPairStat n) before (pairStat s n) s
    skeinEvent (locOf 0 n.val) 6 1 s.plait.tripIn s
  else s

/-- Whether the present period of a pair is to be counted as a tripped period. -/
def tripNew (s : State) (n : PairIx) : Bool :=
  tripActs s n && (s.pairs[n]).tripIdx.head? != some (s.pairs[n]).periods

/-- The present period of a pair is a tripped period: it counts once in TRIPS (R387). -/
def tripMark (n : PairIx) (pos : Nat) (s : State) : State :=
  if !tripActs s n then s
  else
    let fresh := tripNew s n
    s.modPair n fun p =>
      { p with cut := tripCut p pos,
               tripIdx := if fresh then p.periods :: (p.tripIdx.filter fun x => decide (p.periods < x + 65535)) else p.tripIdx,
               counted := some p.periods,
               trips := if fresh && p.counted != some p.periods then satInc 0xFFFF p.trips else p.trips }

/-- Trips of one pair at a position, and the latch decision (R387, R388). -/
def tripPair (n : PairIx) (pos : Nat) (s : State) : State :=
  if tripNew s n then latchCheck n (tripMark n pos s) else tripMark n pos s

/-- A trip input becomes asserted at a cycle (R386, R387): every pair that names it is tripped, and then latches are
decided. -/
def tripAssert (i : Fin 8) (t : Nat) (s : State) : State :=
  let bitv := 2 ^ i.val
  let s := { s with plait := { s.plait with
    tripIn := Nat.lor s.plait.tripIn bitv, seen := Nat.lor s.plait.seen bitv, now := max s.plait.now t } }
  let fresh := allPairs.filter (tripNew s)
  (s.each allPairs fun n s => tripMark n (pairPos (s.pairs[n]) t).toNat s).each fresh latchCheck

/-- A pair that no asserted input trips any more: a rise that still lies ahead comes (R387). -/
def tripFree (t : Nat) (n : PairIx) (s : State) : State :=
  if Nat.land s.plait.tripIn (tripMask s n) = 0 then
    s.modPair n fun p => { p with cut := p.cut.filter fun c => decide (c = 0 ∨ (c : Int) ≤ pairPos p t) }
  else s

/-- A trip input is released (R386). -/
def tripRelease (i : Fin 8) (t : Nat) (s : State) : State :=
  let s := { s with plait := { s.plait with
      tripIn := if s.plait.tripIn / 2 ^ i.val % 2 = 1 then s.plait.tripIn - 2 ^ i.val else s.plait.tripIn,
      now := max s.plait.now t } }
  s.each allPairs (tripFree t)

/-- New trip settings of a pair (R387): they act on the present period. -/
def tripSet (n : PairIx) (s : State) : State :=
  tripPair n (pairPos (s.pairs[n]) (plaitCycle s)).toNat (tripFree (plaitCycle s) n s)

/-- A CLEAR (R389, R394). -/
def pairClear (n : PairIx) (s : State) : Code × State :=
  if !(s.pairs[n]).latched then (.ok, s)
  else if Nat.land s.plait.tripIn (tripMask s n) ≠ 0 then (.busy, skeinEvent (locOf 0 n.val) 6 2 0 s)
  else
    let s := s.modPair n fun p => { p with latched := false, leaving := true, tripIdx := [] }
    (.ok, skeinEvent (locOf 0 n.val) 6 3 0 (lower (srcOf (160 + n.val)) s))

/-! ## Boundaries and load points (R369, R381) -/

/-- The values that a pair takes at its own boundary (R372, R376). -/
def boundaryValues (n : PairIx) (s : State) : State :=
  let w := s.cfg1 .PAIR_DT n
  let pol := bit (s.cfg1 .PAIR_CTRL n) 1
  s.modPair n fun p => { p with
    dt := fld w 9 0, minp := fld w 26 16, policy := pol, trim := s.plait.trim, cald := s.plait.calValid }

/-- The lowest pair of a mask. -/
def lowestPair (m : Nat) : Option PairIx := allPairs.find? fun n => m / 2 ^ n.val % 2 == 1

/-- The load point of a set of pairs at a boundary of pair n (R381): the others take their shadows in the same cycle, and
a trip that is asserted acts on the new values (R393). -/
def loadOthers (n : PairIx) (t : Nat) (l : List PairIx) (s : State) : State :=
  s.each l fun m s => if m = n then s else tripAgain m (64 * (t : Int)) (s.modPair m (loadPair t (atSafe s m)))

/-- The coils whose pending request has its load point at a boundary of pair n: n is their first pair. -/
def loadingCoils (n : PairIx) (s : State) : List CoilIx :=
  allCoils.filter fun c => (s.coils[c]).loadReq && (boundPairs c s).head? == some n

/-- The load points at a boundary of pair n: those of the host's request and of coils' requests of which n is the
lowest pair. The pair itself takes its shadows when it is in one. -/
def loadPoints (n : PairIx) (t : Nat) (s : State) : State :=
  let host := s.plait.hostReq != 0 && lowestPair s.plait.hostReq == some n
  let coils := loadingCoils n s
  let s := if host then
      let m := s.plait.hostReq
      loadOthers n t (maskPairs m) { s with plait := { s.plait with hostReq := 0 } }
    else s
  let s := s.each coils fun c s => loadOthers n t (boundPairs c s) (s.modCoil c fun q => { q with loadReq := false })
  if host || !coils.isEmpty then s.modPair n takeShadow else s

/-- A whole period begins at a cycle, after a high or low of the outputs: a change of the ideal output at the boundary
itself is an edge there (R371, R374). -/
def beginPeriod (t : Nat) (high : Bool) (p : Pair) : Pair :=
  let c := wholePeriod p (effW p).1
  let edge := 64 * (t : Int) + p.dt
  countShort (effW p).2
    { p with bound := t, next := none, sched := c, cut := none, off := false, periods := p.periods + 1,
             aFrom := if c.base && !high then edge else p.aFrom,
             bFrom := if !c.base && high then edge else p.bFrom }

/-- The boundary of a pair whose load point there changes its PERIOD or PHASE, with a PHASE: it restarts (R370). -/
def beginRestart (t : Nat) (lvl high : Bool) (p : Pair) : Pair :=
  restartAt t lvl
    { p with cut := none, off := false, periods := p.periods + 1,
             aFrom := if lvl && !high then 64 * (t : Int) + p.dt else p.aFrom }

/-- The cycle of a pair's next boundary. -/
def Pair.due (p : Pair) : Int := match p.next with | some b => b | none => p.bound + 2 * p.period

/-- The ends of the safe levels and of the last period at a boundary (R379, R389): a pair that leaves its safe levels
starts with its ideal output low, and a pair that runs is settled. -/
def endPeriod (n : PairIx) (t : Nat) (s : State) : State :=
  let x : Int := 64 * (t : Int)
  let f := pairFroms s n x
  if atSafe s n then s.modPair n fun p => { p with leaving := false, off := false, cut := none, bFrom := f.2 }
  else s.modPair n fun p => p.settle x

/-- A period boundary of a pair (R369, R381, R387, R389). It is one when the pair runs and the cycle is that of its
next boundary. -/
def pairBoundary (n : PairIx) (t : Nat) (s : State) : State :=
  let p := s.pairs[n]
  if p.en && p.due == (t : Int) then
    let s := { s with plait := { s.plait with now := max s.plait.now t } }
    let lvl := !atSafe s n && p.ideal (pairPos p t)
    let high := !atSafe s n && p.high (64 * (t : Int))
    let s := boundaryValues n (endPeriod n t s)
    let old := s.pairs[n]
    let s := loadPoints n t s
    let new := s.pairs[n]
    let moved := new.period != old.period || new.phase != old.phase
    let s := s.modPair n fun p =>
      if moved && new.phase % (2 * new.period) != 0 then beginRestart t lvl high p else beginPeriod t high p
    tripPair n (pairPos (s.pairs[n]) t).toNat s
  else s

/-! ## Host commands -/

/-- A host LOAD_ALL or SYNC may not name a pair of a coil that is not STOPPED, nor meet a pending host request
(R383). -/
def plBusy (s : State) : Bool := s.plait.hostReq != 0 || (maskPairs (hostMask s)).any (pairOwned s)

/-- LOAD_ALL (R381). -/
def plLoadAll (s : State) : Code × State :=
  if plBusy s then (.busy, s) else (.ok, { s with plait := { s.plait with hostReq := hostMask s } })

/-- The restart of a pair that runs at a cycle (R370, R382): a trip that is asserted acts on the rest of the period. -/
def pairRestart (t : Nat) (n : PairIx) (s : State) : State :=
  let safe := atSafe s n
  tripAgain n (64 * (t : Int)) (s.modPair n fun p =>
    if p.en then restartAt t (!safe && p.ideal (pairPos p t)) (p.settle (64 * (t : Int))) else p)

/-- SYNC (R384): the restart falls on the first CK_PLAIT edge after the write. -/
def plSync (s : State) : Code × State :=
  if plBusy s then (.busy, s) else (.ok, s.each (maskPairs (hostMask s)) (pairRestart (plaitCycle s + 1)))

/-- Setting EN (R379, R385): the pair restarts with its active values, from its safe levels. A trip that is asserted acts
on it (R387). -/
def pairEnable (n : PairIx) (s : State) : State :=
  if (s.pairs[n]).en then s
  else
    let t := plaitCycle s + 1
    let f := pairFroms s n (64 * (t : Int))
    let s := s.modPair n fun p => restartAt t false { p with en := true, off := false, cut := none, bFrom := f.2 }
    let s := { s with plait := { s.plait with driven := true } }
    tripPair n (pairPos (s.pairs[n]) t).toNat s

/-- Whether the safe levels of a PAIR_CTRL word turn both outputs on (R378). -/
def bothOn (w : Word) : Bool := (safeWants w).1 && (safeWants w).2

/-- A calibration of the delay line (R372, R373, R394). -/
def plaitCalibration (ok : Bool) (trim : Nat) (s : State) : State :=
  let s := { s with plait := { s.plait with cals := (s.plait.cals + 1) % 2 ^ 16 } }
  if ok then lower (srcOf 4) { s with plait := { s.plait with trim := trim, calValid := true } }
  else
    let s := { s with plait := { s.plait with calFail := true } }
    skeinEvent (locOf 0 0) 6 4 0 (raiseHold (srcOf 4) 0 s)

end Sys2Proof.Machine
end

