-- ==== Sys2Proof/Machine/Complex.lean ====
section
/-!
DEFINITION. Machine/Complex.lean: exact complex arithmetic on integer samples.
-/
namespace Sys2Proof

/-- Sum, difference, product, conjugate and a real multiple of complex samples. -/
def Cx.add (a b : Cx) : Cx := ⟨a.re + b.re, a.im + b.im⟩
def Cx.sub (a b : Cx) : Cx := ⟨a.re - b.re, a.im - b.im⟩
def Cx.mul (a b : Cx) : Cx := ⟨a.re * b.re - a.im * b.im, a.re * b.im + a.im * b.re⟩
def Cx.conj (a : Cx) : Cx := ⟨a.re, -a.im⟩
def Cx.scale (a : Cx) (n : Int) : Cx := ⟨a.re * n, a.im * n⟩
/-- |z|². -/
def Cx.norm (a : Cx) : Nat := (a.re * a.re + a.im * a.im).toNat

/-- A sample saturated to 16 bits per part. -/
def Cx.sat16 (z : Cx) : Cx := ⟨Machine.sat 16 z.re, Machine.sat 16 z.im⟩

/-- A sample over an amount, rounded (R610) and saturated to 16 bits per part. -/
def Cx.div16 (z : Cx) (d : Nat) : Cx := Cx.sat16 ⟨Machine.roundDiv z.re d, Machine.roundDiv z.im d⟩

/-- A sample times an amplitude factor in 2^-96. -/
def Cx.gain (z : Cx) (a : Nat) : Cx := Cx.div16 (z.scale a) (2 ^ 96)

end Sys2Proof
end

