-- ==== Sys2Proof/Machine/Geometry.lean ====
section
/-!
DEFINITION. Machine/Geometry.lean: what a strand's settings say: rate, taps, band, placement, latency, its states
(02_converters_riddle.md R50 to R70, 03_strands.md R94 to R98, R126).
-/
namespace Sys2Proof.Machine
open Sys2Proof

/-- RDL_CFG fields: h, the number N of taps, snap mode, and BW in 0.1 MHz (R63, R64). -/
def rdlH (s : State) (k : DieIx) (i : StrandIx) : Nat := fld (s.cfg2 .RDL_CFG k i) 2 0
def rdlTaps (s : State) (k : DieIx) (i : StrandIx) : Nat := 16 * 2 ^ fld (s.cfg2 .RDL_CFG k i) 10 8
def rdlSnap (s : State) (k : DieIx) (i : StrandIx) : Bool := bit (s.cfg2 .RDL_CFG k i) 12
def rdlBw (s : State) (k : DieIx) (i : StrandIx) : Nat := fld (s.cfg2 .RDL_CFG k i) 26 16

/-- F_front of R63. -/
def frontFill (h : Nat) : Nat :=
  match h with | 1 => 18 | 2 => 21 | 3 => 23 | _ => 24

/-- M_r, the steps of the gate's ramp (03_strands.md R112). -/
def gateSteps (h : Nat) : Nat :=
  match h with | 1 => 62 | 2 => 31 | 3 => 15 | 4 => 7 | _ => 3

/-- The fill count F of R69, or in snap mode the F_front + L samples of R80. -/
def fillCount (s : State) (k : DieIx) (i : StrandIx) : Nat :=
  frontFill (rdlH s k i) + if rdlSnap s k i then (s.rid k i).snapL else rdlTaps s k i

/-- The duration of n strand samples in ns, rounded down: 1 / r_s is 3125 × 2^(h-1) / 768 ns (R63). -/
def samplesNs (h n : Nat) : Nat := n * 3125 * 2 ^ (h - 1) / 768

/-- How many whole strand samples pass in a time in ns. -/
def nsSamples (h t : Nat) : Nat := t * 768 / (3125 * 2 ^ (h - 1))

/-- The maximum occupied bandwidth of a rate in 0.1 MHz (R63). -/
def maxBw (h : Nat) : Nat := 2000 / 2 ^ (h - 1)

/-- G_tx of R66 in 0.1 ns, rounded to nearest. -/
def gTx (h n : Nat) : Nat :=
  282 + (roundDiv ((3072 + 128 * ((n : Int) - 1) - 1536 / 2 ^ h) * 2 ^ (h - 1) * 15625) 98304).toNat

/-- STR_PLACE fields (R94 to R96). -/
def inPort (s : State) (k : DieIx) (i : StrandIx) : Nat := fld (s.cfg2 .STR_PLACE k i) 1 0
def inStream (s : State) (k : DieIx) (i : StrandIx) : Bool := bit (s.cfg2 .STR_PLACE k i) 2
def outKind (s : State) (k : DieIx) (i : StrandIx) : Nat := fld (s.cfg2 .STR_PLACE k i) 7 6
def outPort (s : State) (k : DieIx) (i : StrandIx) : Nat := fld (s.cfg2 .STR_PLACE k i) 9 8
def limPort (s : State) (k : DieIx) (i : StrandIx) : Nat := fld (s.cfg2 .STR_PLACE k i) 11 10
def inEp (s : State) (k : DieIx) (i : StrandIx) : Nat := fld (s.cfg2 .STR_PLACE k i) 23 16
def outEp (s : State) (k : DieIx) (i : StrandIx) : Nat := fld (s.cfg2 .STR_PLACE k i) 31 24

/-- Whether a strand is an uplink strand (R10). -/
def isUplink (i : StrandIx) : Bool := decide (8 ≤ i.val)

/-- Whether a strand has an output (R94). -/
def hasOutput (s : State) (k : DieIx) (i : StrandIx) : Bool := outKind s k i == 1 || outKind s k i == 2

/-- The port whose composite level a strand's output counts in (R96). -/
def levelPort (s : State) (k : DieIx) (i : StrandIx) : Option Nat :=
  if outKind s k i = 1 then some (outPort s k i) else if outKind s k i = 2 then some (limPort s k i) else none

/-- Running: any state other than STOPPED (R98). -/
def isRunning (s : State) (k : DieIx) (i : StrandIx) : Bool := (s.strand k i).st != .stopped

/-- Whether a running strand of a die sends to a port's DAC (R56). -/
def dacInUse (s : State) (k : DieIx) (p : Nat) : Bool :=
  allStrands.any fun i => isRunning s k i && outKind s k i == 1 && outPort s k i == p

/-- Ports follow R95. -/
def portsFollow (s : State) (k : DieIx) (i : StrandIx) : Bool :=
  let low := fun p => decide (p < 2)
  let inOk := inStream s k i || (low (inPort s k i) != isUplink i)
  let outOk :=
    if outKind s k i = 1 then low (outPort s k i) == isUplink i
    else if outKind s k i = 2 then low (limPort s k i) == isUplink i
    else outKind s k i == 0
  inOk && outOk

/-! ## Bands -/

/-- A frequency range, in kHz times 2^48. -/
structure Band where
  lo : Int
  hi : Int
  deriving DecidableEq, Repr

/-- Frequencies in the unit of `Band`. -/
def kHz (f : Int) : Int := f * 2 ^ 48

/-- F_S in kHz (R48). -/
def fS : Int := 10321920

/-- The band of a frequency word and a bandwidth code: f_c is FTW × F_S / 2^48 (R59). -/
def bandOf (ftw bw : Nat) : Band := ⟨ftw * fS - kHz (bw * 50), ftw * fS + kHz (bw * 50)⟩

/-- The band of a strand with its active word. -/
def strandBand (s : State) (k : DieIx) (i : StrandIx) : Band := bandOf (s.rid k i).ftw (rdlBw s k i)

/-- The overlap of R611: an interval of nonzero width is shared. -/
def Band.overlaps (a b : Band) : Bool := decide (max a.lo b.lo < min a.hi b.hi)

/-- The alias F_S - f_hi to F_S - f_lo (R53). -/
def Band.alias (b : Band) : Band := ⟨kHz fS - b.hi, kHz fS - b.lo⟩

/-- The zone of a frequency word: true for the second (R60). -/
def zoneOf (ftw : Nat) : Bool := decide (2 ^ 47 ≤ ftw)

/-- Whether a band meets the alias of another running strand's band on the same ADC (R53). The other strand's band is
that of its active word; an APPLY that it has pending counts only once it commits (DESIGN CHOICE,
notes/assumptions/125.md). -/
def aliasMeets (s : State) (k : DieIx) (i : StrandIx) (ftw : Nat) : Bool :=
  !inStream s k i && allStrands.any fun j =>
    j != i && isRunning s k j && !inStream s k j && inPort s k j == inPort s k i &&
      zoneOf ftw != zoneOf (s.rid k j).ftw && (bandOf ftw (rdlBw s k i)).overlaps (strandBand s k j).alias

/-- The placement check with a frequency word: the first cause of R55 that fails, 0 when none does. -/
def placeFault (s : State) (k : DieIx) (i : StrandIx) (ftw : Nat) : Nat :=
  let b := bandOf ftw (rdlBw s k i)
  if b.lo < kHz 617000 ∨ kHz 7125000 < b.hi then 1
  else if b.lo < kHz 5240960 ∧ kHz 5080960 < b.hi then 2
  else if rdlBw s k i = 0 ∨ maxBw (rdlH s k i) < rdlBw s k i then 3
  else if aliasMeets s k i ftw then 4
  else if outKind s k i = 1 ∧ bit (s.cfg2 .CONV_CFG k (outPort s k i)) 0 ≠ zoneOf ftw then 5
  else if rdlSnap s k i ∧ outKind s k i = 1 then 6
  else 0

/-! ## The present delay (R75, R76) -/

/-- The target DELAY in 1/256 sample. -/
def delayTarget (s : State) (k : DieIx) (i : StrandIx) : Nat := fld (s.cfg2 .DELAY_CFG k i) 13 0

/-- The present delay: a slew moves it by 1/256 sample per strand sample. -/
def delayNow (s : State) (k : DieIx) (i : StrandIx) : Nat :=
  let r := s.rid k i
  match r.slewing with
  | none => r.delayAct
  | some t0 =>
    let n := nsSamples (rdlH s k i) (s.time.ft - t0)
    let d := delayTarget s k i
    if r.delayAct ≤ d then min d (r.delayAct + n) else max d (r.delayAct - n)

/-! ## Latency -/

/-- The stake stream crossings of a strand: one for a stream input, one for a stream output (R29). -/
def crossings (s : State) (k : DieIx) (i : StrandIx) : Nat :=
  b2n (inStream s k i) + b2n (outKind s k i == 2)

/-- L of R126 in 0.1 ns for a pipeline depth and a delay in 1/256 sample. -/
def latency (s : State) (k : DieIx) (i : StrandIx) (pipe delay : Nat) : Nat :=
  let h := rdlH s k i
  let q : Int := (411 + rdlTaps s k i + 64 * pipe) * 256 + delay - 3072 / 2 ^ h
  1104 + 480 * crossings s k i + (roundDiv (q * 2 ^ (h - 1) * 15625) 98304).toNat

/-- The image bound to a strand. -/
def boundImage (s : State) (k : DieIx) (i : StrandIx) : Option Image :=
  match (s.prog k i).slot with
  | none => none
  | some n => (s.dies[k]).slots[n]

/-- P of the bound image; 3 without one. -/
def pipeOf (s : State) (k : DieIx) (i : StrandIx) : Nat :=
  match boundImage s k i with | some g => g.pipe | none => 3

/-- STR_LAT (R127): it follows DELAY_ACT, in a slew too, and reads 0 while STOPPED. -/
def strLat (s : State) (k : DieIx) (i : StrandIx) : Nat :=
  if isRunning s k i then latency s k i (pipeOf s k i) (delayNow s k i) else 0

/-! ## Holding -/

/-- Whether a band die is held: by the Lashing, or not yet released (R40, R47). -/
def dieHeld (s : State) (k : DieIx) : Bool := s.held || !(s.dies[k]).released

/-- Units of a die as LOC of a record: a strand, a port. -/
def strandUnit (i : StrandIx) : Nat := i.val
def portUnit (p : PortIx) : Nat := p.val

end Sys2Proof.Machine
end

