-- ==== Sys2Proof/Machine/Record.lean ====
section
/-!
DEFINITION. Machine/Record.lean: the regulatory record and what its entries say of a strand and of a port
(05_network_protection.md R202 to R208).
-/
namespace Sys2Proof.Machine
open Sys2Proof

/-- The offset of the regulatory partition in MRAM (14_handle_boot_update.md R466). -/
def regBase : Nat := 0x01E00000

/-- The offset of a copy: true for copy B (R202). -/
def copyBase (b : Bool) : Nat := regBase + if b then 0x8000 else 0

/-- Whether the record is valid: it has a good copy (R202). -/
def regValid (s : State) : Bool := s.reg.okA || s.reg.okB

/-- A little-endian field of a list of bytes. -/
def field (l : List Byte) (off n : Nat) : Nat := leNat ((l.drop off).take n)

/-- A signed 16-bit field. -/
def field16 (l : List Byte) (off : Nat) : Int := signed 16 (field l off 2)

/-- A licence entry (R204). -/
structure Entry where
  valid : Bool
  dir : Bool
  tdd : Bool
  presReq : Bool
  gateReq : Bool
  zeros : Bool
  fLo : Nat
  fHi : Nat
  maxGain : Int
  floor : Nat
  out0 : Int
  out1 : Int
  cal0 : Int
  cal1 : Int
  duty : Nat
  country : Nat
  deriving DecidableEq, Repr

/-- Reading an entry from its 64 bytes (R204); `zeros` says that its zero fields are zero. -/
def entryOfBytes (l : List Byte) : Entry :=
  let f := field l 0 4
  { valid := f % 2 == 1, dir := f / 2 % 2 == 1, tdd := f / 4 % 2 == 1, presReq := f / 8 % 2 == 1,
    gateReq := f / 16 % 2 == 1, zeros := decide (f < 32) && field l 0x20 32 == 0, fLo := field l 4 4,
    fHi := field l 8 4, maxGain := field16 l 0x0C, floor := field l 0x0E 2, out0 := field16 l 0x10,
    out1 := field16 l 0x12, cal0 := field16 l 0x14, cal1 := field16 l 0x16, duty := field l 0x18 2,
    country := field l 0x1A 2 }

/-- Entry e of die k in a record's bytes (R203). -/
def entryIn (l : List Byte) (k : DieIx) (e : Nat) : Entry := entryOfBytes ((l.drop (0x20 + (k.val * 8 + e) * 64)).take 64)

/-- Entry e of die k in the active copy. -/
def activeEntry (s : State) (k : DieIx) (e : Nat) : Entry :=
  entryOfBytes (readBytes .mram (copyBase s.reg.actB + 0x20 + (k.val * 8 + e) * 64) 64 s)

/-- Whether an entry covers a band for a direction: it is valid, of that direction, and holds the whole band (R205). -/
def Entry.covers (x : Entry) (up : Bool) (b : Band) : Bool :=
  x.valid && x.dir == up && decide (kHz x.fLo ≤ b.lo ∧ b.hi ≤ kHz x.fHi)

/-- The entry of a band on a die, with its index (R205). -/
def entryFor (s : State) (k : DieIx) (up : Bool) (b : Band) : Option (Nat × Entry) :=
  if regValid s then
    match (List.range 8).find? fun e => (activeEntry s k e).covers up b with
    | some e => some (e, activeEntry s k e)
    | none => none
  else none

/-- A strand's entry. -/
def strandEntry (s : State) (k : DieIx) (i : StrandIx) : Option (Nat × Entry) :=
  entryFor s k (isUplink i) (strandBand s k i)

/-- MAX_OUT and CAL of an entry for a port of the die: ports 0 and 1 of an entry are the ports of its output side
(R204). -/
def Entry.maxOut (x : Entry) (p : Nat) : Int := if p % 2 = 0 then x.out0 else x.out1
def Entry.cal (x : Entry) (p : Nat) : Int := if p % 2 = 0 then x.cal0 else x.cal1

/-- MAX_OUT 0x8000: the port is forbidden. -/
def forbidden : Int := -32768

/-- P_lim of a port in 0.01 dBFS (R206). -/
def pLim (s : State) (k : DieIx) (p : PortIx) : Int :=
  let vals := (allStrands.filter fun i => isRunning s k i && levelPort s k i == some p.val).map fun i =>
    match strandEntry s k i with
    | none => (-20000 : Int)
    | some (_, x) => if x.maxOut p.val = forbidden then -20000 else x.maxOut p.val - x.cal p.val
  match vals with
  | [] => -20000
  | v :: l => l.foldl min v

/-- The gain-margin floor of a strand in 0.05 dB: 40.00 dB without an entry (R205). -/
def marginFloor (s : State) (k : DieIx) (i : StrandIx) : Nat :=
  match strandEntry s k i with | some (_, x) => x.floor | none => 800

/-- Whether list e of a die has a valid identity (R207, cause 6). -/
def listHasId (s : State) (k : DieIx) (e : Nat) : Bool :=
  (List.range 32).any fun n => bit (s.cfg3 .PRES_ID k e n) 31

/-- Causes 1 to 3 of R207 with a frequency word. -/
def regFaultBand (s : State) (k : DieIx) (i : StrandIx) (ftw : Nat) : Nat :=
  if !regValid s then 1
  else match entryFor s k (isUplink i) (bandOf ftw (rdlBw s k i)) with
    | none => 2
    | some (_, x) =>
      match levelPort s k i with
      | some p => if x.maxOut p = forbidden then 3 else 0
      | none => 0

/-! ## TDD pattern checks (R189 to R196) -/

/-- The period in 0.1 µs (TDD_CFG.PERIOD). -/
def tddPeriod (code : Nat) : Option Nat := [5000, 6250, 10000, 12500, 20000, 25000, 30000, 40000, 50000, 100000][code]?

/-- The slot length in 0.1 µs for SCS. -/
def slotLen (scs : Nat) : Nat := 10000 / 2 ^ scs

/-- Slots in a pattern, when the period is a whole number of them (R195, cause 1). -/
def patSlots (cfg : Word) : Option Nat :=
  match tddPeriod (fld cfg 28 25) with
  | none => none
  | some p => if p % slotLen (fld cfg 30 29) = 0 then some (p / slotLen (fld cfg 30 29)) else none

/-- The type of slot m: 0 D, 1 U, 2 S, 3 X. -/
def Pattern.slot (q : Pattern) (m : Nat) : Nat :=
  let w := if m < 16 then q.slots0 else if m < 32 then q.slots1 else q.slots2
  fld w (2 * (m % 16) + 1) (2 * (m % 16))

/-- The direction of symbol y of slot m: 0 downlink, 1 uplink, 2 neither (R189). -/
def Pattern.symbol (q : Pattern) (m y : Nat) : Nat :=
  match q.slot m with
  | 0 => 0
  | 1 => 1
  | 2 => if y < fld q.cfg 23 20 then 0 else if 14 - fld q.cfg 19 16 ≤ y then 1 else 2
  | _ => 2

/-- The air intervals of a direction over one period, merged, in units of 1/14 × 0.1 ns (R190). -/
def Pattern.air (q : Pattern) (dir : Nat) : List (Int × Int) :=
  let len := 1000 * slotLen (fld q.cfg 30 29)
  let n := match patSlots q.cfg with | some n => n | none => 0
  let syms := (List.range (n * 14)).filter fun x => q.symbol (x / 14) (x % 14) == dir
  syms.foldl (fun acc x =>
    match acc with
    | (a, b) :: l => if b = (x * len : Nat) then (a, ((x + 1) * len : Nat)) :: l
      else ((x * len : Nat), ((x + 1) * len : Nat)) :: acc
    | [] => [((x * len : Nat), ((x + 1) * len : Nat))]) []

/-- The period in the unit of `air`. -/
def Pattern.span (q : Pattern) : Int := match tddPeriod (fld q.cfg 28 25) with | some p => 14000 * p | none => 0

/-- Nanoseconds and 0.1 ns in the unit of `air`, which is 1/14 of 0.1 ns. -/
def airNs (t : Int) : Int := t * 140
def airTenth (t : Int) : Int := t * 14

/-- The windows of one port (R193): transmit and receive, widened by the guards. -/
def Pattern.windows (q : Pattern) (p : PortIx) : List (Int × Int) × List (Int × Int) :=
  let lead : Int := 14000 * fld q.cfg 15 8
  let tail : Int := 14000 * fld q.cfg 7 0
  let a := airNs q.adv
  let widen := fun (lo hi : Int) (l : List (Int × Int)) => l.map fun (w : Int × Int) => (w.1 + lo - lead, w.2 + hi + tail)
  let dl := if p.val = 2 then q.dl0 else q.dl1
  let ul := if p.val = 2 then q.ul0 else q.ul1
  if 2 ≤ p.val then
    (match dl with
      | some (x, y) => widen (airTenth x) (airTenth y) (q.air 0)
      | none => [],
     match ul with
      | some (x, y) => widen (-a - airTenth y) (-a - airTenth x) (q.air 1)
      | none => [])
  else (widen (-a) (-a) (q.air 1), widen 0 0 (q.air 0))

/-- Whether a time lies in one of a list of intervals that repeat with the period, from `early` before its begin to `late`
before its end. -/
def Pattern.within (q : Pattern) (l : List (Int × Int)) (t early late : Int) : Bool :=
  l.any fun w => decide ((t - (w.1 - early)) % q.span < w.2 - late - (w.1 - early))

/-- Whether of two lists of intervals that repeat every `span` some interval of the first ends less than `gap` before
one of the second begins (check 4 of R195). -/
def tooClose (span gap : Int) (l r : List (Int × Int)) : Bool :=
  l.any fun x => r.any fun y =>
    decide ((y.1 - x.1) % span < x.2 + gap - x.1) || decide ((x.1 - y.1) % span < y.2 - y.1)

/-- The gate ramp time of R112 in 0.1 µs, rounded up, for a rate code. -/
def rampTenth (h : Nat) : Nat :=
  match h with | 1 => 3 | 2 => 3 | 3 => 3 | 4 => 3 | _ => 2

/-- The ramp time of R112 in 0.1 ns. -/
def rampTime (h : Nat) : Nat :=
  match h with | 1 => 2523 | 2 => 2523 | 3 => 2441 | 4 => 2279 | _ => 1953

/-- The union of intervals that lie in rising order of their begin, newest first. -/
def union (l : List (Int × Int)) : List (Int × Int) :=
  l.foldl (fun acc y =>
    match acc with
    | (a, b) :: r => if y.1 ≤ b then (a, max b y.2) :: r else y :: acc
    | [] => [y]) []

/-- The largest time that a list of intervals, latest first, covers within any 10 ms of the repeated pattern, in the unit
of `air`: the 10 ms interval may be taken to begin where an interval begins. -/
def maxIn10 (span : Int) (l : List (Int × Int)) : Int :=
  let w : Int := 14 * 100000000
  let n : Nat := if 0 < span then (w / span).toNat + 2 else 0
  let all := union ((List.range n).flatMap fun (j : Nat) => l.reverse.map fun (x : Int × Int) => (x.1 + span * j, x.2 + span * j))
  l.foldl (fun m x =>
    max m (all.foldl (fun acc y => acc + max 0 (min y.2 (x.1 + w) - max y.1 x.1)) 0)) 0

/-- Whether a strand is a TDD strand: its entry has TDD set. -/
def isTdd (s : State) (k : DieIx) (i : StrandIx) : Bool :=
  match strandEntry s k i with | some (_, x) => x.tdd | none => false

/-- Least and greatest of a list. -/
def span2 (l : List Nat) : Option (Nat × Nat) :=
  match l with
  | [] => none
  | v :: r => some (r.foldl min v, r.foldl max v)

/-- A pattern with the latencies of the running TDD strands, and of one more that starts (R193, R196). -/
def latchPattern (s : State) (k : DieIx) (more : Option StrandIx) (q : Pattern) : Pattern :=
  let on := allStrands.filter fun i => (isRunning s k i || more == some i) && isTdd s k i
  let lat := fun i => latency s k i (pipeOf s k i) (delayNow s k i)
  let dl := fun p => span2 ((on.filter fun i => !isUplink i && outKind s k i == 1 && outPort s k i == p).map lat)
  let ul := fun p => span2 ((on.filter fun i => isUplink i && !inStream s k i && inPort s k i == p).map lat)
  { q with dl0 := dl 2, dl1 := dl 3, ul0 := ul 2, ul1 := ul 3 }

/-- DUTY of the entries of the strands that send to a port, and of one more that starts: the least, in 0.1 %. -/
def portDutyWith (s : State) (k : DieIx) (more : Option StrandIx) (p : PortIx) : Nat :=
  let l := allStrands.filterMap fun i =>
    if (isRunning s k i || more == some i) && outKind s k i == 1 && outPort s k i == p.val then (strandEntry s k i).map fun x => x.2.duty
    else none
  l.foldl min 1000

/-- DUTY of a port as R197 applies it. -/
def portDuty (s : State) (k : DieIx) (p : PortIx) : Nat := portDutyWith s k none p

/-- The checks of R195 in order: the first cause that fails, 0 when none does. -/
def patternFault (s : State) (k : DieIx) (more : Option StrandIx) (q : Pattern) : Nat :=
  if (patSlots q.cfg).isNone then 1
  else if fld q.cfg 30 29 = 3 ∨ 9 < fld q.cfg 28 25 ∨ 14 < fld q.cfg 23 20 + fld q.cfg 19 16 then 2
  else
    let on := allStrands.filter fun i => (isRunning s k i || more == some i) && isTdd s k i
    let h := (on.map fun i => rdlH s k i).foldl max 0
    if h ≠ 0 ∧ (fld q.cfg 15 8 * 1000 < rampTime h + 1300 ∨ fld q.cfg 7 0 * 1000 < rampTime h + 1300) then 3
    else if allPorts.any fun p =>
        let w := q.windows p
        tooClose q.span (14 * 25000) w.2 w.1 || tooClose q.span (14 * 20000) w.1 w.2 then 4
    else if allPorts.any fun p => decide (14 * portDutyWith s k more p * 100000 < maxIn10 q.span (q.windows p).1) then 5
    else 0

/-- Check 9 of R99: the first failing cause of R207, 0 when it passes. A strand with no output passes. -/
def regFaultOf (s : State) (k : DieIx) (i : StrandIx) : Nat :=
  if !hasOutput s k i then 0
  else
    let b := regFaultBand s k i (s.rid k i).ftw
    if b ≠ 0 then b
    else match strandEntry s k i with
      | none => 2
      | some (e, x) =>
        if x.maxGain < sfld (s.cfg2 .GAIN_CFG k i) 27 16 then 4
        else if x.gateReq ∧ bit (s.cfg2 .UG_CFG k i) 31 = false then 5
        else if x.presReq ∧ listHasId s k e = false then 6
        else if x.tdd then
          (match (s.dies[k]).tdd.active with
            | none => 7
            | some q => if patternFault s k (some i) (latchPattern s k (some i) q) ≠ 0 then 7 else 0)
        else 0

end Sys2Proof.Machine
end

