-- ==== Sys2Proof/Machine/Trig.lean ====
section
/-!
DEFINITION. Machine/Trig.lean: sine, cosine, square root and decibels in fixed point, with an error far below every step that
the spec rounds to.
-/
namespace Sys2Proof.Machine
open Sys2Proof

/-- π/2 in units of 2^-96. -/
def halfPi : Int := 124451306656115542615260972311

/-- One part of the sine and cosine series in units of 2^-96: from the term for n, the sum of the remaining terms of
alternating sign, taking every second term. -/
def series (x2 : Int) : Nat → Nat → Int → Int
  | 0, _, _ => 0
  | f + 1, n, t => t - series x2 f (n + 2) (t * x2 / 2 ^ 96 / ((n + 1) * (n + 2) : Nat))

/-- (cos, sin) of r quarter-turns / 2^30 for r below 2^30, in units of 2^-96. -/
def quadrant (r : Nat) : Int × Int :=
  let x : Int := r * halfPi / 2 ^ 30
  let x2 := x * x / 2 ^ 96
  (series x2 20 0 (2 ^ 96), series x2 20 1 x)

/-- (cos, sin) of an angle a / 2^32 of a turn, in units of 2^-96. -/
def cosSin (a : Nat) : Int × Int :=
  let c := quadrant (a % 2 ^ 30)
  match a / 2 ^ 30 % 4 with
  | 0 => c
  | 1 => (-c.2, c.1)
  | 2 => (-c.1, -c.2)
  | _ => (c.2, -c.1)

/-- The integer square root, rounded down, by bits from the top. -/
def isqrtFrom (v : Nat) : Nat → Nat → Nat
  | 0, r => r
  | b + 1, r => if (r + 2 ^ b) * (r + 2 ^ b) ≤ v then isqrtFrom v b (r + 2 ^ b) else isqrtFrom v b r

/-- The integer square root of a value below 4^b. -/
def isqrt (b v : Nat) : Nat := isqrtFrom v b 0

/-- ln 10 in units of 2^-96. -/
def ln10 : Int := 182429585950654714090129938606

/-- The exponential series of x in units of 2^-96, from the term t with number n. -/
def expSum (x : Int) : Nat → Nat → Int → Int
  | 0, _, _ => 0
  | f + 1, n, t => t + expSum x f (n + 1) (t * x / 2 ^ 96 / (n + 1 : Nat))

/-- The amplitude factor of a gain of n / d dB, in units of 2^-96: whole tens of 20 dB exactly, the rest by the series. -/
def dbAmp (n : Int) (d : Nat) : Nat :=
  let q := n / (20 * d : Nat)
  let v := (expSum (n % (20 * d : Nat) * ln10 / (20 * d : Nat)) 60 0 (2 ^ 96)).toNat
  if 0 ≤ q then v * 10 ^ q.toNat else v / 10 ^ (-q).toNat

end Sys2Proof.Machine
end

