-- ==== Sys2Proof/Machine/CancelOps.lean ====
section
/-!
DEFINITION. Machine/CancelOps.lean: loop groups, the canceller, sounding and estimates, tap placement and the
gain-margin rule (04_feedback_cancellation.md R129 to R159).
-/
namespace Sys2Proof.Machine
open Sys2Proof

/-! ## Units -/

/-- A strand's canceller state, and changing it. -/
def State.canc (s : State) (k : DieIx) (i : StrandIx) : Canc := (s.dies[k]).canc[i]
def State.modCanc (s : State) (k : DieIx) (i : StrandIx) (f : Canc → Canc) : State :=
  s.modDie k fun d => { d with canc := vmod d.canc i f }
/-- A strand's guard, and changing it. -/
def State.guard (s : State) (k : DieIx) (i : StrandIx) : Guard := (s.dies[k]).guards[i]
def State.modGuard (s : State) (k : DieIx) (i : StrandIx) (f : Guard → Guard) : State :=
  s.modDie k fun d => { d with guards := vmod d.guards i f }
/-- A strand's protection state, and changing it. -/
def State.prot (s : State) (k : DieIx) (i : StrandIx) : Prot := (s.dies[k]).prot[i]
def State.modProt (s : State) (k : DieIx) (i : StrandIx) (f : Prot → Prot) : State :=
  s.modDie k fun d => { d with prot := vmod d.prot i f }

/-! ## Complex samples and levels -/

/-- Σ |x|² of samples. -/
def energy (l : List Cx) : Nat := l.foldl (fun a z => a + z.norm) 0

/-- The largest |x|². -/
def peakOf (l : List Cx) : Nat := l.foldl (fun a z => max a z.norm) 0

/-- A mean power in 0.01 dBFS by R113: -200.00 for zero power. `one` is the square of a code in the samples' unit. -/
def dbfsIn (one sum n : Nat) : Int := if sum = 0 ∨ n = 0 then -20000 else db100 sum (n * 2 ^ 29 * one)

/-- The same for samples in codes. -/
def dbfs (sum n : Nat) : Int := dbfsIn 1 sum n

/-! ## Loop groups (R129 to R132) -/

/-- Whether a strand can belong to a group: it runs, has an output, and has an input or an output on a port. -/
def inLoops (s : State) (k : DieIx) (i : StrandIx) : Bool :=
  isRunning s k i && hasOutput s k i && (!inStream s k i || outKind s k i == 1)

/-- Linked strands: of one direction, with bands that overlap. -/
def linked (s : State) (k : DieIx) (i j : StrandIx) : Bool :=
  inLoops s k i && inLoops s k j && isUplink i == isUplink j && (strandBand s k i).overlaps (strandBand s k j)

/-- A set of strands with every strand linked to one of them. -/
def growGroup (s : State) (k : DieIx) (l : List StrandIx) : List StrandIx :=
  allStrands.filter fun j => l.contains j || l.any fun i => linked s k i j

/-- The group that a strand has when the groups are formed, in rising order; empty when it belongs to none. -/
def formGroup (s : State) (k : DieIx) (i : StrandIx) : List StrandIx :=
  if inLoops s k i then (List.range 16).foldl (fun l _ => growGroup s k l) [i] else []

/-- The group of a strand: as last formed, at a start or a stop (R129). A retune of a running strand forms none. -/
def groupOf (s : State) (k : DieIx) (i : StrandIx) : List StrandIx := (s.canc k i).group

/-- Senders and receivers of a group (R130). -/
def isSender (s : State) (k : DieIx) (i : StrandIx) : Bool := outKind s k i == 1
def isReceiver (s : State) (k : DieIx) (i : StrandIx) : Bool := !inStream s k i
def sendersOf (s : State) (k : DieIx) (g : List StrandIx) : List StrandIx := g.filter (isSender s k)
def receiversOf (s : State) (k : DieIx) (g : List StrandIx) : List StrandIx := g.filter (isReceiver s k)

/-- Whether a group closes a loop: it has a sender and a receiver (R131). -/
def closesLoop (s : State) (k : DieIx) (g : List StrandIx) : Bool :=
  !(sendersOf s k g).isEmpty && !(receiversOf s k g).isEmpty

/-- Whether a strand sends no probe: it is no sender of a group, or a lower-numbered sender of its group has its port
(R132). -/
def isSilent (s : State) (k : DieIx) (i : StrandIx) : Bool :=
  !(sendersOf s k (groupOf s k i)).contains i ||
    (sendersOf s k (groupOf s k i)).any fun j => decide (j.val < i.val) && outPort s k j == outPort s k i

/-- The polynomial number q of a die (R136). -/
def polyOf (s : State) (k : DieIx) : Nat := 8 * s.wale.addr + dieNum k

/-- The largest g_app of a list of strands, in 0.05 dB: a strand has one from its first valid block (R110, R157). -/
def maxGapp (s : State) (k : DieIx) (l : List StrandIx) : Option Int :=
  (l.filter fun i => !(s.strand k i).first).foldl
    (fun m i => some (match m with | none => (s.strand k i).gApp | some x => max x (s.strand k i).gApp)) none

/-! ## The probe (R136 to R139) -/

/-- The mask of a shift register that runs a primitive polynomial of degree 15, given its 14 middle coefficients, and of
the reciprocal polynomial (R136). -/
def chipMask (mid : Nat) (recip : Bool) : Nat :=
  1 + (List.range 14).foldl (fun m i => m + 2 ^ (i + 1) * ((if recip then mid / 2 ^ (13 - i) else mid / 2 ^ i) % 2)) 0

/-- One step of the register: its lowest bit leaves, the parity of the masked bits enters on top. -/
def chipStep (mask r : Nat) : Nat :=
  r / 2 + 2 ^ 14 * (((List.range 15).foldl (fun p i => p + r / 2 ^ i % 2 * (mask / 2 ^ i % 2)) 0) % 2)

/-- The register after n steps. -/
def chipReg (mask : Nat) : Nat → Nat → Nat
  | 0, r => r
  | n + 1, r => chipReg mask n (chipStep mask r)

/-- Chip n of the period of a sender: +1 for a clear bit, -1 for a set one (R136). -/
def chipOf (q : Nat) (i : StrandIx) (n : Nat) : Int :=
  let m := chipMask (Config.polynomial q) (isUplink i)
  if chipReg m ((n + 4095 * (i.val % 8)) % 32767) (1 + Config.chipStart q % 32767) % 2 = 0 then 1 else -1

/-- The next 64 probe parts of a sender, in 2^-32 codes: (1 + j)/√2 at P_probe dBFS has parts of 2^14 × 10^(P/20). -/
def probeBlock (s : State) (k : DieIx) (i : StrandIx) : List Int :=
  let c := s.canc k i
  let a : Int := roundDiv (dbAmp c.probe 100 * 2 ^ 46) (2 ^ 96)
  (List.range 64).map fun n => a * chipOf c.poly i ((c.chip + n) % 32767)

/-- The power of probe parts in 2^-64 code². -/
def probeEnergy (l : List Int) : Nat := l.foldl (fun a p => a + (2 * p * p).toNat) 0

/-! ## The canceller (R133 to R135, R151 to R153) -/

/-- Active taps of a table, as (slot, tap). -/
def activeTaps (t : Vector TapSlot 128) : List (Nat × TapSlot) :=
  ((List.finRange 128).map fun j => (j.val, t[j])).filter fun x => x.2.en

/-- u(r, m) with m counted from the start of the block: history before it, reference block in it, 0 where nothing is
held. -/
def refAt (hist blk : List Cx) (m : Int) : Cx :=
  if 0 ≤ m then (blk[m.toNat]?).getD ⟨0, 0⟩
  else if (hist.length : Int) + m < 0 then ⟨0, 0⟩ else (hist[(hist.length + m).toNat]?).getD ⟨0, 0⟩

/-- u(r(i), n - j(i)) of a tap. -/
def tapRef (c : Canc) (r0 r1 : List Cx) (t : TapSlot) (n : Nat) : Cx :=
  if t.ref then refAt c.hist1 r1 (n - t.lag) else refAt c.hist0 r0 (n - t.lag)

/-- The estimate of one block in 2^-21 codes (R151). -/
def estimateBlock (c : Canc) (r0 r1 : List Cx) : List Cx :=
  let taps := activeTaps c.slots
  (List.range 64).map fun n => taps.foldl (fun (a : Cx) t => a.add (t.2.w.mul (tapRef c r0 r1 t.2 n))) ⟨0, 0⟩

/-- One part of an adapted coefficient (R151), rounded to 21 fraction bits by R610 and held within ±4. -/
def adaptPart (w g : Int) (leak mu p : Nat) : Int :=
  let d := 2 ^ mu * (p + 512)
  let l := if leak = 0 then 0 else w * d
  sat 24 (roundDiv (w * 2 ^ leak * d - l + g * 2 ^ leak) (2 ^ leak * d))

/-- One step of the adaptation (R151): e in 2^-21 codes. -/
def adaptTaps (c : Canc) (r0 r1 e : List Cx) (leak mu p : Nat) : Vector TapSlot 128 :=
  c.slots.map fun t =>
    if t.en then
      let g := (List.range 64).foldl (fun (a : Cx) n => a.add (((e[n]?).getD ⟨0, 0⟩).mul (tapRef c r0 r1 t n).conj)) ⟨0, 0⟩
      { t with w := ⟨adaptPart t.w.re g.re leak mu p, adaptPart t.w.im g.im leak mu p⟩ }
    else t

/-- p of R151: the power of the reference samples over the taps. -/
def refPower (c : Canc) (r0 r1 : List Cx) : Nat :=
  (activeTaps c.slots).foldl (fun a t => (List.range 64).foldl (fun b n => b + (tapRef c r0 r1 t.2 n).norm) a) 0

/-- Whether p is a mean reference power of at least -70 dBFS per tap (R152). -/
def refStrong (c : Canc) (p : Nat) : Bool := decide (2 ^ 29 * 64 * (activeTaps c.slots).length ≤ p * 10 ^ 7)

/-- The last 2047 samples of a history and a block. -/
def pushHist (hist blk : List Cx) : List Cx := (hist ++ blk).drop (hist.length + blk.length - 2047)

/-- The canceller on a block at point IN (R134, R151, R152): the estimate, the residual, the adaptation. -/
def cancelBlock (k : DieIx) (i : StrandIx) (valid refsValid : Bool) (x r0 r1 : List Cx) (ovr : Nat) (s : State) : State :=
  let c := s.canc k i
  let y := estimateBlock c r0 r1
  let e := (List.range 64).map fun n => (((x[n]?).getD ⟨0, 0⟩).scale (2 ^ 21)).sub ((y[n]?).getD ⟨0, 0⟩)
  let ctl := s.cfg2 .CNC_CTRL k i
  let p := refPower c r0 r1
  let adapt := bit ctl 0 && !bit ctl 1 && valid && refsValid && refStrong c p && ovr == 0 &&
    (s.guard k i).phase != .muted
  let ad := s.cfg2 .CNC_ADAPT k i
  s.modCanc k i fun c =>
    { c with slots := if adapt then adaptTaps c r0 r1 e (fld ad 12 8) (fld ad 4 0) p else c.slots,
             hist0 := pushHist c.hist0 r0, hist1 := pushHist c.hist1 r1, e := e, yhat := y, blocks := c.blocks + 1,
             es := (e.reverse ++ c.es).take 32767 }

/-! ## The correlators (R139, R141) -/

/-- The correlation of the residual with a sender's probe at a lag, both newest first, in 2^-30: the sum of e(n) times the
conjugate of the probe at n - j over the power of the probe. The spec gives no scale; this one makes an echo of
coefficient h read h (DEDUCED, notes/assumptions/32.md). -/
def correlate (es : List Cx) (sent : List Int) (j : Nat) : Cx :=
  let l := es.zip (sent.drop j)
  let d := l.foldl (fun a x => a + (2 * x.2 * x.2).toNat) 0
  let z := l.foldl (fun (a : Cx) x => a.add (x.1.mul ⟨x.2, -x.2⟩)) ⟨0, 0⟩
  if d = 0 then ⟨0, 0⟩ else ⟨roundDiv (z.re * 2 ^ 41) d, roundDiv (z.im * 2 ^ 41) d⟩

/-- The sender of a group that injects the probe of a port (R132). -/
def probeSender (s : State) (k : DieIx) (g : List StrandIx) (p : Nat) : Option StrandIx :=
  (sendersOf s k g).find? fun j => outPort s k j == p && !isSilent s k j

/-- What the correlators of a receiver give at a lag for the sender of a reference port (R130, R141). -/
def corrAt (s : State) (k : DieIx) (i : StrandIx) (p j : Nat) : Cx :=
  match probeSender s k (groupOf s k i) p with
  | none => ⟨0, 0⟩
  | some t =>
    if rdlH s k t = rdlH s k i then correlate (s.canc k i).es (s.canc k t).sent j
    else
      let v := Config.crossRate s.freeCtr (4096 * p + j)
      ⟨v.1, v.2⟩

/-- The reference port r of a strand (R130). -/
def refPort (i : StrandIx) (r : Nat) : Nat := if isUplink i then r else 2 + r

/-- The profile of one reference over the period, lags 0 to 2 047. -/
def corrProfile (s : State) (k : DieIx) (i : StrandIx) (r : Nat) : List Cx :=
  (List.range 2048).map (corrAt s k i (refPort i r))

/-- The mean power per lag over lags 2 048 to 4 094 of the probes that feed a receiver, in 2^-60 (R141). -/
def corrFloor (s : State) (k : DieIx) (i : StrandIx) : Nat :=
  let ps := [0, 1].filter fun r => (probeSender s k (groupOf s k i) (refPort i r)).isSome
  let sum := ps.foldl (fun a r =>
    (List.range 2047).foldl (fun b n => b + (corrAt s k i (refPort i r) (2048 + n)).norm) a) 0
  if ps.isEmpty then 0 else (roundDiv sum (2047 * ps.length)).toNat

/-- The chips of a sender's last 32 767 that left the gate at 0 dB in valid blocks. -/
def chipsSent (c : Canc) : Nat := (c.sent.take 32767).countP (· != 0)

/-- The chips of the period that left the gate at 0 dB in valid blocks: the least over the probes that feed a receiver,
so that no profile is averaged without its probe (DEDUCED, notes/assumptions/126.md). -/
def chipsCounted (s : State) (k : DieIx) (i : StrandIx) : Nat :=
  let g := groupOf s k i
  let l := ((sendersOf s k g).filter fun j => !isSilent s k j).map fun j => chipsSent (s.canc k j)
  match l with | [] => 0 | v :: r => r.foldl min v

/-- P_ref in 0.01 dBFS (R138): the power at OUT over the period less the probe's own part. -/
def probeRef (c : Canc) : Int := dbfsIn (2 ^ 64) (c.outSum * 2 ^ 64 - c.outPr) c.outN

/-! ## Estimates (R141, R145) -/

/-- One averaging step of a list of values in 2^-exp (R141). -/
def avgList (a : Nat) (exp : Nat) (old new : List Cx) : List Cx :=
  (List.range 2048).map fun j =>
    (((old[j]?).getD ⟨0, 0⟩).scale (2 ^ a - 1)).add (((new[j]?).getD ⟨0, 0⟩).scale (2 ^ exp))

/-- Averaging a period's profiles, whose values are in 2^-30 (R141). -/
def Profile.step (p : Profile) (a : Nat) (c0 c1 : List Cx) : Profile :=
  ⟨p.exp + a, avgList a p.exp p.c0 c0, avgList a p.exp p.c1 c1⟩

/-- A value below the threshold 4 σ² counts as zero (R145). -/
def threshold (exp floor floorExp : Nat) (z : Cx) : Cx :=
  if z.norm * 2 ^ floorExp < 4 * floor * 2 ^ (2 * exp) then ⟨0, 0⟩ else z

/-- The residual profile (R145). -/
def Profile.cut (p : Profile) (floor floorExp : Nat) : Profile :=
  ⟨p.exp, p.c0.map (threshold p.exp floor floorExp), p.c1.map (threshold p.exp floor floorExp)⟩

/-- The coefficient of the active tap at (r, j), 0 where there is none. -/
def coefAt (t : List (Nat × TapSlot)) (r : Bool) (j : Nat) : Cx :=
  match t.find? fun x => x.2.ref == r && x.2.lag == j with
  | some x => x.2.w
  | none => ⟨0, 0⟩

/-- The physical profile: the residual plus the coefficients (R145). -/
def Profile.withTaps (p : Profile) (t : List (Nat × TapSlot)) : Profile :=
  let add := fun (r : Bool) (l : List Cx) => (List.range 2048).map fun j =>
    ((l[j]?).getD ⟨0, 0⟩).add ((coefAt t r j).scale (2 ^ (9 + p.exp)))
  ⟨p.exp, add false p.c0, add true p.c1⟩

/-- |H(f)| of one reference at a phase per lag, in 2^-(78 + exp). -/
def respAbs (l : List Cx) (phase : Nat) : Nat :=
  let h := (l.zipIdx.filter fun x => x.1 != ⟨0, 0⟩).foldl (fun (a : Cx) x =>
    let t := cosSin (phase * x.2 % 2 ^ 32)
    a.add (x.1.mul ⟨t.1 / 2 ^ 48, -(t.2 / 2 ^ 48)⟩)) ⟨0, 0⟩
  isqrt (200 + 64) h.norm

/-- The m-th of 256 frequencies spaced evenly across a band of BW in 0.1 MHz, over the rate of code h, as a phase per lag
in 2^-32 turns (R145): with the edges of the band, or with the middles of 256 equal parts. -/
def bandPoint (bw h m : Nat) : Nat :=
  let n : Int := 2 * m - 255
  let d : Nat := if Config.bandEdges then 510 else 512
  ((roundDiv (n * bw * 10 * 2 ^ h * 2 ^ 32) (d * 49152)) % 2 ^ 32).toNat

/-- The loop coupling of a profile in 0.01 dB: the largest sum over the 256 frequencies (R145); -200.00 dB for a
profile of zeros. -/
def coupling (p : Profile) (bw h : Nat) : Int :=
  let a := (List.range 256).foldl (fun m x =>
    max m (respAbs p.c0 (bandPoint bw h x) + respAbs p.c1 (bandPoint bw h x))) 0
  if a = 0 then -20000 else db100 (a * a) (2 ^ (2 * (78 + p.exp)))

/-- D_max of R140 in 0.01 dB. -/
def dMax (h : Nat) : Int := match h with | 1 => 3500 | 2 => 3800 | _ => 4000

/-- The estimate at the end of a counted period (R145). The dynamic range is a free value
where the floor or the profile is zero. -/
def makeEstimate (c : Canc) (bw h ctr : Nat) : Estimate :=
  let he := c.avg.cut c.floor c.floorExp
  let hp := he.withTaps (activeTaps c.slots)
  let kRes := coupling he bw h
  let kPhys := coupling hp bw h
  let pk := max (peakOf hp.c0) (peakOf hp.c1)
  let dr : Int := if pk = 0 ∨ c.floor = 0 then (Config.free ctr % 2 ^ 16 : Nat)
    else db100 (pk * 2 ^ c.floorExp) (c.floor * 2 ^ (2 * c.avg.exp))
  let kEff := max kRes (max (kPhys - dMax h) (kPhys - dr + 1000))
  { phys := hp, kPhys := kPhys, kEff := kEff, dr := dr, depth := kPhys - kEff }

/-- Whether a strand holds a valid estimate (R142, R144). -/
def estValid (c : Canc) : Bool := c.est.isSome && !c.lapsedNow

/-! ## Tap placement (R147 to R150) -/

/-- pw of a profile over both references, as ((r, j), pw), zeros left out. -/
def profilePower (p : Profile) : List ((Bool × Nat) × Nat) :=
  let one := fun (r : Bool) (l : List Cx) => (l.zipIdx.filter fun x => x.1.norm != 0).map fun x => ((r, x.2), x.1.norm)
  one false p.c0 ++ one true p.c1

/-- The entry with the largest pw, the first of equals. -/
def largest (l : List ((Bool × Nat) × Nat)) : Option ((Bool × Nat) × Nat) :=
  l.foldl (fun m x => match m with | none => some x | some y => if y.2 < x.2 then some x else m) none

/-- Adding the taps of one cluster (R147). -/
def addCluster (cl c0 : Nat) (r : Bool) (j : Nat) (placed : List (Bool × Nat)) : List (Bool × Nat) :=
  (List.range cl).foldl (fun (a : List (Bool × Nat)) (n : Nat) =>
    let t : Int := (j : Int) - c0 + n
    if 0 ≤ t ∧ t ≤ 2047 ∧ a.length < 128 ∧ a.contains (r, t.toNat) = false then a ++ [(r, t.toNat)] else a) placed

/-- The loop of R147, with a bound on its rounds: every round covers one more pair. -/
def placeLoop (cl c0 floorDb pmax : Nat) : Nat → List ((Bool × Nat) × Nat) → List (Bool × Nat) → List (Bool × Nat)
  | 0, _, placed => placed
  | f + 1, left, placed =>
    if 128 ≤ placed.length then placed
    else match largest left with
      | none => placed
      | some ((r, j), pw) =>
        if pw ^ 10 * 10 ^ floorDb < pmax ^ 10 then placed
        else placeLoop cl c0 floorDb pmax f
          (left.filter fun x => !(x.1.1 == r && decide (j ≤ x.1.2 + cl - 1 ∧ x.1.2 ≤ j + cl - 1)))
          (addCluster cl c0 r j placed)

/-- The taps that an estimate gives (R147). -/
def autoPlacement (p : Profile) (cfg : Word) : List (Bool × Nat) :=
  let l := profilePower p
  let pmax := match largest l with | some x => x.2 | none => 0
  let cl := 2 ^ fld cfg 1 0
  placeLoop cl ((cl - 1) / 2) (fld cfg 13 8) pmax 4096 l []

/-- The taps of the shadow table, each pair once (R135, R150). -/
def shadowPlacement (s : State) (k : DieIx) (i : StrandIx) : List (Bool × Nat) :=
  (List.range 128).foldl (fun a n =>
    let w := s.cfg3 .TAP k i n
    if bit w 16 && !a.contains (bit w 11, fld w 10 0) then a ++ [(bit w 11, fld w 10 0)] else a) []

/-- A placement in the order of rising r, then rising j (R148). -/
def sortTaps (l : List (Bool × Nat)) : List (Bool × Nat) :=
  l.mergeSort fun a b => if a.1 == b.1 then decide (a.2 ≤ b.2) else !a.1

/-- h_p(r, j) as a coefficient in 2^-21, held within ±4. -/
def seedOf (p : Profile) (r : Bool) (j : Nat) : Cx :=
  let z := ((if r then p.c1 else p.c0)[j]?).getD ⟨0, 0⟩
  ⟨sat 24 (roundDiv z.re (2 ^ (9 + p.exp))), sat 24 (roundDiv z.im (2 ^ (9 + p.exp)))⟩

/-- The table of a placement: kept coefficients where a tap stays, seeds elsewhere (R148, R150). -/
def placeTable (c : Canc) (l : List (Bool × Nat)) : Vector TapSlot 128 :=
  let old := activeTaps c.slots
  let new := sortTaps l
  Vector.ofFn fun n : Fin 128 =>
    match new[n.val]? with
    | none => TapSlot.zero
    | some (r, j) =>
      let w := match old.find? fun x => x.2.ref == r && x.2.lag == j with
        | some x => x.2.w
        | none => match c.est with
          | some e => if estValid c then seedOf e.phys r j else ⟨0, 0⟩
          | none => ⟨0, 0⟩
      ⟨true, r, j, w⟩

/-- The trigger of R149: 10 log10 U reaches 10 log10 S less PLACE_TRIG. -/
def placeTrigger (c : Canc) (p : Profile) (trig : Nat) : Bool :=
  let on := activeTaps c.slots
  let l := profilePower p
  let isOn := fun (x : (Bool × Nat) × Nat) => on.any fun t => t.2.ref == x.1.1 && t.2.lag == x.1.2
  let u : Nat := (l.filter fun x => !isOn x).foldl (fun a x => a + x.2) 0
  let t : Nat := (l.filter isOn).foldl (fun a x => a + x.2) 0
  decide (0 < u ∧ t ^ (10 : Nat) ≤ u ^ (10 : Nat) * (10 : Nat) ^ trig)

/-- Whether the guard of some receiver of a list is in one of the re-sounding phases. -/
def guardBusy (s : State) (k : DieIx) (i : StrandIx) : Bool :=
  (s.guard k i).phase == .muted || (s.guard k i).phase == .sounding

/-! ## The gain-margin rule (R155 to R159) -/

/-- mg of R155 in 0.05 dB: the largest of MARGIN and the floor over the group. -/
def groupMargin (s : State) (k : DieIx) (g : List StrandIx) : Nat :=
  g.foldl (fun m (i : StrandIx) => max m (max (s.canc k i).margin (marginFloor s k i))) 0

/-- c_new of R155 in 0.05 dB, rounded down, and whether it comes from K_COLD. Each strand has a K_COLD of its own, and
the spec does not say whose counts: the largest over the strands of the group (DESIGN CHOICE,
notes/assumptions/37.md). -/
def capNew (s : State) (k : DieIx) (g : List StrandIx) : Int × Bool :=
  let rs := receiversOf s k g
  let mg : Int := groupMargin s k g
  if rs.all fun i => estValid (s.canc k i) then
    let ks := rs.filterMap fun i => (s.canc k i).est.map (·.kEff)
    let kk := match ks with | [] => 0 | v :: l => l.foldl max v
    ((-kk - 5 * mg) / 5, false)
  else
    let kc : Int := g.foldl (fun (m : Int) (i : StrandIx) => max m ((s.canc k i).kCold : Nat)) 0
    (-kc - mg, true)

/-- The probe period of a group's slowest receiver in ns (R140, R156). -/
def slowPeriod (s : State) (k : DieIx) (g : List StrandIx) : Nat :=
  samplesNs ((receiversOf s k g).foldl (fun m i => max m (rdlH s k i)) 1) 32767

/-- The present cap of a group: that of its lowest member that has one. -/
def groupCap (s : State) (k : DieIx) (g : List StrandIx) : Option Int := g.findSome? fun i => (s.canc k i).cap

/-- The guard cap of a group. -/
def groupGcap (s : State) (k : DieIx) (g : List StrandIx) : Option Int := g.findSome? fun i => (s.canc k i).gcap

/-- The Skein events of the rule (R157, R172): broken and held again. The rule is a group's: its records name the
lowest-numbered strand of the group (DESIGN CHOICE, notes/assumptions/127.md). -/
def checkBroken (k : DieIx) (g : List StrandIx) (s : State) : State :=
  match g, groupCap s k g, maxGapp s k (sendersOf s k g) with
  | i :: _, some c, some m =>
    let now := decide (c < m)
    if now == (s.canc k i).broken then s
    else
      let s := s.each g fun j s => s.modCanc k j fun q => { q with broken := now }
      skeinEvent (locOf (dieNum k) (strandUnit i)) 1 (if now then 1 else 2)
        (pack [(2, enc 12 c), (2, enc 12 m)]) s
  | _, _, _ => s

/-- The number of a CK_STRAND cycle of 245.76 MHz (18_clocks_power.md R544). -/
def strandCycle (t : Nat) : Nat := t * 24576 / 100000

/-- The cap before the computations of the present CK_STRAND cycle, with the time of its last rise: period ends and lapses
of one cycle are served by one computation, from what stood before it (R156). -/
def capBase (s : State) (k : DieIx) (g : List StrandIx) : Option Int × Nat :=
  match g with
  | [] => (none, 0)
  | i :: _ =>
    let c := s.canc k i
    if c.capAt.map strandCycle = some (strandCycle s.time.ft) then (c.capWas, c.riseWas) else (groupCap s k g, c.rise)

/-- One computation of the cap of a group (R155, R156). -/
def computeCap (k : DieIx) (g : List StrandIx) (s : State) : State :=
  if closesLoop s k g then
    let (cn, cold) := capNew s k g
    let (old, first) := capBase s k g
    let mayRise := decide (first + slowPeriod s k g ≤ s.time.ft)
    let c := match old with
      | none => cn
      | some c => if cn < c then cn else if mayRise then min cn (c + 10) else c
    let c := match groupGcap s k g with | some x => min c x | none => c
    let rise := match old with
      | none => s.time.ft
      | some o => if o < c then s.time.ft else first
    checkBroken k g (s.each g fun j s => s.modCanc k j fun q =>
      { q with cap := some c, rise := rise, cold := cold, capAt := some s.time.ft, capWas := old, riseWas := first })
  else s

/-- Forming the groups again when a strand starts or stops (R129): a group keeps the least cap of its members and the
latest time of their rises, and its cap is computed at once (DESIGN CHOICE, notes/assumptions/37.md). -/
def reformGroups (k : DieIx) (s : State) : State :=
  let groups := (allStrands.map fun i => (i, formGroup s k i))
  let s := s.each groups fun x s => s.modCanc k x.1 fun q => { q with group := x.2 }
  let s := s.each groups fun x s =>
    if closesLoop s k x.2 then s
    else s.modCanc k x.1 fun q => { q with cap := none, gcap := none, pathCap := false, broken := false }
  s.each groups fun x s =>
    if closesLoop s k x.2 && x.2.head? == some x.1 then
      let caps := x.2.filterMap fun j => (s.canc k j).cap
      let least := match caps with | [] => none | v :: l => some (l.foldl min v)
      let gc := groupGcap s k x.2
      let rise := x.2.foldl (fun m j => if (s.canc k j).cap.isSome then max m (s.canc k j).rise else m) 0
      computeCap k x.2 (s.each x.2 fun j s => s.modCanc k j fun q =>
        { q with cap := least, gcap := gc, rise := rise, capAt := none })
    else s

/-- cap_margin of a strand in R107: the cap of its group for a sender. -/
def capMargin (s : State) (k : DieIx) (i : StrandIx) : Option Int :=
  if isSender s k i && closesLoop s k (groupOf s k i) then (s.canc k i).cap else none

/-- An estimate that was waited for is valid: the guard goes from SOUNDING to ARMED and releases the guard cap when no
other guard of the group holds it (R166). The cap of a path change is released in the same way
(08_radio_control.md R321). -/
def guardEstimated (k : DieIx) (i : StrandIx) (s : State) : State :=
  let path := (s.canc k i).pathCap && !(s.canc k i).restart
  let sounding := (s.guard k i).phase == .sounding
  if sounding || path then
    let s := if sounding then s.modGuard k i fun q => { q with phase := .armed } else s
    let s := if path then s.modCanc k i fun q => { q with pathCap := false } else s
    let g := groupOf s k i
    if g.any fun j => guardBusy s k j || (s.canc k j).pathCap then s
    else s.each g fun j s => s.modCanc k j fun q => { q with gcap := none }
  else s

/-- Restarting the averaging (R142): every average zero, and the first estimate then places taps (R147). -/
def restartAveraging (k : DieIx) (i : StrandIx) (s : State) : State :=
  s.modCanc k i fun c =>
    { c with avg := .zero, floor := 0, floorExp := 0, periods := 0, uncounted := 0, firstPlace := true }

/-- The values of SOUND_CFG and MARGIN_CFG for the period that begins (R173). -/
def takePeriodCfg (k : DieIx) (i : StrandIx) (s : State) : State :=
  let w := s.cfg2 .MARGIN_CFG k i
  s.modCanc k i fun c => { c with avgCfg := fld (s.cfg2 .SOUND_CFG k i) 10 8, margin := fld w 9 0, kCold := fld w 25 16 }

/-- Placing taps: by a new estimate, or on a request (R147, R149, R150). -/
def askPlacement (k : DieIx) (i : StrandIx) (s : State) : State :=
  let c := s.canc k i
  if bit (s.cfg2 .CNC_CTRL k i) 2 then
    s.modCanc k i fun q => { q with place := some .shadow, placeReq := false }
  else match c.est with
    | some e =>
      if estValid c then
        s.modCanc k i fun q =>
          { q with place := some (.taps (autoPlacement e.phys (s.cfg2 .PLACE_CFG k i))), placeReq := false }
      else s.modCanc k i fun q => { q with placeReq := true }
    | none => s.modCanc k i fun q => { q with placeReq := true }

/-- PROF_SEL.HOLD keeps the shown profile (R145, PROF_SEL). -/
def showProfile (k : DieIx) (i : StrandIx) (s : State) : State :=
  match (s.canc k i).est with
  | some e => if bit (s.cfg2 .PROF_SEL k i) 4 then s else s.modCanc k i fun c => { c with shown := e.phys }
  | none => s

/-- A new estimate (R142, R143, R147, R149, R166). -/
def newEstimate (k : DieIx) (i : StrandIx) (s : State) : State :=
  let c := s.canc k i
  let e := makeEstimate c (rdlBw s k i) (rdlH s k i) s.freeCtr
  let s := s.tick.modCanc k i fun q => { q with est := some e, lapsedNow := false, reqPending := q.reqPending && q.restart }
  let s := guardEstimated k i (showProfile k i s)
  if bit (s.cfg2 .CNC_CTRL k i) 2 then s
  else if c.firstPlace || c.placeReq || placeTrigger (s.canc k i) e.phys (fld (s.cfg2 .PLACE_CFG k i) 21 16) then
    askPlacement k i (s.modCanc k i fun q => { q with firstPlace := false })
  else s

/-- Whether a sender of a group has its gate at 0 dB, now or in the period (R144). -/
def senderOpen (s : State) (k : DieIx) (g : List StrandIx) : Bool :=
  (sendersOf s k g).any fun j => decide (gateSteps (rdlH s k j) ≤ (s.strand k j).gate) || decide (0 < chipsSent (s.canc k j))

/-- A receiver's part in the end of a probe period (R139 to R144, R154, R155). A period that is not counted while no
sender was open neither counts towards the eight of R144 nor ends their run (DESIGN CHOICE,
notes/assumptions/128.md). -/
def receiverPeriodEnd (k : DieIx) (i : StrandIx) (s : State) : State :=
  let g := groupOf s k i
  if !(receiversOf s k g).contains i || !closesLoop s k g then s
  else
    let counted := decide (32767 ≤ 4 * chipsCounted s k i) && !(s.canc k i).mixed
    let a := (s.canc k i).avgCfg
    let open0 := senderOpen s k g
    let c0 := corrProfile s k i 0
    let c1 := corrProfile s k i 1
    let fl := corrFloor s k i
    let s := s.tick.modCanc k i fun q =>
      if counted then
        { q with avg := q.avg.step a c0 c1, floor := q.floor * (2 ^ a - 1) + fl * 2 ^ q.floorExp,
                 floorExp := q.floorExp + a, periods := satInc 0xFFFF q.periods, uncounted := 0,
                 lastCounted := s.time.ft, mixed := false }
      else { q with uncounted := if open0 then q.uncounted + 1 else q.uncounted, mixed := false }
    let s := if counted && decide (2 ^ a ≤ (s.canc k i).periods) then newEstimate k i s else s
    let s := if counted then computeCap k g s else s
    let s := if counted && (s.guard k i).phase == .armed && !(s.canc k i).broken then
        s.modCanc k i fun q => { q with ckpt := some q.slots }
      else s
    if (s.canc k i).restart then
      restartAveraging k i (s.modCanc k i fun q => { q with restart := false })
    else s

/-- The end of a strand's probe period: its probe takes the level that P_ref of the period gives (R138), its part as a
receiver, and the start of the next period. -/
def probePeriodEnd (k : DieIx) (i : StrandIx) (s : State) : State :=
  let r := probeRef (s.canc k i) - 100 * fld (s.cfg2 .SOUND_CFG k i) 5 0
  let s := receiverPeriodEnd k i s
  takePeriodCfg k i (s.modCanc k i fun q =>
    { q with probe := clampI (-8000) (-2500) r, outSum := 0, outPr := 0, outN := 0, es := [] })

/-- A lapse (R144, R158, R172), with its case: 1 for eight uncounted periods, 2 for 60 s. -/
def estimateLapse (k : DieIx) (i : StrandIx) (s : State) : State :=
  let c := s.canc k i
  let case1 := decide (8 ≤ c.uncounted)
  let case2 := decide (c.lastCounted + 60 * 10 ^ 9 ≤ s.time.ft)
  if estValid c && (case1 || case2) then
    let s := s.modCanc k i fun q => { q with lapsedNow := true, lapsed := true }
    let s := skeinEvent (locOf (dieNum k) (strandUnit i)) 1 3 (if case1 then 1 else 2) s
    computeCap k (groupOf s k i) s
  else s

/-- A SOUND_REQ (R143): it merges with a pending request or a guard re-sounding. -/
def soundRequest (k : DieIx) (i : StrandIx) (s : State) : State :=
  if (s.canc k i).reqPending then s
  else if guardBusy s k i then s.modCanc k i fun q => { q with reqPending := true }
  else s.modCanc k i fun q => { q with restart := true, reqPending := true }

/-- A placement takes effect at its block boundary (R148, R169, R172). -/
def placementCommit (k : DieIx) (i : StrandIx) (s : State) : State :=
  match (s.canc k i).place with
  | none => s
  | some p =>
    if (s.guard k i).restore then s.modCanc k i fun q => { q with place := none }
    else
      let l := match p with | .taps l => l | .shadow => shadowPlacement s k i
      let s := s.modCanc k i fun q =>
        { q with slots := placeTable q l, place := none, placeCount := (q.placeCount + 1) % 2 ^ 16 }
      skeinEvent (locOf (dieNum k) (strandUnit i)) 1 4
        (pack [(1, (activeTaps (s.canc k i).slots).length), (2, (s.canc k i).placeCount)]) s

/-- A sender takes the polynomial of the present address at its probe-period boundary, and the period of each receiver
that it feeds is not counted (R136). -/
def polynomialChange (k : DieIx) (i : StrandIx) (s : State) : State :=
  if (s.canc k i).polyWait then
    let s := s.modCanc k i fun q => { q with poly := polyOf s k, polyWait := false }
    s.each (receiversOf s k (groupOf s k i)) fun j s => s.modCanc k j fun q => { q with mixed := true }
  else s

/-- The device's address has changed: running senders wait for their boundary, and receivers restart their averaging
at theirs (R136). -/
def addressChanged (s : State) : State :=
  s.each allDies fun k s => s.each allStrands fun i s =>
    if isRunning s k i then
      s.modCanc k i fun q =>
        { q with polyWait := q.polyWait || isSender s k i, restart := q.restart || isReceiver s k i,
                 reqPending := q.reqPending || isReceiver s k i }
    else s

end Sys2Proof.Machine
end

