-- ==== Sys2Proof/Machine/RiddleOps.lean ====
section
/-!
DEFINITION. Machine/RiddleOps.lean: the NCO, the delay, the coefficient banks and synchronising resets of a strand
(02_converters_riddle.md).
-/
namespace Sys2Proof.Machine
open Sys2Proof

/-! ## The NCO (R59 to R62) -/

/-- The staged frequency word. -/
def stagedFtw (s : State) (k : DieIx) (i : StrandIx) : Nat :=
  (s.cfg2 .NCO_FREQ_LO k i).toNat + 2 ^ 32 * fld (s.cfg2 .NCO_FREQ_HI k i) 15 0

/-- The word that the mixers run at: F_S - f_c for a second-zone band (R60). -/
def mixWord (ftw : Nat) : Nat := if zoneOf ftw then 2 ^ 48 - ftw else ftw

/-- The phase accumulator at a time, with F_S = 10.32192 steps a nanosecond (R60, R62). -/
def phaseAt (r : Riddle) (t : Nat) : Nat :=
  (r.phase + mixWord r.ftw * ((t - r.phaseFt) * 1032192 / 100000)) % 2 ^ 48

/-- The commit of an APPLY (R62): the accumulator runs on without a step, the phase offset steps. -/
def ncoCommit (k : DieIx) (i : StrandIx) (s : State) : State :=
  let f := stagedFtw s k i
  let p := (s.cfg2 .NCO_PHASE k i).toNat
  s.modRid k i fun r =>
    { r with phase := phaseAt r s.time.ft, phaseFt := s.time.ft, ftw := f, phOff := p, pending := false }

/-- The commit of an APPLY at a block boundary, or in snap mode at a dump boundary: the next F_front samples are then
discarded and a new integration starts (R62, R79, R80). -/
def ncoBoundary (k : DieIx) (i : StrandIx) (s : State) : State :=
  if (s.rid k i).pending then
    let s := ncoCommit k i s
    if rdlSnap s k i then
      s.modRid k i fun r =>
        { r with snap := ⟨frontFill (rdlH s k i), 0, ⟨0, 0⟩⟩, snapL := fld (s.cfg2 .SNAP_CFG k i) 10 0 }
    else s
  else s

/-- A write of APPLY (R55, R61, R62, R208): on a stopped strand it commits at once; on a running one the placement
and the record are checked, and the commit waits. -/
def ncoApply (k : DieIx) (i : StrandIx) (s : State) : Code × State :=
  if (s.rid k i).pending then (.ok, s)
  else if !isRunning s k i then (.ok, (ncoCommit k i s).modRid k i fun r => { r with cfgFault := 0 })
  else
    let f := placeFault s k i (stagedFtw s k i)
    if f ≠ 0 then (.badProgram, s.modRid k i fun r => { r with cfgFault := f })
    else
      let g := if hasOutput s k i then regFaultBand s k i (stagedFtw s k i) else 0
      if g ≠ 0 then (.lockedRegulatory, s.modProt k i fun p => { p with regFault := g })
      else (.ok, s.modRid k i fun r => { r with pending := true, cfgFault := 0 })

/-! ## The fractional delay (R75, R76) -/

/-- The delay steps to DELAY as last written, a slew ends (R68, R612). -/
def delayStep (k : DieIx) (i : StrandIx) (s : State) : State :=
  let d := delayTarget s k i
  s.modRid k i fun r => { r with delayAct := d, delayWait := false, slewing := none }

/-- A new DELAY has been written (R76): at once on a stopped strand, during a slew the new target, otherwise it waits
for its boundary. `was` is the present delay before the write, `goal` the DELAY before it: a slew that has reached it
is over. -/
def delayWritten (k : DieIx) (i : StrandIx) (was goal : Nat) (s : State) : State :=
  if !isRunning s k i then delayStep k i s
  else if (s.rid k i).slewing.isSome && was != goal then
    s.modRid k i fun r => { r with delayAct := was, slewing := some s.time.ft }
  else s.modRid k i fun r => { r with delayAct := was, slewing := none, delayWait := true }

/-- A waiting DELAY reaches its block boundary (R76). -/
def delayBoundary (k : DieIx) (i : StrandIx) (s : State) : State :=
  if (s.rid k i).delayWait then
    if bit (s.cfg2 .DELAY_CFG k i) 16 then
      s.modRid k i fun r => { r with delayWait := false, slewing := some s.time.ft }
    else delayStep k i s
  else s

/-! ## Banks (R81 to R93) -/

/-- The offset of tap n of a bank in the bank memory (R93). -/
def bankOff (k : DieIx) (i : StrandIx) (b : Fin 2) (n : Nat) : Nat :=
  k.val * 2 ^ 24 + i.val * 0x800 + b.val * 0x400 + n * 4

/-- Whether a bank is in use (R87). -/
def bankInUse (r : Riddle) (b : Fin 2) : Bool :=
  r.active == b || r.fade.isSome || (match r.pend with | some (t, _) => t == b | none => false)

/-- A swap request (R81, R82, R85, R86). -/
def swapRequest (k : DieIx) (i : StrandIx) (t : Fin 2) (kk : Nat) (s : State) : State :=
  if !isRunning s k i then s.modRid k i fun r => { r with active := t }
  else s.modRid k i fun r => { r with replaced := r.replaced || r.pend.isSome, pend := some (t, kk) }

/-- A pending request starts at a block boundary once no fade is in progress (R81, R83, R85). -/
def fadeStart (k : DieIx) (i : StrandIx) (s : State) : State :=
  let r := s.rid k i
  match r.pend, r.fade with
  | some (t, kk), none =>
    if t = r.active then s.modRid k i fun r => { r with pend := none }
    else if kk = 0 then s.modRid k i fun r => { r with pend := none, active := t }
    else s.modRid k i fun r => { r with pend := none, fade := some ⟨t, kk, s.time.ft⟩ }
  | _, _ => s

/-- The end of a fade: the target becomes active (R83). -/
def fadeEnd (k : DieIx) (i : StrandIx) (s : State) : State :=
  match (s.rid k i).fade with
  | some f => s.modRid k i fun r => { r with active := f.target, fade := none }
  | none => s

/-- FADE_POS: samples of the fade already output. -/
def fadePos (s : State) (k : DieIx) (i : StrandIx) : Nat :=
  match (s.rid k i).fade with
  | some f => min (2 ^ f.k) (nsSamples (rdlH s k i) (s.time.ft - f.start))
  | none => 0

/-- A bank's 256 words, as the Tally record of a swap takes them (R92). -/
def bankBytes (s : State) (k : DieIx) (i : StrandIx) (b : Fin 2) : List Byte :=
  readBytes .bank (bankOff k i b 0) 1024 s

/-- A double-bit error in a 64-bit word of the bank memory, which holds until the word is written (R88). -/
def bankEcc (k : DieIx) (i : StrandIx) (b : Fin 2) (w : Nat) (s : State) : State :=
  raisePulse (srcOfDie k 4) 0 (s.modRid k i fun r =>
    { r with bad := (128 * b.val + w) :: r.bad.filter fun x => x != 128 * b.val + w })

/-- A write of a tap word, which makes the check bits of its 64-bit word good again (R88). -/
def bankMend (k : DieIx) (i : StrandIx) (b : Fin 2) (n : Nat) (s : State) : State :=
  s.modRid k i fun r => { r with bad := r.bad.filter fun x => x != 128 * b.val + n / 2 }

/-! ## Fill count and synchronising reset (R67 to R74, R612) -/

/-- FILL_LEFT. -/
def fillLeft (s : State) (k : DieIx) (i : StrandIx) : Nat :=
  match (s.rid k i).filling with
  | some t => fillCount s k i - nsSamples (rdlH s k i) (s.time.ft - t)
  | none => 0

/-- The fill count ends: VALID rises (R69). -/
def fillEnd (k : DieIx) (i : StrandIx) (s : State) : State :=
  if (s.rid k i).filling.isSome then s.modRid k i fun r => { r with filling := none, valid := true } else s

/-- s8 to s15 take the staged parameters where an APPLY is pending (06_withy_model.md R223). -/
def Prog.takeParams (p : Prog) : Prog :=
  if p.paramWait then
    { p with paramWait := false,
             sc := { p.sc with s := Vector.ofFn fun n : Fin 16 => if h : 8 ≤ n.val then p.staged[n.val - 8]'(by omega) else p.sc.s[n] } }
  else p

/-- What a synchronising reset does to the parts after the riddle chain: the invocations (R215, R222, R223), the
canceller and its averages (R68, R138, R142), the windows of the meters and the guard (R117, R160), the gating
(R177). -/
def syncRest (k : DieIx) (i : StrandIx) (s : State) : State :=
  let s := s.modProg k i fun p =>
    let p := p.takeParams
    { p with sc := { WScalar.zero with s := Vector.ofFn fun n : Fin 16 => if 8 ≤ n.val then p.sc.s[n] else 0 }, vec := .zero, inv := 0, hist := [], out := Vector.replicate 4 none, env := none,
             inQ := [], msg := Vector.replicate 4 [], msgNew := Vector.replicate 4 false }
  let s := s.modCanc k i fun c =>
    { c with hist0 := [], hist1 := [], e := [], yhat := [], blocks := 0, probe := -8000, est := none,
             lapsedNow := false, restart := false, reqPending := false, firstPlace := true, mixed := false,
             lastCounted := s.time.ft, poly := polyOf s k, polyWait := false, chip := 0, sent := [],
             outSum := 0, outPr := 0, outN := 0, es := [] }
  let s := takePeriodCfg k i s
  let s := restartAveraging k i s
  let s := s.modGuard k i fun g => { g with xs := [], ys := [], ovr := 0, liveNow := false, wins := [] }
  let s := s.modStrand k i fun t =>
    { t with meter := { t.meter with accIn := .zero, accOut := .zero, blocks := 0, valids := 0,
                                      win := fld (s.cfg2 .METER_CFG k i) 3 0 } }
  s.modProt k i fun p => { p with ug := .closed, since := s.time.ft, keepPeriods := 0 }

/-- A synchronising reset (R68), for a timed reset with the instant T of fabric time (R72); a stopped strand is left
alone (R67). Where T is still to come (R73) the accumulator holds 0 until T and counts from T (DESIGN CHOICE,
notes/assumptions/124.md). -/
def syncReset (at_ : Option Nat) (k : DieIx) (i : StrandIx) (s : State) : State :=
  if !isRunning s k i then s
  else
    let s := if (s.rid k i).pending then ncoCommit k i s else s
    let s := s.modRid k i fun r =>
      { r with phase := 0, phaseFt := (match at_ with | some t => ((t : Int) - s.time.off).toNat | none => s.time.ft) }
    let s := s.modRid k i fun r =>
      { r with lines := Vector.replicate 3 ⟨[], []⟩, txFir := [], snap := ⟨frontFill (rdlH s k i), 0, ⟨0, 0⟩⟩, n := 0,
               outs := [] }
    let s := fadeEnd k i s
    let s := s.modRid k i fun r => { r with discarded := r.discarded || r.pend.isSome, pend := none }
    let s := delayStep k i s
    let l := fld (s.cfg2 .SNAP_CFG k i) 10 0
    let s := s.modRid k i fun r =>
      { r with filling := some s.time.ft, valid := false, snapL := l, sync := s.time.ft }
    syncRest k i s

/-- What waits for a boundary when a strand enters STOPPED (R612): also the parameters that its program waits for
(06_withy_model.md R223); an invocation that runs is over. -/
def settleStopped (k : DieIx) (i : StrandIx) (s : State) : State :=
  let s := if (s.rid k i).pending then ncoCommit k i s else s
  let s := fadeEnd k i s
  let s := match (s.rid k i).pend with
    | some (t, _) => s.modRid k i fun r => { r with active := t, pend := none }
    | none => s
  let s := s.modProg k i fun p =>
    let p := p.takeParams
    { p with sc := { p.sc with running := false, loops := [] }, inQ := [] }
  delayStep k i s

/-- Strands of a mask of 16 bits. -/
def maskStrands (m : Nat) : List StrandIx := allStrands.filter fun i => m / 2 ^ i.val % 2 == 1

/-- RDL_SYNC without AT_TIME: the masked strands at once (R67). -/
def syncNow (k : DieIx) (m : Nat) (s : State) : State := s.each (maskStrands m) (syncReset none k)

/-- The first instant at or after a time whose low 32 bits are given (R72). -/
def instantOf (ft low : Nat) : Nat := ft + (low + 2 ^ 32 - ft % 2 ^ 32) % 2 ^ 32

/-- Arming a timed reset (R72, R73): nearer than 200 ns it takes place at once. -/
def syncArm (k : DieIx) (m : Nat) (s : State) : State :=
  let t := instantOf s.fab (s.cfg1 .RDL_SYNC_TIME k).toNat
  if t < s.fab + 200 then
    (s.each (maskStrands m) (syncReset (some t) k)).modDie k fun d => { d with missed := true }
  else s.modDie k fun d => { d with armed := some (m, t) }

/-- The armed instant arrives (R72). -/
def syncTimed (k : DieIx) (s : State) : State :=
  match (s.dies[k]).armed with
  | some (m, t) =>
    if t ≤ s.fab then
      (s.each (maskStrands m) (syncReset (some t) k)).modDie k fun d => { d with armed := none }
    else s
  | none => s

/-- Group swap (R89): every masked strand running and of one rate. -/
def groupSwap (k : DieIx) (m : Nat) (t : Fin 2) (kk : Nat) (s : State) : Code × State :=
  let l := maskStrands m
  if l.all fun i => isRunning s k i && l.all fun j => rdlH s k i == rdlH s k j then
    (.ok, s.each l fun i s => swapRequest k i t kk s)
  else (.badProgram, s)

/-! ## Converters (R57, R58) -/

/-- An overloaded cycle of an ADC: the flag, the count and the peak (R57). `peak` is the largest |code| of the
cycle. -/
def adcOverload (k : DieIx) (p : PortIx) (peak : Nat) (s : State) : State :=
  s.modConv k p fun c =>
    { c with adcOvr := true, ovrCount := satInc (2 ^ 32 - 1) c.ovrCount, peak := max c.peak (min 8192 peak) }

end Sys2Proof.Machine
end

