-- ==== Sys2Proof/Machine/ThermCore.lean ====
section
/-!
DEFINITION. Machine/ThermCore.lean: requests for temperature conversions, which ports, coils and writes make
and what the MRAM window lets a write do (17_thermal.md R528, R529, R537).
-/
namespace Sys2Proof.Machine
open Sys2Proof

/-- The number of a band die among the eight sensors; the hub die is 0. -/
def thmIx (k : DieIx) : Fin 8 := ⟨k.val + 1, by omega⟩

/-- Whether a die may be converted (R528). -/
def convertible (s : State) (d : Fin 8) : Bool :=
  s.pwr.st != .foot && allDies.all fun k =>
    thmIx k != d || (s.isFitted k && (s.dies[k]).powered && (s.dies[k]).released)

/-- A request for a conversion (R529): at most one for each die and requester. It ends at once for a die that may not
be converted. -/
def thmAsk (d : Fin 8) (w : ThmWho) (s : State) : State :=
  if convertible s d && !s.thm.queue.contains ⟨d, w⟩ then
    { s with thm := { s.thm with queue := s.thm.queue ++ [⟨d, w⟩] } }
  else s

/-- What an MRAM write that is requested now meets (R537): it is done, it is refused with THERMAL_HOLD, or it waits for a
reading of the hub die, which it asks for. -/
inductive MramVerdict where
  | allowed | refused | waits
  deriving DecidableEq, Repr

/-- Whether the newest hub reading is at most 2 s old. -/
def hubFresh (s : State) : Bool := !s.thm.stale && decide (s.time.ft ≤ s.thm.hubAt + 2000000000)

/-- The verdict. A newest reading older than 2 s leaves the window neither open nor closed. -/
def mramVerdict (s : State) : MramVerdict :=
  if !hubFresh s then .waits
  else match s.thm.win with | .opened => .allowed | .closed => .refused | .neither => .waits

end Sys2Proof.Machine
end

