-- ==== Sys2Proof/Machine/CoilOps.lean ====
section
/-!
DEFINITION. Machine/CoilOps.lean: the coil engine: senses, boundaries, jobs, the hardware stages, look-ahead, trace,
start and stop (09_coil_engine.md).
-/
namespace Sys2Proof.Machine
open Sys2Proof

/-! ## Settings -/

/-- A value held in signed Q16.16. -/
def q16 (x : Int) : Int := sat 32 x

/-- Whether a value does not fit. -/
def q16over (x : Int) : Bool := sat 32 x != x

/-- A signed register word of a coil. -/
def coilVal (s : State) (r : Reg) (c : CoilIx) : Int := sfld (s.cfg1 r c.val) 31 0

/-- A signed word of a bank. -/
def bankVal (s : State) (r : Reg) (c : CoilIx) (b : Nat) : Int := sfld (s.cfg2 r c.val b) 31 0

/-- COIL_CFG fields. -/
def coilCore (s : State) (c : CoilIx) : Fin 4 := Fin.ofNat 4 (fld (s.cfg1 .COIL_CFG c.val) 29 28)
def coilBanks (s : State) (c : CoilIx) : Nat := fld (s.cfg1 .COIL_CFG c.val) 27 24

/-- PERIOD of a coil: that of its first pair (R329). -/
def coilPeriod (s : State) (c : CoilIx) : Nat :=
  match boundPairs c s with | n :: _ => (s.pairs[n]).shPeriod | [] => 0

/-- The service port whose PA a supply coil supplies (06_withy_model.md R238). -/
def coilPort (c : CoilIx) : Option (DieIx × PortIx) :=
  if h : c.val ≤ 13 then some (⟨c.val / 2, by omega⟩, ⟨2 + c.val % 2, by omega⟩) else none

/-- Whether a coil is a supply coil of a port that is not fitted (R328). -/
def coilUnfitted (s : State) (c : CoilIx) : Bool :=
  match coilPort c with | some (k, _) => !s.isFitted k | none => false

/-! ## Trace and flags (R346, R356, R357) -/

/-- TRACE_CFG as it acts: that of the last release while the coil is not STOPPED (R365). -/
def traceCfg (s : State) (c : CoilIx) : Word :=
  if (s.coils[c]).st = .running then (s.coils[c]).traceCfg else s.cfg1 .TRACE_CFG c.val

/-- The events of TRIG_MASK, by bit: plausibility, flag, swap, hand-over, LA_LOST, FORCE. A trigger that the mask names
moves an ARMED trace to TRIGGERED. -/
def traceTrig (c : CoilIx) (n : Nat) (s : State) : State :=
  let w := traceCfg s c
  let t := (s.coils[c]).trace
  if t.st = .armed ∧ bit w (24 + n) then
    s.modCoil c fun q => { q with trace := { t with st := .triggered, trigIdx := t.written, left := 4096 - 16 * fld w 7 0 } }
  else s

/-- Setting a sticky flag; a new one is a trigger. -/
def coilFlag (c : CoilIx) (n : Nat) (s : State) : State :=
  let f := (s.coils[c]).flags
  if f / 2 ^ n % 2 = 1 then s else traceTrig c 1 (s.modCoil c fun q => { q with flags := f + 2 ^ n })

/-- Setting a flag on a condition. -/
def coilFlagIf (b : Bool) (c : CoilIx) (n : Nat) (s : State) : State := if b then coilFlag c n s else s

/-- ARM: the trace starts again. -/
def traceArm (c : CoilIx) (s : State) : State :=
  s.modCoil c fun q => { q with trace := { Trace.reset with st := .armed } }

/-- FORCE. -/
def traceForce (c : CoilIx) (s : State) : State := traceTrig c 5 s

/-- The value of a trace node (R356). -/
def traceNode (s : State) (c : CoilIx) (n : Nat) : Int :=
  let q := s.coils[c]
  let l := q.loop
  match n with
  | 0 => l.y
  | 1 => l.raw
  | 2 => l.cur
  | 3 => l.rq
  | 4 => l.sp
  | 5 => q16 (l.sp - l.y)
  | 6 => l.trim
  | 7 => let w := s.cfg2 .BANK_DUTY c.val l.bank
         if l.high then fld w 31 16 else fld w 15 0
  | 8 => l.d
  | 9 => l.out1
  | 10 => l.m
  | 11 => l.res
  | 12 => l.lam
  | 13 => l.bank + 8 * b2n l.high + 16 * b2n l.sec
  | 14 => q16 (l.y - l.yPrev)
  | _ => (q.ctx.s[8]).toInt

/-- A node as it is traced: shifted right and held to 16 bits; the bits of node 13 are entered as they are. -/
def traceHalf (s : State) (c : CoilIx) (n sh : Nat) : Nat := enc 16 (sat 16 (traceNode s c n / (2 : Int) ^ sh))

/-- The trace stage: one entry every 2^DEC periods while the trace runs (R356, R357). -/
def traceStage (c : CoilIx) (s : State) : State :=
  let t := (s.coils[c]).trace
  let w := traceCfg s c
  if t.st = .armed ∨ t.st = .triggered then
    if t.skip ≠ 0 then s.modCoil c fun q => { q with trace := { t with skip := t.skip - 1 } }
    else
      let e := mkWord [(31, 16, traceHalf s c (fld w 15 12) (fld w 19 16)), (15, 0, traceHalf s c (fld w 11 8) (fld w 19 16))]
      let s := writeWord .coilTrace (c.val * 2 ^ 16 + t.written % 4096 * 4) e s
      s.modCoil c fun q =>
        { q with trace := { t with written := t.written + 1, skip := 2 ^ fld w 23 20 - 1,
                                    left := if t.st = .triggered then t.left - 1 else t.left,
                                    st := if t.st = .triggered ∧ t.left ≤ 1 then .done else t.st } }
  else s

/-- Word i of the trace window (R357): the buffer of the coil that TRACE_VIEW names, oldest entry first, once its trace
is DONE. -/
def traceWord (s : State) (i : Nat) : Word :=
  let c : CoilIx := Fin.ofNat 24 (fld (s.cfg0 .TRACE_VIEW) 4 0)
  let t := (s.coils[c]).trace
  if t.st = .done then
    let at_ := if 4096 ≤ t.written then (t.written + i) % 4096 else i
    if t.written ≤ i then 0 else readWord .coilTrace (c.val * 2 ^ 16 + at_ * 4) s
  else 0

/-- TRIG_IDX, counted from the oldest entry. -/
def trigIndex (t : Trace) : Nat := t.trigIdx - (t.written - 4096)

/-! ## Senses (R331) and the notch (R339) -/

/-- The value of a sense channel for a code. -/
def snsValue (s : State) (n code : Nat) : Int :=
  q16 (((code : Int) - fld (s.cfg1 .SNS_OFS n) 13 0) * sfld (s.cfg1 .SNS_GAIN n) 31 0)

/-- Sampling a channel: its last code is kept. -/
def snsSample (n code : Nat) (s : State) : State :=
  if h : n < 48 then { s with sns := vset s.sns ⟨n, h⟩ code } else s

/-- The value of a channel that a coil names; 0 where none is named. -/
def snsNamed (s : State) (n code : Nat) : Int := if n < 48 then snsValue s n code else 0

/-- The biquad with coefficients in Q2.30, rounded once (R339). -/
def notchSum (s : State) (c : CoilIx) (x x1 x2 y1 y2 : Int) : Int :=
  roundDiv (coilVal s .NOTCH_B0 c * x + coilVal s .NOTCH_B1 c * x1 + coilVal s .NOTCH_B2 c * x2
    - coilVal s .NOTCH_A1 c * y1 - coilVal s .NOTCH_A2 c * y2) (2 ^ 30)

/-- The new feedback sample passes the notch, whose history is the raw sample before the first one. -/
def notchStage (c : CoilIx) (raw : Int) (s : State) : State :=
  let l := (s.coils[c]).loop
  let l := if l.primed then l else { l with x1 := raw, x2 := raw, y1 := raw, y2 := raw }
  let on := bit (s.cfg1 .COIL_CFG c.val) 1 && coilClass c != 2
  let v := if on then notchSum s c raw l.x1 l.x2 l.y1 l.y2 else raw
  let s := s.modCoil c fun q =>
    { q with loop := { l with raw := raw, yPrev := l.y, y := q16 v, x2 := l.x1, x1 := raw, y2 := l.y1, y1 := q16 v,
                              primed := true } }
  coilFlagIf (on && q16over v) c 3 s

/-! ## Look-ahead (R236 to R238, R349 to R352) -/

/-- The unit of the look-ahead comparisons is 1/3840 ns. -/
def laNs (t : Nat) : Int := 3840 * (t : Int)
/-- T_c of a PERIOD (R329). -/
def laTc (period : Nat) : Int := 15625 * (period : Int)
/-- T_b of a rate (02_converters_riddle.md R63). -/
def laTb (h : Nat) : Int := 1000000 * 2 ^ (h - 1)
/-- The lead of a strand (R237). -/
def laLead (s : State) (k : DieIx) (i : StrandIx) (g : Image) : Int :=
  (g.laOff + g.pipe + 3 : Nat) * laTb (rdlH s k i) + 384 * (gTx (rdlH s k i) (rdlTaps s k i) : Int)

/-- The whole range of a coil's set-point, which the limiter crosses in T_slew (R341). -/
def spRange (s : State) (c : CoilIx) : Int := coilVal s .SP_MAX c - coilVal s .SP_MIN c

/-- Whether a time is at least T_need = 3 T_c + T_slew (R350, R352); a coil without pairs or a limiter that does not
rise has no such time. -/
def coversNeed (s : State) (c : CoilIx) (t : Int) : Bool :=
  let tc := laTc (coilPeriod s c)
  decide (0 < tc ∧ 0 < coilVal s .SLEW_UP c ∧ spRange s c * tc ≤ (t - 3 * tc) * coilVal s .SLEW_UP c)

/-- The coil that an image names, from its LA_COIL (R234). -/
def imageCoil (g : Image) : Option CoilIx := if h : g.laCoil < 24 then some ⟨g.laCoil, h⟩ else none

/-- Whether the look-ahead of an image on a strand passes R352 on the coil that it names. -/
def laCheck (s : State) (k : DieIx) (i : StrandIx) (g : Image) (c : CoilIx) : Bool :=
  !(boundPairs c s).isEmpty && coversNeed s c (laLead s k i g)

/-- The strands of a supply coil (R351). -/
def coilStrands (s : State) (c : CoilIx) : List (DieIx × StrandIx) :=
  match coilPort c with
  | none => []
  | some (k, p) =>
    (allStrands.filter fun i => isRunning s k i && outKind s k i == 1 && outPort s k i == p.val).map fun i => (k, i)

/-- Whether a strand of a coil has look-ahead that holds: the image names the coil, and each of the last sixteen
invocations delivered (R351). -/
def laHolds (s : State) (c : CoilIx) (x : DieIx × StrandIx) : Bool :=
  (match boundImage s x.1 x.2 with | some g => imageCoil g == some c | none => false) &&
    decide (16 ≤ (s.prog x.1 x.2).laHist.length) && ((s.prog x.1 x.2).laHist.take 16).all id

/-- Whether the look-ahead of a coil is valid (R351). -/
def laIsValid (s : State) (c : CoilIx) : Bool :=
  !(coilStrands s c).isEmpty && (coilStrands s c).all (laHolds s c)

/-- 10^(2^j / 2000) in units of 2^-64, for the bits j of a level in 0.01 dB. -/
def ampBits : List Nat :=
  [18467993902706445245, 18489268210561536987, 18531890375673023371, 18617429695109339415,
   18789694651118867538, 19139021155796183517, 19857278300080642989, 21375669327403393734,
   24769641589254725920, 33259806825994437632, 59968021764830161471, 194948421250795437689,
   2060249049714006793517, 230101644490040030624887, 2870249979370664577992088188]

/-- The amplitude 10^((l + 20000) / 2000) of a level l in 0.01 dB, in units of 2^-64. -/
def ampOf (l : Int) : Nat :=
  (ampBits.zipIdx).foldl (fun a x => if (l + 20000).toNat / 2 ^ x.2 % 2 = 1 then a * x.1 / 2 ^ 64 else a) (2 ^ 64)

/-- 20 log10 of a sum of amplitudes, in 0.01 dB (R350). -/
def sumLevels (l : List Int) : Int :=
  let a := l.foldl (fun t x => t + ampOf x) 0
  if l.isEmpty then -20000 else db100 (a * a) (2 ^ 128) - 20000

/-- The largest level of a strand whose effective interval overlaps the period that begins now (R350). -/
def strandLevel (s : State) (c : CoilIx) (x : DieIx × StrandIx) : Int :=
  match boundImage s x.1 x.2 with
  | none => -20000
  | some g =>
    let lead := laLead s x.1 x.2 g
    let tn := laNs s.time.ft
    let tc := laTc (coilPeriod s c)
    let hit := (s.prog x.1 x.2).la.filter fun v =>
      coversNeed s c (laNs v.td + lead - tn - tc) == false && decide (tn < laNs v.td + lead + laTb (rdlH s x.1 x.2))
    hit.foldl (fun m v => max m v.level) (-20000)

/-- λ of a period in 0.01 dB. -/
def lambdaOf (s : State) (c : CoilIx) : Int := sumLevels ((coilStrands s c).map (strandLevel s c))

/-- 0.01 dB as Q16.16. -/
def dbQ16 (l : Int) : Int := roundDiv (l * 65536) 100

/-- The strand that a change of the look-ahead found at a boundary is laid to: the lowest one whose look-ahead does not hold
when it is lost, the one with the shortest run of deliveries when it returns; a free value where there is none. -/
def laCause (s : State) (c : CoilIx) (lost : Bool) : Nat :=
  let l := coilStrands s c
  let run := fun (x : DieIx × StrandIx) => ((s.prog x.1 x.2).laHist.takeWhile id).length
  let pick := if lost then l.find? fun x => !laHolds s c x
    else l.find? fun x => l.all fun y => decide (run x ≤ run y)
  match pick with
  | some x => x.2.val
  | none => Config.free s.freeCtr % 16

/-- The validity of the look-ahead of a running supply coil as it stands (R351), a strand being the cause of a change: at a loss
LA_LOST is set and recorded; a return is remembered for the next mode decision (R368). -/
def laUpdate (c : CoilIx) (cause : Nat) (s : State) : State :=
  let q := s.coils[c]
  if q.st ≠ .running ∨ coilClass c ≠ 0 then s
  else
    let now := laIsValid s c
    if q.laValid && !now then
      let s := s.modCoil c fun q => { q with laValid := false, laBack := none }
      skeinEvent (locOf 0 c.val) 5 3 cause (traceTrig c 4 (coilFlag c 7 s))
    else if now && !q.laValid then s.modCoil c fun q => { q with laValid := true, laBack := some cause }
    else s

/-- The supply coil of a strand's output port (R351). -/
def strandCoil (s : State) (k : DieIx) (i : StrandIx) : Option CoilIx :=
  if outKind s k i = 1 then allCoils.find? fun c => coilPort c == some (k, Fin.ofNat 4 (outPort s k i)) else none

/-- A strand starts, stops or ends an invocation: the look-ahead of its coil may change (R351, R366). -/
def laStrand (k : DieIx) (i : StrandIx) (s : State) : State :=
  match strandCoil s k i with
  | some c => laUpdate c i.val s
  | none => s

/-- The look-ahead of the period that begins (R350, R351): λ, and the validity. -/
def laStage (c : CoilIx) (s : State) : State :=
  if coilClass c ≠ 0 then s.modCoil c fun q => { q with loop := { q.loop with lam := dbQ16 (-20000) } }
  else
    let lam := dbQ16 (lambdaOf s c)
    let s := s.modCoil c fun q => { q with loop := { q.loop with lam := lam } }
    (laUpdate c (laCause s c (s.coils[c]).laValid) s).tick

/-- The peak level of a delivered value in 0.01 dBFS (R349): E on the squared 16-bit stream scale. -/
def peakLevel (s : State) (k : DieIx) (i : StrandIx) (g : Image) (e : Nat) (gTgt : Int) : Int :=
  let t := s.strand k i
  let ramp : Int := fld (s.cfg2 .GAIN_CFG k i) 9 0
  let gla := min (max gTgt t.gApp) (t.gApp + (g.laOff + g.pipe - 1 : Nat) * ramp)
  if e = 0 then -20000 else db100 e (2 ^ 29) + 5 * gla

/-! ## Boundary (R332, R362, R363) -/

/-- Requests for conversions at a start and at a hand-over into the primary mode (R362). -/
def coilConversions (c : CoilIx) (s : State) : State :=
  let s := thmAsk 0 (.coil c) s
  match coilPort c with
  | some (k, _) => thmAsk (thmIx k) (.coil c) s
  | none => s

/-- The largest bank whose edge a selector value reaches (R342). -/
def bankAt (s : State) (c : CoilIx) (v : Int) : Nat :=
  (List.range (coilBanks s c)).foldl (fun m j => if j = 0 ∨ bankVal s .BANK_EDGE c j ≤ v then j else m) 0

/-- The selector of R342. -/
def bankSel (s : State) (c : CoilIx) : Int :=
  let l := (s.coils[c]).loop
  if bit (s.cfg1 .COIL_CFG c.val) 3 then l.y else l.sp

/-- Whether R347 asks for the secondary mode. -/
def wantsSec (s : State) (c : CoilIx) : Bool :=
  let q := s.coils[c]
  (coilClass c == 0 || coilClass c == 2) &&
    (q.hostSec || q.loop.out2 != 0 || (coilClass c == 0 && !q.laValid))

/-- The settings that act from a release (R365). -/
def latchSettings (c : CoilIx) (s : State) : State :=
  s.modCoil c fun q =>
    { q with fixedSp := coilVal s .FIXED_SP c, hostSec := bit (s.cfg1 .COIL_CTRL c.val) 2, traceCfg := s.cfg1 .TRACE_CFG c.val }

/-- The first boundary after a START (R362): registers cleared by R274, the set-point, trim, law, bank and model
begin. -/
def coilBegin (c : CoilIx) (s : State) : State :=
  let q := s.coils[c]
  let y := q.loop.y
  let sp := min (max y (coilVal s .SP_MIN c)) (coilVal s .SP_MAX c)
  let z := if coilClass c = 2 then q16 (y - q.loop.yPrev) else y
  let s := latchSettings c s
  let la := coilClass c == 0 && laIsValid s c
  let s := s.modCoil c fun q =>
    { q with st := .running, job := .idle, laValid := la, laBack := none,
             ctx := { WScalar.zero with s := Vector.ofFn fun n : Fin 16 => if 8 ≤ n.val then q.ctx.s[n] else 0 },
             xs := Vector.replicate 16 0,
             loop := { q.loop with sp := sp, trim := 0, high := false, holdSp := sp, cnt := 0, m := z, periods := 0,
                                   out0 := 0, out1 := 0, out2 := 0, bank := 0, sec := false } }
  let b := bankAt s c (bankSel s c)
  let s := s.modCoil c fun q => { q with loop := { q.loop with bank := b } }
  let sec := wantsSec s c
  coilConversions c (s.modCoil c fun q => { q with loop := { q.loop with sec := sec } })

/-- The inputs of R336, latched at the release. -/
def coilInputs (s : State) (c : CoilIx) : Vector Int 11 :=
  let l := (s.coils[c]).loop
  #v[l.y, l.raw, l.cur, l.aux, l.lam, l.sp, coilVal s .SP_HOST c, l.trim, 65536 * (l.bank : Int), l.dAct,
     q16 (l.y - l.yPrev)]

/-- The core cycle of a time: the cores run at 491.52 MHz (R332). -/
def coreCycle (t : Nat) : Nat := t * 1536 / 3125

/-- A job joins the queue of its core: in order of release, and in rising coil number before jobs of the same cycle that
have not begun (R333). -/
def coreInsert (s : State) (c : CoilIx) (l : List Nat) : List Nat :=
  let after := fun (x : Nat) =>
    let q := s.coils[Fin.ofNat 24 x]
    coreCycle q.relAt == coreCycle s.time.ft && decide (c.val < x) && q.ctx.pc == 0
  let m := (l.reverse.takeWhile after).length
  l.take (l.length - m) ++ c.val :: l.drop (l.length - m)

/-- The release of a coil's job to its core (R332, R333, R338, R365). -/
def coilRelease (c : CoilIx) (s : State) : State :=
  let q := s.coils[c]
  if q.st = .running ∧ q.job = .idle then
    let ins := coilInputs s c
    let s := latchSettings c s
    let s := s.modCoil c fun q =>
      let q := q.takeParams
      { q with job := .released, snsIn := ins, relAt := s.time.ft,
               ctx := { q.ctx with pc := 0, loops := [], running := true, evented := false } }
    { s with coreQ := vmod s.coreQ (coilCore s c) (coreInsert s c) }
  else s

/-- Staging the parameters: COIL_PCTRL.APPLY (R338). -/
def coilParams (c : CoilIx) (s : State) : State :=
  let p : Vector Word 8 := Vector.ofFn fun n : Fin 8 => s.cfg2 .COIL_PARAM c.val n.val
  if (s.coils[c]).st = .stopped then
    s.modCoil c fun q => Coil.takeParams { q with paramWait := true, staged := p }
  else s.modCoil c fun q => { q with paramWait := true, staged := p }

/-! ## The hardware stages (R335, R340 to R357) -/

/-- The mode and its hand-over (R347, R348). A return to tracking that a strand's look-ahead caused is recorded (R368). -/
def modeStage (c : CoilIx) (s : State) : State :=
  let l := (s.coils[c]).loop
  let back := (s.coils[c]).laBack
  let sec := wantsSec s c
  let s := s.modCoil c fun q => { q with laBack := none }
  if sec = l.sec then s
  else
    let s := s.modCoil c fun q => { q with loop := { l with sec := sec, holdSp := if sec then l.sp else l.holdSp } }
    let s := match sec, back with
      | false, some i => skeinEvent (locOf 0 c.val) 5 4 i s
      | _, _ => s
    traceTrig c 3 (if sec then s else coilConversions c s)

/-- The request of R340 and the slew limiter of R341. -/
def slewStage (c : CoilIx) (s : State) : State :=
  let l := (s.coils[c]).loop
  let rq := if l.sec then (if coilClass c = 0 then (s.coils[c]).fixedSp else l.holdSp) else l.out0
  let q := min (max rq (coilVal s .SP_MIN c)) (coilVal s .SP_MAX c)
  let up := q16 (l.sp + coilVal s .SLEW_UP c)
  let dn := q16 (l.sp - coilVal s .SLEW_DN c)
  let sp := if l.sp < q then min q up else max q dn
  let s := s.modCoil c fun x => { x with loop := { l with rq := rq, sp := sp } }
  coilFlagIf (sp != q) c 4 s

/-- The bank selection of R342. -/
def bankNext (s : State) (c : CoilIx) : Nat :=
  let b := (s.coils[c]).loop.bank
  let v := bankSel s c
  let hyst := coilVal s .BANK_HYST c
  let up := bankAt s c v
  if b < up then up
  else if 0 < b ∧ v < bankVal s .BANK_EDGE c b - hyst then bankAt s c (v + hyst)
  else b

/-- A swap (R343); whether the period is one. -/
def bankStage (c : CoilIx) (s : State) : Bool × State :=
  let l := (s.coils[c]).loop
  let b := bankNext s c
  if b = l.bank then (false, s)
  else
    let t := clampI (bankVal s .TRIM_MIN c b) (bankVal s .TRIM_MAX c b) l.trim
    let s := s.modCoil c fun q => { q with loop := { l with bank := b, trim := t } }
    (true, traceTrig c 2 (coilFlagIf (t != l.trim) c 1 s))

/-- The law and the trim (R344). An error that saturates sets the flag of the stage as the trim does (R346; DEDUCED,
notes/assumptions/139.md). -/
def lawStage (c : CoilIx) (swap : Bool) (s : State) : State :=
  let l := (s.coils[c]).loop
  let e := q16 (l.sp - l.y)
  let band := bankVal s .BANK_BAND c l.bank
  let high := if band < e - l.trim then true else if e - l.trim < -band then false else l.high
  let lo := bankVal s .TRIM_MIN c l.bank
  let hi := bankVal s .TRIM_MAX c l.bank
  let step := l.trim - roundDiv e (2 ^ fld (s.cfg2 .BANK_KI c.val l.bank) 4 0)
  let on := bit (s.cfg1 .COIL_CFG c.val) 0 && !swap
  let t := if on then clampI lo hi step else l.trim
  let s := s.modCoil c fun q => { q with loop := { l with high := high, trim := t } }
  coilFlagIf (q16over (l.sp - l.y) || (on && t != step)) c 1 s

/-- The half-width of a pair for a duty in 2^-16 (R345). -/
def dutyWidth (d : Int) (period : Nat) : Nat := (roundDiv (d * (64 * period : Nat)) 65536).toNat

/-- The duty, its limits, and its write to the bound pairs (R345). -/
def dutyStage (c : CoilIx) (s : State) : State :=
  let l := (s.coils[c]).loop
  let lim := s.cfg1 .DUTY_LIM c.val
  let w := s.cfg2 .BANK_DUTY c.val l.bank
  let v : Int := (if l.high then fld w 31 16 else fld w 15 0 : Nat) + l.out1
  let d := min (max v (fld lim 15 0 : Nat)) (fld lim 31 16 : Nat)
  let s := s.modCoil c fun q => { q with loop := { l with d := d } }
  coilFlagIf (d != v) c 2 s

/-- Writing the duties with LOAD_ALL (R332, R345). -/
def dutyWrite (c : CoilIx) (s : State) : State :=
  let d := (s.coils[c]).loop.d
  let s := s.each (boundPairs c s) fun n s => s.modPair n fun p => { p with shW := dutyWidth d p.shPeriod }
  s.modCoil c fun q => { q with loadReq := true }

/-- The plausibility model (R354, R355). A residual or a model that saturates sets the flag of the stage (R346; DEDUCED,
notes/assumptions/139.md). -/
def plausStage (c : CoilIx) (s : State) : State :=
  if bit (s.cfg1 .COIL_CFG c.val) 2 then
    let l := (s.coils[c]).loop
    let cfg := s.cfg1 .PLAUS_CFG c.val
    let ma := fld cfg 4 0
    let z := if coilClass c = 2 then q16 (l.y - l.yPrev) else l.y
    let res := q16 (z - l.m)
    let s := coilFlagIf (q16over (z - l.m) || (coilClass c = 2 && q16over (l.y - l.yPrev))) c 5 s
    let cnt := if coilVal s .PLAUS_LIM c < (if res < 0 then -res else res) then l.cnt + 1 else 0
    if cnt = fld cfg 15 8 ∧ 2 ^ (ma + 2) ≤ l.periods then
      let s := s.modCoil c fun q => { q with loop := { l with res := res, m := z, cnt := 0 } }
      let s := raisePulse (srcOf (128 + c.val)) c.val (traceTrig c 0 (coilFlag c 5 s))
      skeinEvent (locOf 0 c.val) 5 1 (pack [(4, enc 32 res), (4, enc 32 z)]) s
    else
      let t := coilVal s .PLAUS_MG c * l.dAct + (coilVal s .PLAUS_MO c - l.m) * 65536
      let m := roundDiv (l.m * 2 ^ ma * 65536 + t) (2 ^ ma * 65536)
      coilFlagIf (q16over m) c 5 (s.modCoil c fun q => { q with loop := { l with res := res, m := q16 m, cnt := cnt } })
  else s

/-- Stages 4 to 7 of a period (R335). -/
def stagesToLaw (c : CoilIx) (s : State) : State :=
  let s := slewStage c (modeStage c s)
  let (swap, s) := bankStage c s
  lawStage c swap s

/-- A job still at work at 2 × PERIOD - 8 cycles (R334, R368): it ends with the duty kept, and the hardware stages run but
for stage 8, which would compute a new one (R335, R366). -/
def coilOverrun (c : CoilIx) (s : State) : State :=
  if (s.coils[c]).job = .released ∧ (s.coils[c]).st = .running then
    let s := { s with coreQ := s.coreQ.map fun (l : List Nat) => l.filter (fun x => x != c.val) }
    let s := s.modCoil c fun q => { q with job := .idle, ctx := { q.ctx with running := false } }
    let s := traceStage c (plausStage c (stagesToLaw c s))
    let s := raisePulse (srcOf 3) c.val (coilFlag c 6 s)
    skeinEvent (locOf 0 c.val) 5 2 (coilCore s c).val s
  else s

/-- A boundary of a coil (R332): a waiting STOP takes effect; the senses sample and the notch updates; the duties
computed in the last period act; a coil that was started begins, with y(-1) and d(-1) free. -/
def coilBoundary (c : CoilIx) (fb cur aux : Nat) (s : State) : State :=
  let s := coilOverrun c s
  let q := s.coils[c]
  if q.st = .stopped then s
  else if q.stopWait then coilHalt c s
  else
    let w := s.cfg1 .COIL_SENSE c.val
    let s := snsSample (fld w 21 16) aux (snsSample (fld w 13 8) cur (snsSample (fld w 5 0) fb s))
    let s := if q.st = .starting then
        let d : Nat := Config.free s.freeCtr / 2 ^ 32 % 65536
        (s.modCoil c fun q =>
          { q with loop := { q.loop with primed := false, y := signed 32 (Config.free s.freeCtr), d := d } }).tick
      else s
    let s := notchStage c (snsNamed s (fld w 5 0) fb) s
    let s := s.modCoil c fun q =>
      { q with job := .idle,
               loop := { q.loop with cur := snsNamed s (fld w 13 8) cur, aux := snsNamed s (fld w 21 16) aux,
                                     dAct := q.loop.d, periods := q.loop.periods + 1 } }
    let s := laStage c s
    if q.st = .starting then coilBegin c s else s

/-- HALT of a coil's job: stages 3 to 10, then the duties go to Plait (R332, R335). -/
def coilStages (c : CoilIx) (s : State) : State :=
  let s := dutyWrite c (traceStage c (plausStage c (dutyStage c (stagesToLaw c s))))
  let s := { s with coreQ := s.coreQ.map fun (l : List Nat) => l.filter (fun x => x != c.val) }
  s.modCoil c fun q => { q with job := .done, ctx := { q.ctx with running := false } }

/-! ## Start and stop (R361, R363) -/

/-- The coils that load a core: those that are not STOPPED. -/
def coreCoils (s : State) (core : Fin 4) : List CoilIx :=
  allCoils.filter fun c => (s.coils[c]).st != .stopped && coilCore s c == core

/-- C + 6 of a coil's image. -/
def coilCost (s : State) (c : CoilIx) : Nat :=
  match (s.coils[c]).image with | some g => g.cycles + 6 | none => 0

/-- SUM and WINDOW of CORE_LOAD (R333). -/
def coreSum (s : State) (l : List CoilIx) : Nat := l.foldl (fun a c => a + coilCost s c) 0
def coreWindow (s : State) (l : List CoilIx) : Nat := l.foldl (fun a c => min a (2 * coilPeriod s c - 16)) 0xFFFF

/-- Whether the pairs of a coil meet R329. -/
def pairsOk (s : State) (c : CoilIx) : Bool :=
  let w := s.cfg1 .COIL_CFG c.val
  let l := boundPairs c s
  decide (fld w 21 16 + fld w 14 12 ≤ 48) && !l.isEmpty &&
    l.all (fun n => (s.pairs[n]).en && (s.pairs[n]).shPeriod == coilPeriod s c && !pairOwned s n)

/-- Whether BANK_EDGE rises and the trim limits are in order over the banks in use (check 6). -/
def banksOk (s : State) (c : CoilIx) : Bool :=
  let n := coilBanks s c
  decide (1 ≤ n ∧ n ≤ 8) &&
    (List.range n).all fun j =>
      decide (bankVal s .TRIM_MIN c j ≤ bankVal s .TRIM_MAX c j) &&
        (decide (j < 2) || decide (bankVal s .BANK_EDGE c (j - 1) < bankVal s .BANK_EDGE c j))

/-- Whether the notch has gain 1 at DC within 2^-20 (check 7). -/
def notchOk (s : State) (c : CoilIx) : Bool :=
  let num := coilVal s .NOTCH_B0 c + coilVal s .NOTCH_B1 c + coilVal s .NOTCH_B2 c
  let den := (2 : Int) ^ 30 + coilVal s .NOTCH_A1 c + coilVal s .NOTCH_A2 c
  !bit (s.cfg1 .COIL_CFG c.val) 1 || coilClass c == 2 ||
    (decide (den ≠ 0) && decide ((num - den).natAbs * 2 ^ 20 ≤ den.natAbs))

/-- Whether every strand with look-ahead of a supply coil passes R352 (check 9). -/
def coilLaOk (s : State) (c : CoilIx) : Bool :=
  (coilStrands s c).all fun x =>
    match boundImage s x.1 x.2 with
    | some g => imageCoil g != some c || laCheck s x.1 x.2 g c
    | none => true

/-- Checks 2 to 11 of R361: the completion and the new START_FAULT, where it changes. -/
def coilChecks (s : State) (c : CoilIx) : Code × Option Nat :=
  let fixed := coilVal s .FIXED_SP c
  let lim := s.cfg1 .DUTY_LIM c.val
  let l := c :: coreCoils s (coilCore s c)
  if (s.coils[c]).image.isNone || coilUnfitted s c then (.badProgram, some 1)
  else if !pairsOk s c then (.badProgram, some 2)
  else if !(l.all fun j => decide ((coreSum s l : Int) ≤ 2 * (coilPeriod s j : Int) - 16)) then (.badProgram, some 3)
  else if !(decide (coilVal s .SP_MIN c < coilVal s .SP_MAX c ∧ coilVal s .SP_MIN c ≤ fixed ∧
      fixed ≤ coilVal s .SP_MAX c ∧ 0 < coilVal s .SLEW_UP c ∧ 0 < coilVal s .SLEW_DN c) &&
      decide (fld lim 15 0 < fld lim 31 16)) then (.badProgram, some 4)
  else if !banksOk s c then (.badProgram, some 5)
  else if !notchOk s c then (.badProgram, some 6)
  else if 48 ≤ fld (s.cfg1 .COIL_SENSE c.val) 5 0 then (.badProgram, some 7)
  else if coilClass c = 0 ∧ coilLaOk s c = false then (.badProgram, some 8)
  else if coilClass c = 0 ∧ s.handle.versionHeld then (.versionHeld, none)
  else if coilClass c = 0 ∧ s.thm.hold then (.thermalHold, none)
  else (.ok, some 0)

/-- Whether a LOAD or a FETCH is replacing the image of a coil (R366). -/
def coilLoading (s : State) (c : CoilIx) : Bool :=
  match s.coilLdr.busy with | some d => d.slot == c.val && (d.op == 1 || d.op == 2) | none => false

/-- A START after its origin and record are settled (R361, R366). -/
def coilStart (c : CoilIx) (s : State) : Code × State :=
  if (s.coils[c]).st ≠ .stopped then (.ok, s)
  else
    let r := if coilLoading s c then (.busy, none) else coilChecks s c
    let s := s.modCoil c fun q => { q with startFault := match r.2 with | some f => f | none => q.startFault }
    if r.1 = .ok then
      (.ok, s.modCoil c fun q => { q with st := .starting, stopWait := false, laValid := false })
    else (r.1, skeinEvent (locOf 0 c.val) 5 5 (s.coils[c]).startFault s)

/-- A STOP (R363). -/
def coilStop (c : CoilIx) (s : State) : Code × State :=
  let busy : Bool := match coilPort c with
    | some (k, p) => (s.port k p).st == .transmit || (s.port k p).cycling
    | none => false
  if busy then (.busy, s)
  else if (s.coils[c]).st = .stopped then (.ok, s)
  else (.ok, s.modCoil c fun q => { q with stopWait := true })

/-- The bytes over which a START record takes its CRC: the bank words, then the words of the tables that its class has (R327, R367). -/
def coilBytes (s : State) (c : CoilIx) : List Byte :=
  let banks := (List.range 8).foldl (fun acc b =>
    [Reg.BANK_EDGE, .BANK_DUTY, .BANK_BAND, .BANK_KI, .TRIM_MIN, .TRIM_MAX].foldl
      (fun acc r => acc ++ wordBytes (s.cfg2 r c.val b)) acc) []
  banks ++ readBytes .coilTab (c.val * 2 ^ 16) (match coilClass c with | 1 => 0 | 2 => 2048 | _ => 1024) s

end Sys2Proof.Machine
end

