-- ==== Sys2Proof/Machine/ChainOps.lean ====
section
/-!
DEFINITION. Machine/ChainOps.lean: the samples of the riddle chains: channel FIR with its cross-fade, snap stage,
fractional delay and VALID, and the transmit FIR (02_converters_riddle.md R60, R64, R68 to R71, R75 to R80, R83, R84,
R88).
-/
namespace Sys2Proof.Machine
open Sys2Proof

/-! ## The channel FIRs (R64, R83, R84, R93) -/

/-- The first N taps of a bank, tap 0 first. -/
def bankTaps (s : State) (k : DieIx) (i : StrandIx) (b : Fin 2) : List Cx :=
  (List.range (rdlTaps s k i)).map fun n =>
    let w := readWord .bank (bankOff k i b n) s
    ⟨sfld w 15 0, sfld w 31 16⟩

/-- The output of an FIR before its rounding, in 2^-15: tap 0 meets the newest sample. -/
def firSum (taps line : List Cx) : Cx := (taps.zip line).foldl (fun (a : Cx) x => a.add (x.1.mul x.2)) ⟨0, 0⟩

/-- The active bank, the target of a fade with its K, and the samples of the fade that lie before the block (R83). -/
structure FirSet where
  old : List Cx
  new : List Cx
  k : Nat
  pos : Int
  deriving DecidableEq, Repr

/-- The taps in force over the 64 samples that end now. -/
def firSet (s : State) (k : DieIx) (i : StrandIx) : FirSet :=
  let r := s.rid k i
  match r.fade with
  | none => ⟨bankTaps s k i r.active, [], 0, 0⟩
  | some f => ⟨bankTaps s k i r.active, bankTaps s k i f.target, f.k, (nsSamples (rdlH s k i) (s.time.ft - f.start) : Int) - 64⟩

/-- One output of an FIR: (1 - a) y_old + a y_new with a = (n + 1) / 2^K in sample n of the fade (R83). -/
def FirSet.out (f : FirSet) (j : Nat) (line : List Cx) : Cx :=
  let a := clampI 0 (2 ^ f.k) (if f.new.isEmpty then 0 else f.pos + j + 1)
  Cx.div16 (((firSum f.old line).scale (2 ^ f.k - a)).add ((firSum f.new line).scale a)) (2 ^ (15 + f.k))

/-- The outputs for new samples, from the j-th of a block, and the delay line after them. -/
def FirSet.run (f : FirSet) : Nat → List Cx → List Cx → List Cx × List Cx
  | _, line, [] => ([], line)
  | j, line, x :: l =>
    let line := (x :: line).take 256
    let r := f.run (j + 1) line l
    (f.out j line :: r.1, r.2)

/-- The banks that the FIRs of a strand read (R83). -/
def banksRead (r : Riddle) : List (Fin 2) := match r.fade with | some f => [r.active, f.target] | none => [r.active]

/-- Whether the FIRs use a bank word with a double-bit error (R88): word w of bank b holds the taps 2 w and 2 w + 1. -/
def usesBad (s : State) (k : DieIx) (i : StrandIx) : Bool :=
  (banksRead (s.rid k i)).any fun b =>
    (s.rid k i).bad.any fun w => w / 128 == b.val && decide (2 * (w % 128) < rdlTaps s k i)

/-! ## Snap mode (R77, R79, R80) -/

/-- One strand-rate sample into the integrate-and-dump stage with length L: an output where the stage dumps, the exact
mean rounded to 16 bits. -/
def Snap.step (p : Snap) (l : Nat) (x : Cx) : Option Cx × Snap :=
  if 0 < p.skip then (none, { p with skip := p.skip - 1 })
  else if l ≤ p.n + 1 then (some (Cx.div16 (p.sum.add x) l), ⟨0, 0, ⟨0, 0⟩⟩)
  else (none, { p with n := p.n + 1, sum := p.sum.add x })

/-- The stage over new samples: its outputs, its state and the L in force, which a dump boundary takes from SNAP_CFG. -/
def snapRun (cfg : Nat) : Nat → Snap → List Cx → List Cx × Snap × Nat
  | l, p, [] => ([], p, l)
  | l, p, x :: xs =>
    let q := p.step l x
    match q.1 with
    | none => snapRun cfg l q.2 xs
    | some y =>
      let r := snapRun cfg cfg q.2 xs
      (y :: r.1, r.2)

/-! ## The fractional delay (R71, R75, R76) -/

/-- The delay in force at sample j of the 64 samples that end now. -/
def delayAt (s : State) (k : DieIx) (i : StrandIx) (j : Nat) : Nat :=
  let r := s.rid k i
  let d := delayTarget s k i
  match r.slewing with
  | none => r.delayAct
  | some t0 =>
    let n := nsSamples (rdlH s k i) (s.time.ft - t0) + j + 1 - 64
    if r.delayAct ≤ d then min d (r.delayAct + n) else max d (r.delayAct - n)

/-- The output of the delay line, newest first, for a delay in 1/256 sample on top of the fixed 4 samples. A sample
between two others carries VALID when both do (DEDUCED, notes/assumptions/145.md). -/
def delayOut (d : Nat) (line : List Smp) : Smp :=
  let at_ := fun n => line.getD n ⟨⟨0, 0⟩, false⟩
  if d % 256 = 0 then at_ (4 + d / 256)
  else
    let v := Config.between (d % 256) ((line.drop (d / 256)).map (·.z))
    ⟨Cx.sat16 ⟨v.1, v.2⟩, (at_ (4 + d / 256)).ok && (at_ (5 + d / 256)).ok⟩

/-- The delay line over new samples. -/
def delayRun (d : Nat → Nat) : Nat → List Smp → List Smp → List Smp × List Smp
  | _, line, [] => ([], line)
  | j, line, x :: l =>
    let line := (x :: line).take 72
    let r := delayRun d (j + 1) line l
    (delayOut (d j) line :: r.1, r.2)

/-! ## A receive chain -/

/-- Mixing at F_S - f_c and conjugating for a second-zone band (R60). -/
def zoned (r : Riddle) (l : List Cx) : List Cx := if zoneOf r.ftw then l.map Cx.conj else l

/-- The VALID of the output samples after a reset: those numbered below the fill count are zero and not valid (R69). -/
def numbered (fill n : Nat) (ok : Bool) : List Cx → List Smp
  | [] => []
  | z :: l => (if n < fill then ⟨⟨0, 0⟩, false⟩ else ⟨z, ok⟩) :: numbered fill (n + 1) ok l

/-- One chain over the samples that its fixed stages give: channel FIR or snap stage, numbering and delay. It answers
the samples at point IN, the delay lines, and the state of the snap stage. -/
def chainRun (s : State) (k : DieIx) (i : StrandIx) (ln : Lines) (ok : Bool) (xs : List Cx) :
    List Smp × Lines × Snap × Nat :=
  let r := s.rid k i
  let xs := zoned r xs
  if rdlSnap s k i then
    let q := snapRun (fld (s.cfg2 .SNAP_CFG k i) 10 0) r.snapL r.snap xs
    let d := delayRun (delayAt s k i) 0 ln.dly (q.1.map fun z => ⟨z, ok⟩)
    (d.1, ⟨ln.fir, d.2⟩, q.2)
  else
    let f := (firSet s k i).run 0 ln.fir xs
    let d := delayRun (delayAt s k i) 0 ln.dly (numbered (fillCount s k i) r.n (ok && !usesBad s k i) f.1)
    (d.1, ⟨f.2, d.2⟩, r.snap, r.snapL)

/-! ## The transmit chain (R60, R64, R69, R84, R88, R123) -/

/-- A block that leaves the gate for a DAC: an invalid block is sent as zeros (R124), the FIR runs with the receive
chain's bank and fade, a second-zone band is conjugated, and the first F strand samples after a reset are held at
code 0. -/
def txBlock (s : State) (k : DieIx) (i : StrandIx) (b : Block) : List Cx × List Cx :=
  let r := s.rid k i
  let f := (firSet s k i).run 0 r.txFir (if b.valid then b.xs else List.replicate 64 Cx.zero)
  let since : Int := (nsSamples (rdlH s k i) (s.time.ft - r.sync) : Int) - 64
  let out := (zoned r f.1).zipIdx.map fun x =>
    if usesBad s k i || decide (since + x.2 < fillCount s k i) then Cx.zero else x.1
  (out, f.2)

end Sys2Proof.Machine
end

