-- ==== Sys2Proof/Machine/PortLevels.lean ====
section
/-!
DEFINITION. Machine/PortLevels.lean: what a port's state and its transition in progress say of its pins, its converters
and its DAC input (08_radio_control.md R291 to R300), the TDD windows at the present time (05_network_protection.md R193,
R194) and the transmit time that a port has had (R197).
-/
namespace Sys2Proof.Machine
open Sys2Proof

/-! ## Levels (R291 to R298) -/

/-- DUPLEX of a port in force: true for TDD (R295, R296). -/
def isDuplex (s : State) (k : DieIx) (p : PortIx) : Bool := (s.port k p).duplex

/-- The transition in progress, once it has begun: where it leads, whether it is a switch, and since when it runs, in ns. -/
def Port.going (q : Port) (now : Nat) : Option (PortState × Bool × Nat) :=
  match q.moving with
  | some t => if q.mvAt ≤ now then some (t, q.mvSwitch, now - q.mvAt) else none
  | none => none

/-- Whether a port ramps down by command, and for how long it has (R297, R298). -/
def Port.ramp (q : Port) (now : Nat) : Option Nat :=
  if q.st = .transmit then
    match q.going now with
    | some (_, false, n) => some n
    | _ => none
  else none

/-- PAEN apart from the causes of R300: it rises 6 µs into a commanded transition into Transmit and 0.5 µs into a switch,
and falls at the end of a port ramp-down or as a switch begins (R297, R298). -/
def Port.paenNow (q : Port) (now : Nat) : Bool :=
  match q.going now with
  | none => q.paen
  | some (.transmit, sw, n) => decide ((if sw then 500 else 6000) ≤ n)
  | some (_, sw, n) => q.paen && !sw && decide (n < 8000)

/-- TRSW of a port whose DUPLEX is 1: it rises as a transition into Transmit begins and falls 0.5 µs after PAEN (R297). Of
a commanded transition the spec gives no time (DESIGN CHOICE, notes/assumptions/55.md). -/
def Port.trswNow (q : Port) (now : Nat) : Bool :=
  match q.going now with
  | none => q.trsw
  | some (.transmit, _, _) => q.duplex
  | some (_, sw, n) => q.trsw && decide (n < if sw then 500 else 8500)

/-- ADC_READY (R294, R297): in a transition from Synth-on to Transmit the ADC is awake after 8 µs. -/
def Port.adcNow (q : Port) (c : Conv) (now : Nat) : Bool :=
  match q.going now with
  | some (.transmit, false, n) => c.adcReady || decide (8000 ≤ n)
  | _ => c.adcReady

/-- DAC_READY (R294, R297): the DAC is awake after 6 µs of a commanded transition into Transmit, and until the end of a port
ramp-down. -/
def Port.dacNow (q : Port) (c : Conv) (now : Nat) : Bool :=
  match q.going now with
  | some (.transmit, false, n) => c.dacReady || decide (6000 ≤ n)
  | some (_, false, n) => c.dacReady && (q.st != .transmit || decide (n < 8000))
  | _ => c.dacReady

def adcLevel (s : State) (k : DieIx) (p : PortIx) : Bool := (s.port k p).adcNow (s.conv k p) s.time.ft
def dacLevel (s : State) (k : DieIx) (p : PortIx) : Bool := (s.port k p).dacNow (s.conv k p) s.time.ft
def trswLevel (s : State) (k : DieIx) (p : PortIx) : Bool := (s.port k p).trswNow s.time.ft

/-- The level of PAEN (R300). -/
def paenLevel (s : State) (k : DieIx) (p : PortIx) : Bool :=
  (s.port k p).paenNow s.time.ft && !lashMute s k && !(s.port k p).selfMuted

/-- The factor, of 2^96, on the DAC input of a port at a time (R292, R298, R300): strand samples only in Transmit, over 8 µs
of a port ramp-down linear in dB to -60 dB, and zero in every other state and for 8 µs after PAEN has come back. -/
def dacFactor (s : State) (k : DieIx) (p : PortIx) (now : Nat) : Nat :=
  let q := s.port k p
  if q.st ≠ .transmit ∨ now < q.zeroUntil then 0
  else match q.ramp now with
    | none => 2 ^ 96
    | some n => if n < 8000 then dbAmp (-60 * (n : Int)) 8000 else 0

/-- The level of DIVSW of a donor port at a time, true for antenna 1 (R291, R316, R317): the selected antenna, and the other
one in the measurement symbol that the burst takes on it, LEAD earlier than at the antenna. Where the measurement symbols
lie in time (false for the first, true for the second) is not the spec's: `sym` says it. -/
def divswLevel (s : State) (k : DieIx) (p : PortIx) (sym : Nat → Option Bool) (now : Nat) : Bool :=
  let q := s.port k p
  match sym (now + 100 * fld (s.cfg2 .DIV_CFG k p) 15 11) with
  | some second => q.selected != (second == q.altSecond)
  | none => q.selected

/-! ## TDD windows (05_network_protection.md R192 to R194) -/

/-- Whether the TDD timing lets a cycling port of a die transmit (R192, R296). -/
def tddReady (s : State) (k : DieIx) : Bool := (s.dies[k]).tdd.valid && (s.dies[k]).tdd.active.isSome

/-- The time since the frame start, in the unit of the windows. -/
def airNow (s : State) (k : DieIx) : Int := airNs ((s.time.ft : Int) - (s.dies[k]).tdd.frame)

/-- Whether a cycling port is to be in Transmit or on its way there: from `early` ns before a transmit window opens, until it
ends (R193, R194). -/
def inTxWindow (s : State) (k : DieIx) (p : PortIx) (early : Nat) : Bool :=
  match (s.dies[k]).tdd.active with
  | none => false
  | some q => q.within (q.windows p).1 (airNow s k) (airNs early) 0

/-- Whether what passes a strand's gate now reaches the pin inside the transmit window of its output port, with each gate
ramp wholly in a guard (R194): the ramp up begins at the pin as the window opens, the ramp down as its last guard begins
(DESIGN CHOICE, notes/assumptions/135.md). -/
def inGateWindow (s : State) (k : DieIx) (i : StrandIx) : Bool :=
  match (s.dies[k]).tdd.active with
  | none => false
  | some q =>
    q.within (q.windows (Fin.ofNat 4 (outPort s k i))).1 (airNow s k + airTenth (gTx (rdlH s k i) (rdlTaps s k i))) 0
      (14000 * fld q.cfg 7 0)

/-! ## Transmit time (05_network_protection.md R197) -/

/-- Changing the duty of a port. -/
def State.modDuty (s : State) (k : DieIx) (p : PortIx) (f : Duty → Duty) : State :=
  s.modDie k fun d => { d with duty := vmod d.duty p f }

/-- The length of the measure, 10 ms in ns. -/
def dutySpan : Nat := 10000000

/-- The time in Transmit over the last 10 ms before a time, in whole µs. -/
def Duty.micros (d : Duty) (now : Nat) : Nat :=
  let cut := fun (a b : Nat) => min b now - Nat.max a (now - dutySpan)
  ((match d.since with | some a => cut a now | none => 0) + (d.past.map fun x => cut x.1 x.2).sum) / 1000

/-- The transmit fraction at a time, in 0.1 %. -/
def Duty.frac (d : Duty) (now : Nat) : Nat := d.micros now / 10

/-- MAX of DUTY_STAT: the fraction rises only while the port transmits, so it is largest at the end of such a time or now. -/
def dutyMax (d : Duty) (now : Nat) : Nat := max d.max (d.frac now)

/-- A port enters Transmit, or ends it at a time. -/
def Duty.enter (d : Duty) (now : Nat) : Duty := { d with since := some now }
def Duty.leave (d : Duty) (now : Nat) : Duty :=
  match d.since with
  | none => d
  | some a => { d with max := dutyMax d now, since := none, past := (a, now) :: d.past.filter fun x => decide (now < x.2 + dutySpan) }

/-- Whether a port is in Transmit and not on its way out of it. -/
def Port.onAir (q : Port) : Bool := q.st == .transmit && q.moving.isNone

/-- Changing a port, with the measure of its time in Transmit, which a switch that is to come ends when it begins. -/
def State.movePort (s : State) (k : DieIx) (p : PortIx) (f : Port → Port) : State :=
  let a := (s.port k p).onAir
  let q := f (s.port k p)
  let s := s.modPort k p f
  if a = q.onAir then s
  else s.modDuty k p fun d => if q.onAir then d.enter s.time.ft else d.leave (max s.time.ft (if q.moving.isSome then q.mvAt else 0))

end Sys2Proof.Machine
end

