-- ==== Sys2Proof/Machine/StrandOps.lean ====
section
/-!
DEFINITION. Machine/StrandOps.lean: starting and stopping strands, the mute sources, the level stage, the meters, the
limiter and parity errors (03_strands.md).
-/
namespace Sys2Proof.Machine
open Sys2Proof

/-! ## Mute sources (STR_STAT.MUTE) -/

/-- The uplink gating of a strand is on and closed (05_network_protection.md R177). -/
def ugClosed (s : State) (k : DieIx) (i : StrandIx) : Bool :=
  isUplink i && bit (s.cfg2 .UG_CFG k i) 31 && (s.prot k i).ug == .closed

/-- Bit 27: no valid timing or no pattern for a TDD strand, outside the windows as the gate meets them, or a duty hit (R192,
R194, R197). -/
def tddMutes (s : State) (k : DieIx) (i : StrandIx) : Bool :=
  let d := s.dies[k]
  (isTdd s k i && (!tddReady s k || (outKind s k i == 1 && !inGateWindow s k i))) ||
    (outKind s k i == 1 && (d.duty[Fin.ofNat 4 (outPort s k i)]).hold)

/-- The port of bit 31: the output port, or the limit port of a stream output (08_radio_control.md R299). -/
def gatePort (s : State) (k : DieIx) (i : StrandIx) : Option PortIx := (levelPort s k i).map (Fin.ofNat 4)

/-- Whether bit 27 governs the gate of a strand in place of its port's state (R299): a TDD strand on a cycling port. -/
def tddGoverns (s : State) (k : DieIx) (i : StrandIx) (p : PortIx) : Bool :=
  (s.port k p).cycling && (s.port k p).inProg.isNone && outKind s k i == 1 && isTdd s k i

/-- Bit 31: the port is not in Transmit, leaves it, is held by coexistence, or mutes itself (R299, R323 to R325,
01_architecture.md R33). -/
def portMutes (s : State) (k : DieIx) (i : StrandIx) : Bool :=
  match gatePort s k i with
  | none => false
  | some p =>
    let q := s.port k p
    q.hold31 || q.selfMuted || q.coexHeld || (!tddGoverns s k i p && !q.onAir)

/-- Bit 29 of a strand whose port is still in the 8 µs after a MUTE reaction (16_lashing.md R520). -/
def lashHolds (s : State) (k : DieIx) (i : StrandIx) : Bool :=
  match gatePort s k i with
  | none => false
  | some p => decide (s.time.ft < (s.port k p).muteUntil)

/-- MUTE: a STARTING strand holds every mute source (R100), a STOPPED one shows none. -/
def muteBits (s : State) (k : DieIx) (i : StrandIx) : Nat :=
  let t := s.strand k i
  match t.st with
  | .stopped => 0
  | .starting => 0xFF
  | _ => b2n t.m24 + 2 * b2n t.m25 + 4 * b2n (ugClosed s k i) + 8 * b2n (tddMutes s k i) + 16 * b2n t.m28 +
      32 * b2n (lashMute s k || (s.dies[k]).bcastBroken || lashHolds s k i) + 64 * b2n t.m30 + 128 * b2n (portMutes s k i)

/-- STATE of STR_STAT. -/
def StrandState.num : StrandState → Nat
  | .stopped => 0 | .starting => 1 | .running => 2 | .stopping => 3

/-! ## Start (R99 to R101) -/

/-- The endpoints of the reservations of some kinds that a strand's image declares (06_withy_model.md R241). -/
def resEps (s : State) (k : DieIx) (i : StrandIx) (kinds : List Nat) : List Nat :=
  match boundImage s k i with | some g => (g.res.filter fun r => kinds.contains r.kind).map (·.ep) | none => []

/-- The stream endpoints that a strand names (R99 check 7, R241). -/
def epsOf (s : State) (k : DieIx) (i : StrandIx) : List Nat :=
  (if inStream s k i then [inEp s k i] else []) ++ (if outKind s k i = 2 then [outEp s k i] else []) ++ resEps s k i [0]

/-- The message endpoints that a strand names (06_withy_model.md R240, R241). -/
def msgEpsOf (s : State) (k : DieIx) (i : StrandIx) : List Nat := resEps s k i [1, 2]

/-- Whether another running strand uses an endpoint (11_wale_fabric.md R408). -/
def epInUse (s : State) (k : DieIx) (i : StrandIx) (e : Nat) : Bool :=
  allDies.any fun k' => allStrands.any fun j =>
    (k' != k || j != i) && isRunning s k' j && (epsOf s k' j ++ msgEpsOf s k' j).contains e

/-- The checks of R238 for an image with look-ahead on a strand. -/
def laStart (s : State) (k : DieIx) (i : StrandIx) (g : Image) : Bool :=
  match imageCoil g with
  | none => true
  | some c =>
    outKind s k i == 1 && coilPort c == some (k, Fin.ofNat 4 (outPort s k i)) && !coilUnfitted s c && laCheck s k i g c

/-- Check 5: an image is bound and its look-ahead still passes (R99, R238). -/
def programOk (s : State) (k : DieIx) (i : StrandIx) : Bool :=
  match boundImage s k i with | some g => laStart s k i g | none => false

/-- Checks 3 to 9 of R99 on a stopped strand: the completion, START_FAULT where it changes, CFG_FAULT and REG_FAULT
where they do. -/
def startChecks (s : State) (k : DieIx) (i : StrandIx) : Code × Option Nat × Option Nat × Option Nat :=
  if hasOutput s k i ∧ s.handle.versionHeld then (.versionHeld, none, none, none)
  else if hasOutput s k i ∧ s.thm.hold then (.thermalHold, none, none, none)
  else if !programOk s k i then (.badProgram, some 2, none, none)
  else if !portsFollow s k i then (.badProgram, some 3, none, none)
  else if !((epsOf s k i).all fun e =>
      (s.wale.eps[Fin.ofNat 256 e]).st == .admitted) || (epsOf s k i ++ msgEpsOf s k i).any (epInUse s k i) then
    (.badProgram, some 4, none, none)
  else
    let f := placeFault s k i (s.rid k i).ftw
    if f ≠ 0 then (.badProgram, some 1, some f, none)
    else
      let r := regFaultOf s k i
      if r ≠ 0 then (.lockedRegulatory, some 5, none, some r) else (.ok, some 0, some 0, some 0)

/-- Writing the faults that the checks give. -/
def putFaults (k : DieIx) (i : StrandIx) (r : Code × Option Nat × Option Nat × Option Nat) (s : State) : State :=
  let s := match r.2.1 with | some f => s.modStrand k i fun t => { t with startFault := f } | none => s
  let s := match r.2.2.1 with | some f => s.modRid k i fun t => { t with cfgFault := f } | none => s
  match r.2.2.2 with | some f => s.modProt k i fun t => { t with regFault := f } | none => s

/-- Whether presence checking applies to list e of a die (05_network_protection.md R184). -/
def presApplies (s : State) (k : DieIx) (e : Fin 8) : Bool :=
  bit (s.cfg2 .PRES_CFG k e) 31 || (regValid s && (activeEntry s k e).valid && (activeEntry s k e).presReq)

/-- The list of which a strand is a subject (R183). -/
def subjectOf (s : State) (k : DieIx) (i : StrandIx) : Option (Fin 8) :=
  if isRunning s k i && hasOutput s k i then
    match strandEntry s k i with
    | some (e, _) => if presApplies s k (Fin.ofNat 8 e) then some (Fin.ofNat 8 e) else none
    | none => none
  else none

/-- Changing a presence list. -/
def State.modList (s : State) (k : DieIx) (e : Fin 8) (f : PresList → PresList) : State :=
  s.modDie k fun d => { d with lists := vmod d.lists e f }

/-- The start of a subject: it triggers a check and holds bit 28 (R186, R187). -/
def presStart (k : DieIx) (i : StrandIx) (s : State) : State :=
  let s := s.modProt k i fun p => { p with presSince := s.time.ft }
  match subjectOf s k i with
  | none => s.modStrand k i fun t => { t with m28 := false }
  | some e =>
    let s := s.modStrand k i fun t => { t with m28 := true }
    s.modList k e fun l =>
      { l with waiting := some s.time.ft,
               st := if l.st = .idle ∨ l.st = .absent then .checking else l.st,
               misses := if l.st = .idle ∨ l.st = .absent then 0 else l.misses,
               found := if l.st = .idle ∨ l.st = .absent then false else l.found }

/-- Latching the latencies of the active pattern and of one that waits, at a strand start (R196). -/
def tddLatch (k : DieIx) (s : State) : State :=
  s.modDie k fun d => { d with tdd := { d.tdd with active := d.tdd.active.map (latchPattern s k none),
                                                   next := d.tdd.next.map (latchPattern s k none) } }

/-- Entering STARTING (R100): the faults clear, the path is empty, the strand is reset with the group it starts in. g_alc
keeps its value over a stop and a start while ALC_EN stays 1 (DESIGN CHOICE, notes/assumptions/133.md). -/
def enterStarting (k : DieIx) (i : StrandIx) (s : State) : State :=
  let s := s.modStrand k i fun t =>
    { t with st := .starting, m24 := false, m25 := false, m30 := false, gate := 0, first := true, limit := 0,
             toLevel := [], toLim := [], inLim := [], latest := none, lastRed := 0, release := [], atGate := none,
             toGate := [], tx := [], gEntHub := none, gEntDie := none }
  let s := s.modGuard k i fun g =>
    { g with phase := .armed, trips := [], xs := [], ys := [], ovr := 0, prog := false, muted := 0, restore := false }
  s.modProg k i fun p => { p with outQ := [], laQ := [], la := [], laHist := [], sends := [] }

/-- What follows once the strands of a START have entered STARTING: reset, presence, patterns, groups. -/
def startRest (k : DieIx) (l : List StrandIx) (s : State) : State :=
  let s := s.each l (syncReset none k)
  let s := s.each l (presStart k)
  let s := reformGroups k (tddLatch k s)
  let s := s.each l (laStrand k)
  s.each l fun i s =>
    if (groupOf s k i).any fun j => (s.guard k j).phase == .muted then s.modStrand k i fun t => { t with m25 := true }
    else s

/-- Whether a START acts: a START of a running strand changes nothing (R104). -/
def startNow (k : DieIx) (i : StrandIx) (s : State) : Code × State :=
  match (s.strand k i).st with
  | .stopping => (.busy, s)
  | .stopped =>
    let r := startChecks s k i
    let s := putFaults k i r s
    (r.1, if r.1 = .ok then enterStarting k i s else s)
  | _ => (.ok, s)

/-- A START that reaches its strand (R99, R100, R104). -/
def strandStart (k : DieIx) (i : StrandIx) (s : State) : Code × State :=
  let was := (s.strand k i).st
  let r := startNow k i s
  if r.1 = .ok ∧ was = .stopped then (.ok, startRest k [i] r.2) else r

/-- The START of a group, one strand after another: the first failure ends it (R101). -/
def groupTry (k : DieIx) : List StrandIx → State → Code × State
  | [], s => (.ok, s)
  | i :: l, s =>
    let r := startNow k i s
    if r.1 = .ok then groupTry k l r.2 else r

/-- The faults of a failing strand of a group, put into the state as it was before (R101). -/
def groupFault (k : DieIx) (l : List StrandIx) (t s : State) : State :=
  match l.find? fun i =>
      (t.strand k i).st = .stopped && ((s.strand k i).startFault != (t.strand k i).startFault ||
        (s.rid k i).cfgFault != (t.rid k i).cfgFault || (s.prot k i).regFault != (t.prot k i).regFault) with
  | none => s
  | some i =>
    let s := s.modStrand k i fun x => { x with startFault := (t.strand k i).startFault }
    let s := s.modRid k i fun x => { x with cfgFault := (t.rid k i).cfgFault }
    s.modProt k i fun x => { x with regFault := (t.prot k i).regFault }

/-- A STOP: the gate begins its mute ramp (R102 to R104). R104 does not speak of a STOP on a STOPPING strand: it changes
nothing and completes with OK (DESIGN CHOICE, notes/assumptions/132.md). -/
def strandStop (k : DieIx) (i : StrandIx) (s : State) : State :=
  match (s.strand k i).st with
  | .starting | .running => s.modStrand k i fun t => { t with st := .stopping, m24 := true }
  | _ => s

/-- STR_GROUP (R101, R104): a strand in both masks makes the write fail. -/
def strandGroup (k : DieIx) (start stop : Nat) (s : State) : Code × State :=
  if Nat.land start stop % 2 ^ 16 ≠ 0 then (.badProgram, s)
  else
    let l := maskStrands start
    let fresh := l.filter fun i => (s.strand k i).st == .stopped
    let r := groupTry k l s
    if r.1 = .ok then
      let t := if fresh.isEmpty then r.2 else startRest k fresh r.2
      (.ok, t.each (maskStrands stop) (strandStop k))
    else (r.1, groupFault k l r.2 s)

/-- The first valid block of a STARTING strand reaches the gate (R100). -/
def strandRunning (k : DieIx) (i : StrandIx) (s : State) : State :=
  let t := s.strand k i
  if t.st = .starting ∧ t.atGate.any (·.valid) then s.modStrand k i fun t => { t with st := .running } else s

/-- A list whose last subject stops or leaves it is IDLE, and a check of it ends (05_network_protection.md R186). -/
def presIdle (k : DieIx) (s : State) : State :=
  s.each (List.finRange 8) fun e s =>
    if allStrands.any fun i => subjectOf s k i == some e then s
    else if ((s.dies[k]).lists[e]).st = .absent then s
    else s.modList k e fun l => { l with st := .idle, waiting := none, running := none, due := none }

/-- What a change of frequency, of a list's settings or of the record does to presence, from the state before it
(R184, R186, R187, R211): a running strand that becomes a subject of a list is as one that starts, one that is none any more
is not held, and a list without subjects is IDLE (DEDUCED, notes/assumptions/136.md). -/
def presFollow (k : DieIx) (before s : State) : State :=
  let s := s.each allStrands fun i s =>
    if subjectOf s k i = subjectOf before k i then s else presStart k i s
  presIdle k s

/-- The transmit chain has emptied: STOPPED (R102, R612, R129). -/
def strandStopped (k : DieIx) (i : StrandIx) (s : State) : State :=
  let t := s.strand k i
  if t.st = .stopping ∧ t.gate = 0 then
    let s := s.modStrand k i fun t =>
      { t with st := .stopped, m24 := false, m25 := false, m28 := false, m30 := false, toLevel := [],
               toLim := [], inLim := [], latest := none, release := [], atGate := none, toGate := [], tx := [], gEntHub := none, gEntDie := none }
    let s := s.modProt k i fun p => { p with ug := .closed, since := s.time.ft, keepPeriods := 0 }
    laStrand k i (presIdle k (reformGroups k (settleStopped k i s)))
  else s

/-- The gate has reached the end of its ramp (R112). -/
def gateRampEnd (k : DieIx) (i : StrandIx) (s : State) : State :=
  if isRunning s k i then
    let n := if muteBits s k i = 0 then gateSteps (rdlH s k i) else 0
    s.modStrand k i fun t => { t with gate := n }
  else s

/-! ## Level stage (R107 to R115) -/

/-- The backoff term of a strand for a block (05_network_protection.md R182, R183), in 0.05 dB. -/
def backoffTerm (s : State) (k : DieIx) (i : StrandIx) (own : Nat) : Nat :=
  if isUplink i then
    allStrands.foldl (fun (m : Nat) (j : StrandIx) =>
      let w := s.cfg2 .BO_CFG k j
      if !isUplink j && isRunning s k j && bit w 31 && bit w (8 + i.val) then max m (s.prot k j).b else m) 0
  else if bit (s.cfg2 .BO_CFG k i) 31 then own else 0

/-- lean_depth of a downlink strand in 0.05 dB (R198, R199). -/
def leanDepth (s : State) (k : DieIx) (i : StrandIx) : Nat :=
  if isUplink i then 0
  else (List.finRange 4).foldl (fun m (g : Fin 4) =>
    let w := s.cfg2 .LEAN_CFG k g
    if bit w 31 && ((s.dies[k]).lean[g]).lean && bit (s.cfg2 .LEAN_MASK k g) i.val then max m (20 * fld w 20 16)
    else m) 0

/-- Whether a die of the guard, 0 the hub, is in THROTTLE (17_thermal.md R534). -/
def throttled (s : State) (d : Fin 8) : Bool := (s.thm.dies[d]).st == .throttle

/-- One die's cap_thermal in 0.05 dB from g_ent. -/
def throttleCap (s : State) (d : Fin 8) (g : Option Int) : Option Int :=
  if throttled s d then g.map fun x => x - 20 * ((s.thm.dies[d]).n * fld (s.cfg0 .THM_THR) 3 0 : Nat) else none

/-- The lower of two caps, where none is +∞. -/
def capMin (a b : Option Int) : Option Int :=
  match a, b with
  | some x, some y => some (min x y)
  | some x, none => some x
  | none, y => y

/-- cap_thermal of a strand (R534). -/
def capThermal (s : State) (k : DieIx) (i : StrandIx) : Option Int :=
  let t := s.strand k i
  capMin (throttleCap s 0 t.gEntHub) (throttleCap s (thmIx k) t.gEntDie)

/-- reg_max_gain (05_network_protection.md R205): for a strand with an output and no entry, the most restrictive value
(01_architecture.md R34). -/
def regMaxGain (s : State) (k : DieIx) (i : StrandIx) : Option Int :=
  match strandEntry s k i with
  | some (_, x) => some x.maxGain
  | none => if hasOutput s k i then some (-800) else none

/-- g_alc rounded to 0.05 dB, ties to the lower gain (R114). -/
def alcRound (g : Int) : Int := -((32768 - 20 * g) / 65536)

/-- One update of g_alc in 2^-16 dB (R114); the block power and the target in 0.01 dB. -/
def alcStep (gAlc target pIn gain : Int) (attack decay : Nat) : Int :=
  let e := (target - pIn) * 65536 - gAlc * 100
  let n := if e < 0 then attack else decay
  clampI (-40 * 65536) (roundDiv (gain * 65536) 20) (roundDiv (gAlc * 100 * 2 ^ n + e) (100 * 2 ^ n))

/-- g_req of R107 in 0.05 dB. -/
def gReq (s : State) (k : DieIx) (i : StrandIx) : Int :=
  if bit (s.cfg2 .ALC_CFG k i) 31 then alcRound (s.strand k i).gAlc else sfld (s.cfg2 .GAIN_CFG k i) 27 16

/-- g_tgt before the floor of -40.00 dB, with a choice of the thermal cap (R107). -/
def gTarget (s : State) (k : DieIx) (i : StrandIx) (own : Nat) (thermal : Option Int) : Int :=
  let cap := capMin (regMaxGain s k i) (capMin (capMargin s k i) thermal)
  let g := match cap with | some c => min (gReq s k i) c | none => gReq s k i
  g - backoffTerm s k i own - leanDepth s k i

/-- Whether a cap is the one that lowers g_tgt. Of several caps below g_req only the lowest is shown, and caps that are
equal are all shown (DESIGN CHOICE, notes/assumptions/129.md). -/
def capActs (req : Int) (cap all : Option Int) : Bool :=
  match cap with | some c => decide (c < req) && all == some c | none => false

/-- LIMIT of GAIN_STAT. -/
def limitBits (s : State) (k : DieIx) (i : StrandIx) (own : Nat) : Nat :=
  let a := regMaxGain s k i
  let b := capMargin s k i
  let c := capThermal s k i
  let m := capMin a (capMin b c)
  let r := gReq s k i
  b2n (capActs r a m) + 2 * b2n (capActs r b m) + 4 * b2n (capActs r c m) +
    8 * b2n (backoffTerm s k i own != 0) + 16 * b2n (leanDepth s k i != 0)

/-- The next g_app (R107). -/
def gainStep (gApp tgt : Int) (ramp : Nat) : Int :=
  if gApp < tgt then min tgt (gApp + ramp) else max tgt (gApp - max (ramp : Int) 128)

/-- The ALC on a block (R114, R115). -/
def alcBlock (k : DieIx) (i : StrandIx) (b : Block) (s : State) : State :=
  if b.valid then
    let p := dbfs (energy b.xs) 64
    let w := s.cfg2 .ALC_CFG k i
    let gain := sfld (s.cfg2 .GAIN_CFG k i) 27 16
    s.modStrand k i fun t =>
      { t with pIn := p,
               gAlc := if bit w 31 then alcStep t.gAlc (sfld w 15 0) p gain (fld w 23 20) (fld w 28 24) else t.gAlc }
  else s

/-- g_ent of a strand that starts during THROTTLE: g_tgt of its first valid block without cap_thermal (R534). -/
def entryGains (k : DieIx) (i : StrandIx) (own : Nat) (s : State) : State :=
  let g := max (-800) (gTarget s k i own none)
  s.modStrand k i fun t =>
    { t with gEntHub := if throttled s 0 then some g else none,
             gEntDie := if throttled s (thmIx k) then some g else none }

/-- The error of the gain of a sample, in 10^-9: within 0.005 dB, which is from -575 482 to 575 812 (R109). -/
def gainErr (ctr j : Nat) : Int := (Config.gainError ctr j % 1151295 : Nat) - 575482

/-- The samples of a block while the gain moves from one value to another in 0.05 dB: linearly in dB, once per sample,
the last sample at the new gain (R109). -/
def gained (ctr : Nat) (a b : Int) (xs : List Cx) : List Cx :=
  xs.zipIdx.map fun x =>
    x.1.gain (dbAmp (64 * a + (b - a) * (x.2 + 1)) 1280 * (10 ^ 9 + gainErr ctr x.2).toNat / 10 ^ 9)

/-- Adding the probe to the output of the level stage (04_feedback_cancellation.md R137): a sender that is not silent
does so in its valid blocks; an invalid block passes unchanged (R124), and its chips are not sent. -/
def withProbe (s : State) (k : DieIx) (i : StrandIx) (b : Block) : Block :=
  if b.valid && !isSilent s k i then
    let p := probeBlock s k i
    { b with pr := p, xs := (b.xs.zip p).map fun x =>
        Cx.sat16 ⟨x.1.re + roundDiv x.2 (2 ^ 32), x.1.im + roundDiv x.2 (2 ^ 32)⟩ }
  else b

/-- A block in the level stage (R107 to R111). -/
def levelBlock (k : DieIx) (i : StrandIx) (s : State) : State :=
  match (s.strand k i).toLevel with
  | [] => s
  | b :: rest =>
    let s := alcBlock k i b s
    let s := if (s.strand k i).first && b.valid then entryGains k i b.bo s else s
    let raw := gTarget s k i b.bo (capThermal s k i)
    let tgt := max (-800) raw
    let t := s.strand k i
    let begins := t.first && b.valid
    let from_ := if begins then tgt else t.gApp
    let g := if begins then tgt else if t.first then t.gApp else gainStep t.gApp tgt (fld (s.cfg2 .GAIN_CFG k i) 9 0)
    let out := withProbe s k i (if b.valid then { b with xs := gained s.freeCtr from_ g b.xs } else b)
    let lim := limitBits s k i b.bo
    let s := s.tick.modStrand k i fun t =>
      { t with toLevel := rest, toLim := t.toLim ++ [out], gApp := g, limit := lim, m30 := decide (raw < -800),
               first := t.first && !b.valid }
    let s := s.modCanc k i fun c => { c with chip := (c.chip + 64) % 32767 }
    if closesLoop s k (groupOf s k i) then checkBroken k (groupOf s k i) s else s

/-! ## Meters (R116, R117) -/

/-- Adding a valid block to the sums of a meter point. -/
def MeterAcc.add (a : MeterAcc) (xs : List Cx) : MeterAcc :=
  { sum := a.sum + energy xs, max := Nat.max a.max (peakOf xs), n := a.n + xs.length }

/-- Adding a block, if valid. -/
def MeterAcc.block (a : MeterAcc) (b : Block) : MeterAcc := if b.valid then a.add b.xs else a

/-- CREST of readings: 0 without power. -/
def crestOf (pk pw : Int) : Nat := if pw ≤ -20000 then 0 else (pk - pw).toNat

/-- The end of a window. -/
def meterEnd (k : DieIx) (i : StrandIx) (s : State) : State :=
  let m := (s.strand k i).meter
  if 2 ^ m.win ≤ m.blocks then
    let pi := dbfs m.accIn.sum m.accIn.n
    let po := dbfs m.accOut.sum m.accOut.n
    let ki := dbfs m.accIn.max 1
    let ko := dbfs m.accOut.max 1
    let win := fld (s.cfg2 .METER_CFG k i) 3 0
    s.modStrand k i fun t =>
      { t with meter := { accIn := .zero, accOut := .zero, blocks := 0, valids := 0, win := win, pwIn := pi, pkIn := ki,
                          pwOut := po, pkOut := ko, crIn := crestOf ki pi, crOut := crestOf ko po,
                          validBlocks := m.valids, seq := (m.seq + 1) % 2 ^ 16 } }
  else s

/-- A block at point IN counts in the meter, and in INV_BLOCKS when it is not valid (R116, R125). -/
def meterIn (k : DieIx) (i : StrandIx) (b : Block) (s : State) : State :=
  s.modStrand k i fun t =>
    { t with meter := { t.meter with accIn := t.meter.accIn.block b, blocks := t.meter.blocks + 1,
                                      valids := t.meter.valids + b2n b.valid },
             invBlocks := if b.valid then t.invBlocks else satInc 0xFFFF t.invBlocks }

/-! ## Limiter (R118 to R120) -/

/-- The strands that contribute to a port's limiter (R96, R118). -/
def limStrands (s : State) (k : DieIx) (p : PortIx) : List StrandIx :=
  allStrands.filter fun i => isRunning s k i && gatePort s k i == some p

/-- R of R119 in 0.01 dB, rounded up, for the summed energy of 64 samples. -/
def limR (sum : Nat) (plim : Int) : Nat := if sum = 0 then 0 else (db100Up sum (64 * 2 ^ 29) - plim).toNat

/-- A block enters the limiter of its port: every block in that limiter sees the new R (R119, R120). -/
def limiterEnter (k : DieIx) (i : StrandIx) (s : State) : State :=
  match (s.strand k i).toLim with
  | [] => s
  | b :: rest =>
    let e := if b.valid then energy b.xs else 0
    let s := s.modStrand k i fun t => { t with toLim := rest, latest := some e, inLim := t.inLim ++ [⟨b, 0⟩] }
    match gatePort s k i with
    | none => s
    | some p =>
      let l := limStrands s k p
      let sum := l.foldl (fun a j => a + ((s.strand k j).latest).getD 0) 0
      let r := limR sum (pLim s k p)
      s.each l fun j s => s.modStrand k j fun t => { t with inLim := t.inLim.map fun x => { x with r := max x.r r } }

/-- A block scaled by an amplitude factor for each sample, with its probe part (R120, R112, 04_feedback_cancellation.md
R137). -/
def Block.scaled (b : Block) (f : Nat → Nat) : Block :=
  { b with xs := b.xs.zipIdx.map fun x => x.1.gain (f x.2),
           pr := b.pr.zipIdx.map fun x => roundDiv (x.1 * f x.2) (2 ^ 96) }

/-- The step of the gate's ramp, of M_r, that sample j of a block has when the block meets the gate at step `from_`: once
per sample towards 0 dB or towards -60 dB (R112). -/
def gateStep (open_ : Bool) (m from_ j : Nat) : Nat := if open_ then min m (from_ + j + 1) else from_ - (j + 1)

/-- The gate over a block: the block that leaves it and the step that it has reached. It ramps linearly in dB from its
present value, over 60 dB in M_r steps; an invalid block passes unchanged while the ramp goes on (R112, R124), and once a
stop has muted, zeros leave (R102). -/
def gateBlock (s : State) (k : DieIx) (i : StrandIx) (b : Block) : Block × Nat :=
  let t := s.strand k i
  let m := gateSteps (rdlH s k i)
  let open_ := muteBits s k i == 0
  let step := gateStep open_ m t.gate
  let out : Block :=
    if !b.valid || (open_ && decide (m ≤ t.gate)) then b
    else if t.st = .stopping then
      b.scaled fun j => if step j = 0 then 0 else dbAmp (-60 * ((m - step j : Nat) : Int)) m
    else b.scaled fun j => dbAmp (-60 * ((m - step j : Nat) : Int)) m
  (out, step 63)

/-- The chips of a block that count in the correlation: those that left the gate at 0 dB in a valid block
(04_feedback_cancellation.md R139), newest first; 0 for each other sample. -/
def sentParts (s : State) (k : DieIx) (i : StrandIx) (b : Block) : List Int :=
  let t := s.strand k i
  let m := gateSteps (rdlH s k i)
  let step := gateStep (muteBits s k i == 0) m t.gate
  ((List.range 64).map fun j => if b.valid && step j == m then (b.pr[j]?).getD 0 else 0).reverse

/-- The transmit chain on a block for a port (02_converters_riddle.md R58, R69, 08_radio_control.md R292, R298): the factor
of the port on each sample at the DAC input; whether one of them saturates at the DAC is a free value, since
the spec gives no response of the fixed stages. -/
def dacSamples (k : DieIx) (i : StrandIx) (b : Block) (s : State) : State :=
  if outKind s k i = 1 then
    let p : PortIx := Fin.ofNat 4 (outPort s k i)
    let r := txBlock s k i b
    let xs := r.1.zipIdx.map fun x => x.1.gain (dacFactor s k p (s.time.ft + samplesNs (rdlH s k i) x.2))
    let s := (s.modRid k i fun q => { q with txFir := r.2 }).modStrand k i fun t => { t with tx := xs }
    if energy xs ≠ 0 then
      (s.modConv k p fun c => { c with dacClip := c.dacClip || Config.free s.freeCtr % 2 == 1 }).tick
    else s
  else s

/-- The block at the gate passes it: meter point OUT, the power for P_ref, the chips that left, and the way to the DAC or
to a stream endpoint (R112, R116, 04_feedback_cancellation.md R137 to R139). -/
def gatePass (k : DieIx) (i : StrandIx) (s : State) : State :=
  match (s.strand k i).atGate with
  | none => s
  | some b =>
    let g := gateBlock s k i b
    let parts := sentParts s k i g.1
    let s := s.modStrand k i fun t =>
      { t with gate := g.2, atGate := none, toGate := if outKind s k i = 2 then [g.1] else [],
               meter := { t.meter with accOut := t.meter.accOut.block g.1 } }
    let s := s.modCanc k i fun c =>
      { c with sent := (parts ++ c.sent).take 36862,
               outSum := if g.1.valid then c.outSum + energy g.1.xs else c.outSum,
               outPr := if g.1.valid then c.outPr + probeEnergy g.1.pr else c.outPr,
               outN := if g.1.valid then c.outN + g.1.xs.length else c.outN }
    dacSamples k i g.1 s

/-- A block leaves the limiter with its reduction (R120) and enters the release buffer, which holds two; the block that
has been in it for two blocks comes to the gate, and the one there before has passed it. -/
def limiterLeave (k : DieIx) (i : StrandIx) (s : State) : State :=
  match (s.strand k i).inLim with
  | [] => s
  | x :: rest =>
    let red := max x.r ((s.strand k i).lastRed - 50)
    let out := if red = 0 ∨ x.blk.valid = false then x.blk else x.blk.scaled fun _ => dbAmp (-(red : Int)) 100
    let s := gatePass k i s
    let s := s.modStrand k i fun t =>
      { t with inLim := rest, lastRed := red,
               atGate := if 2 ≤ t.release.length then t.release.head? else none,
               release := (if 2 ≤ t.release.length then t.release.drop 1 else t.release) ++ [out] }
    match gatePort s k i with
    | some p => s.modLim k p fun l =>
        { l with red := red, maxRed := max l.maxRed red,
                 count := if red = 0 then l.count else satInc 0xFFFFFFFF l.count }
    | none => s

/-! ## Parity (R123, R125) -/

/-- Spoiling the first block of a list. -/
def spoilHead : List Block → List Block
  | [] => []
  | b :: l => b.spoil :: l

/-- A parity error at a stage: 0 before point IN or in a stake stream lane, 1 the level stage, 2 the limiter's input, 3
the limiter, 4 the release buffer, whose block there becomes zeros that are not valid, and 5 the transmit chain, which
replaces the rest of its block with zeros (R122, R123). -/
def parityError (k : DieIx) (i : StrandIx) (stage at_ : Nat) (s : State) : State :=
  let s := s.modStrand k i fun t => { t with parErr := satInc 0xFFFF t.parErr }
  let s := match stage with
    | 0 => s.modRid k i fun r => { r with ecc := true }
    | 1 => s.modStrand k i fun t => { t with toLevel := spoilHead t.toLevel }
    | 2 => s.modStrand k i fun t => { t with toLim := spoilHead t.toLim }
    | 3 => s.modStrand k i fun t =>
        { t with inLim := match t.inLim with | [] => [] | x :: l => { x with blk := x.blk.spoil } :: l }
    | 4 => s.modStrand k i fun t =>
        match t.atGate with
        | some b => { t with atGate := some b.spoil }
        | none => { t with release := spoilHead t.release }
    | _ => s.modStrand k i fun t => { t with tx := t.tx.zipIdx.map fun x => if at_ ≤ x.2 then Cx.zero else x.1 }
  raisePulse (srcOfDie k 3) (strandUnit i) s

end Sys2Proof.Machine
end

