-- ==== Sys2Proof/Machine/GuardOps.lean ====
section
/-!
DEFINITION. Machine/GuardOps.lean: the oscillation guard: windows, criteria, trips, recovery and lockout
(04_feedback_cancellation.md R160 to R172).
-/
namespace Sys2Proof.Machine
open Sys2Proof

/-- GRD_CFG and GRD_RECOV fields. -/
def grdRun (s : State) (k : DieIx) (i : StrandIx) : Nat := fld (s.cfg2 .GRD_CFG k i) 30 28
def grdGrow (s : State) (k : DieIx) (i : StrandIx) : Nat := fld (s.cfg2 .GRD_CFG k i) 14 11

/-- Whether a strand's gate factor is above -60 dB: above the foot of its ramp, or ramping up (R161). -/
def gateOpening (s : State) (k : DieIx) (i : StrandIx) : Bool := decide (0 < (s.strand k i).gate) || muteBits s k i == 0

/-! ## A window (R160 to R162) -/

/-- Σ a conj(b). -/
def crossSum (a b : List Cx) : Cx := (a.zip b).foldl (fun (t : Cx) x => t.add (x.1.mul x.2.conj)) ⟨0, 0⟩

/-- The Hann window of 128 points in 2^-30: (1 - cos(2π n / 128)) / 2, or over 127 where it is the symmetric one. -/
def hann (n : Nat) : Int :=
  let d := if Config.hannPeriodic then 128 else 127
  roundDiv (2 ^ 96 - (cosSin (n * 2 ^ 32 / d)).1) (2 ^ 67)

/-- Samples under the Hann window. -/
def hannSamples (xs : List Cx) : List Cx := xs.zipIdx.map fun x => x.1.scale (hann x.2)

/-- |X_b|² of the 128-point transform. -/
def dftPower (xs : List Cx) (b : Nat) : Nat :=
  (xs.zipIdx.foldl (fun (a : Cx) x =>
    let t := cosSin (b * x.2 % 128 * 2 ^ 25)
    a.add (x.1.mul ⟨t.1 / 2 ^ 64, -(t.2 / 2 ^ 64)⟩)) ⟨0, 0⟩).norm

/-- The peak bin, its power and the power of all bins; the first of equal bins. -/
def dftPeak (xs : List Cx) : Nat × Nat × Nat :=
  let h := hannSamples xs
  (List.range 128).foldl (fun (m : Nat × Nat × Nat) b =>
    let p := dftPower h b
    if m.2.1 < p then (b, p, m.2.2 + p) else (m.1, m.2.1, m.2.2 + p)) (0, 0, 0)

/-- What a window of samples in 2^-21 codes yields. -/
def windowOf (g : Guard) : GuardWin :=
  let es := g.xs.take 128
  let ys := g.ys.take 128
  let d := if energy es = 0 then (0, 0, 0) else dftPeak es
  { live := g.liveNow, pe := energy es, py := energy ys, cross := (crossSum es ys).norm, bin := d.1, peak := d.2.1,
    total := d.2.2, ovr := g.ovr }

/-- P_e of a window in 0.01 dBFS. -/
def winPower (w : GuardWin) : Int := dbfsIn (2 ^ 42) w.pe 128

/-- Whether the loop was live at the j-th last window (R161). -/
def winLive (l : List GuardWin) (run j : Nat) : Bool := ((l.drop j).take (run + 1)).any (·.live)

/-- Whether a power grew by at least g steps of 0.5 dB. -/
def grew (a b g : Nat) : Bool :=
  if b = 0 then decide (0 < a) else decide (b ^ (20 : Nat) * (10 : Nat) ^ g ≤ a ^ (20 : Nat))

/-- The same for P_e, where a window of zeros counts as -200.00 dBFS, which is 2^78 × 10^-20 here. -/
def grewLevel (a b g : Nat) : Bool :=
  if b = 0 then decide ((2 ^ 78) ^ (20 : Nat) * (10 : Nat) ^ g ≤ (a * (10 : Nat) ^ 20) ^ (20 : Nat)) else grew a b g

/-- ρ ≥ thr / 256, and the estimate's power at least -70 dBFS. -/
def correlates (w : GuardWin) (thr : Nat) : Bool :=
  decide (0 < w.pe * w.py ∧ thr * thr * (w.pe * w.py) ≤ w.cross * 65536 ∧ 128 * 2 ^ 71 ≤ w.py * (10 : Nat) ^ (7 : Nat))

/-- PAR ≥ thr dB. -/
def peaks (w : GuardWin) (thr : Nat) : Bool :=
  decide (0 < w.peak ∧ (w.total - w.peak) ^ (10 : Nat) * (10 : Nat) ^ thr ≤ (127 * w.peak) ^ (10 : Nat))

/-- Whether two bins of 128 are at most one apart, around the circle. -/
def binNear (a b : Nat) : Bool := decide ((a + 128 - b) % 128 ≤ 1 ∨ (b + 128 - a) % 128 ≤ 1)

/-- Whether the bins of a list move by at most one each time. -/
def binsNear : List GuardWin → Bool
  | a :: b :: l => binNear a.bin b.bin && binsNear (b :: l)
  | _ => true

/-- Criterion 1 on the windows, newest first. -/
def crit1 (s : State) (k : DieIx) (i : StrandIx) (l : List GuardWin) : Bool :=
  let run := grdRun s k i
  let thr := fld (s.cfg2 .GRD_CFG k i) 27 20
  match l.head?, l[run]? with
  | some w, some o =>
    (List.range run).all (fun j => winLive l run j && (match l[j]? with | some x => correlates x thr | none => false)) &&
      grewLevel w.pe o.pe (grdGrow s k i)
  | _, _ => false

/-- Criterion 2. -/
def crit2 (s : State) (k : DieIx) (i : StrandIx) (l : List GuardWin) : Bool :=
  let run := grdRun s k i
  let thr := fld (s.cfg2 .GRD_CFG k i) 19 15
  match l.head?, l[run]? with
  | some w, some o =>
    (List.range run).all (fun j => winLive l run j && (match l[j]? with | some x => peaks x thr | none => false)) &&
      binsNear (l.take run) && grew w.peak o.peak (grdGrow s k i)
  | _, _ => false

/-- Criterion 3. -/
def crit3 (s : State) (k : DieIx) (i : StrandIx) (l : List GuardWin) : Bool :=
  let w := s.cfg2 .GRD_CFG k i
  let run := grdRun s k i
  match l with
  | a :: b :: _ => bit w 31 && decide (fld w 3 0 ≤ a.ovr ∧ fld w 3 0 ≤ b.ovr) && winLive l run 0 && winLive l run 1
  | _ => false

/-- The lowest criterion that holds at the newest window, 0 for none (R162, R169). -/
def criterion (s : State) (k : DieIx) (i : StrandIx) (l : List GuardWin) : Nat :=
  if crit1 s k i l then 1
  else if crit2 s k i l then 2
  else if crit3 s k i l then 3
  else if (s.guard k i).prog && winLive l (grdRun s k i) 0 then 4
  else 0

/-- 256 ρ rounded, at most 255. -/
def rhoMon (w : GuardWin) : Nat :=
  if w.pe * w.py = 0 then 0 else min 255 ((isqrt 16 (4 * 65536 * w.cross / (w.pe * w.py)) + 1) / 2)

/-- PAR in dB, rounded to nearest (R610), 0 to 255: how many of the levels 0.5, 1.5, ... 254.5 dB it reaches. -/
def parMon (w : GuardWin) : Nat :=
  if w.peak = 0 then 0
  else if w.total = w.peak then 255
  else (List.range 255).countP fun (n : Nat) => dbAtLeast (127 * w.peak) (w.total - w.peak) (100 * n + 50)

/-! ## Trips (R164 to R169) -/

/-- The address of GRD_STAT. -/
def addrGrdStat (k : DieIx) (i : StrandIx) : Nat := keyAddr ⟨.GRD_STAT, k.val, i.val, 0⟩

/-- Recording a change of PHASE with origin 4 (R171). -/
def grdTally (k : DieIx) (i : StrandIx) (old new : GuardPhase) (s : State) : State :=
  tallyAuto (addrGrdStat k i) (BitVec.ofNat 32 old.num) (BitVec.ofNat 32 new.num) s

/-- The trips within the last TRIP_WIN seconds (R167). -/
def tripsNow (s : State) (k : DieIx) (i : StrandIx) : List Nat :=
  (s.guard k i).trips.filter fun t => decide (s.time.ft < t + fld (s.cfg2 .GRD_RECOV k i) 23 16 * 10 ^ 9)

/-- The lockout (R167). -/
def lockout (k : DieIx) (i : StrandIx) (g : List StrandIx) (s : State) : State :=
  let n := (tripsNow s k i).length
  let s := s.each g (strandStop k)
  let s := grdTally k i .muted .locked (s.modGuard k i fun q => { q with phase := .locked })
  skeinEvent (locOf (dieNum k) (strandUnit i)) 1 6 (pack [(1, n)]) s

/-- A trip of a guard by a criterion (R164). The cap of the group comes down to the guard cap at once, before any
computation by R155 (DEDUCED, notes/assumptions/130.md). A restart that SOUND_REQ asked for merges with the re-sounding (R143,
R169); one that a change of polynomial needs stays. -/
def guardTrip (k : DieIx) (i : StrandIx) (crit : Nat) (s : State) : State :=
  let g := groupOf s k i
  let old := (s.guard k i).phase
  let top := (maxGapp s k (sendersOf s k g)).getD 0
  let gc := match groupGcap s k g with
    | some x => if g.any fun j => (s.canc k j).pathCap then min x (top - 120) else top - 120
    | none => top - 120
  let s := s.each g fun j s => s.modStrand k j fun t => { t with m25 := true }
  let change := (sendersOf s k g).any fun j => (s.canc k j).polyWait
  let s := s.each (receiversOf s k g) fun j s => s.modCanc k j fun q => { q with restart := q.restart && change }
  let s := s.each (receiversOf s k g) fun j s =>
    restartAveraging k j (s.modGuard k j fun q =>
      if q.phase = .locked then q
      else { q with phase := .muted, muted := 0, hold := fld (s.cfg2 .GRD_RECOV k j) 15 0, restore := true, lastCrit := if j = i then crit else 5 })
  let s := s.each g fun j s => s.modCanc k j fun q => { q with gcap := some gc, cap := q.cap.map (min gc) }
  let s := checkBroken k g s
  let s := s.modGuard k i fun q =>
    { q with tripped := true, count := satInc 0xFFFFFFFF q.count, trips := s.time.ft :: tripsNow s k i }
  let s := raisePulse (srcOfDie k 2) (strandUnit i) s
  let s := grdTally k i old .muted s
  let s := skeinEvent (locOf (dieNum k) (strandUnit i)) 1 5 (pack [(1, crit), (2, enc 12 top), (2, enc 12 gc)]) s
  if fld (s.cfg2 .GRD_RECOV k i) 27 24 ≤ (tripsNow s k i).length then lockout k i g s else s

/-- The end of a guard window (R160 to R163, R169). -/
def guardWindowEnd (k : DieIx) (i : StrandIx) (s : State) : State :=
  let g := s.guard k i
  if g.xs.length < 128 then s
  else
    let w := windowOf g
    let l := (w :: g.wins).take 16
    let c := criterion s k i l
    let growth : Int := match l[grdRun s k i]? with
      | some o => winPower w - winPower o
      | none => signed 16 (Config.free s.freeCtr)
    let acts := (receiversOf s k (groupOf s k i)).contains i && closesLoop s k (groupOf s k i)
    let s := s.tick.modGuard k i fun q =>
      { q with wins := l, xs := q.xs.drop 128, ys := q.ys.drop 128, ovr := 0, liveNow := false, prog := false }
    let s :=
      if acts && winLive l (grdRun s k i) 0 then
        s.modGuard k i fun q => { q with rho := rhoMon w, par := parMon w, growth := growth }
      else s
    if c = 0 ∨ acts = false then s
    else match g.phase with
      | .armed | .sounding => guardTrip k i c s
      | .muted =>
        if g.lastCrit = 5 ∧ g.muted < 2 then s.modGuard k i fun q => { q with lastCrit := c } else s
      | .locked => s

/-- The checkpoint comes back at the block boundary after a trip; a placement of that boundary is discarded (R164,
R169). -/
def checkpointRestore (k : DieIx) (i : StrandIx) (s : State) : State :=
  if (s.guard k i).restore then
    let s := s.modGuard k i fun q => { q with restore := false }
    s.modCanc k i fun c =>
      { c with place := none, slots := match c.ckpt with | some t => t | none => c.slots }
  else s

/-- The end of MUTED (R165). A GRD_RECOV written since the trip can lengthen HOLD and not shorten it (R168). -/
def guardHoldEnd (k : DieIx) (i : StrandIx) (s : State) : State :=
  let q := s.guard k i
  let g := groupOf s k i
  let low : Bool := match (s.canc k i).gcap, maxGapp s k (sendersOf s k g) with
    | some c, some m => decide (m ≤ c)
    | _, _ => true
  if q.phase = .muted ∧ max q.hold (fld (s.cfg2 .GRD_RECOV k i) 15 0) ≤ q.muted ∧ low then
    let s := s.modGuard k i fun q => { q with phase := .sounding }
    let s := restartAveraging k i (s.modCanc k i fun c => { c with reqPending := true })
    if g.any fun j => (s.guard k j).phase == .muted then s
    else s.each g fun j s => s.modStrand k j fun t => { t with m25 := false }
  else s

/-- Trips older than TRIP_WIN leave WIN_TRIPS (R167). -/
def winTripsExpire (k : DieIx) (i : StrandIx) (s : State) : State :=
  let l := tripsNow s k i
  s.modGuard k i fun q => { q with trips := l }

/-- A trip raised by the strand's program (R168, R169, 07_withy_reference.md R282): ignored while MUTED. -/
def programTrip (k : DieIx) (i : StrandIx) (s : State) : State :=
  s.modGuard k i fun q => if q.phase = .muted ∨ q.phase = .locked then q else { q with prog := true }

/-- A block's residual and estimate enter the window; blocks since a trip count (R160, R165). -/
def guardBlock (k : DieIx) (i : StrandIx) (ovr : Nat) (s : State) : State :=
  let c := s.canc k i
  let open_ := (sendersOf s k (groupOf s k i)).any (gateOpening s k)
  s.modGuard k i fun q =>
    { q with xs := q.xs ++ c.e, ys := q.ys ++ c.yhat, ovr := q.ovr + ovr, liveNow := q.liveNow || open_,
             muted := if q.phase = .muted then q.muted + 1 else q.muted }

/-- GRD_STAT. -/
def grdStat (s : State) (k : DieIx) (i : StrandIx) : Word :=
  let q := s.guard k i
  mkWord [(27, 24, min 15 (tripsNow s k i).length), (18, 16, q.lastCrit), (2, 2, b2n q.tripped), (1, 0, q.phase.num)]

/-- GRD_MON, also what GMON returns. -/
def grdMon (s : State) (k : DieIx) (i : StrandIx) : Word :=
  let q := s.guard k i
  mkWord [(31, 24, q.rho), (23, 16, q.par), (15, 0, enc 16 q.growth)]

end Sys2Proof.Machine
end

