-- ==== Sys2Proof/Machine/NetOps.lean ====
section
/-!
DEFINITION. Machine/NetOps.lean: uplink gating, near-site backoff, presence, TDD timing, duty, lean relay and changes of
the regulatory record (05_network_protection.md).
-/
namespace Sys2Proof.Machine
open Sys2Proof

/-! ## Uplink gating (R175 to R179) -/

/-- UG_CFG fields. -/
def ugThr (s : State) (k : DieIx) (i : StrandIx) : Int := sfld (s.cfg2 .UG_CFG k i) 15 0
def ugHold (s : State) (k : DieIx) (i : StrandIx) : Nat := fld (s.cfg2 .UG_CFG k i) 25 16 * 500000
def ugKeep (s : State) (k : DieIx) (i : StrandIx) : Nat := fld (s.cfg2 .UG_CFG k i) 30 26

/-- Whether gating applies to a strand that runs (R175). -/
def gated (s : State) (k : DieIx) (i : StrandIx) : Bool :=
  isRunning s k i && isUplink i && bit (s.cfg2 .UG_CFG k i) 31

/-- Whether a strand counts as CLOSED for a lean group: KEEP does not count as leaving CLOSED (R199, R201). -/
def ugShut (s : State) (k : DieIx) (i : StrandIx) : Bool :=
  bit (s.cfg2 .UG_CFG k i) 31 && (s.prot k i).ug != .opened

/-- Changing a lean group. -/
def State.modLean (s : State) (k : DieIx) (g : Fin 4) (f : LeanGroup → LeanGroup) : State :=
  s.modDie k fun d => { d with lean := vmod d.lean g f }

/-- An uplink strand that leaves CLOSED returns its lean groups to FULL (R201). -/
def leanFull (k : DieIx) (i : StrandIx) (s : State) : State :=
  s.each (List.finRange 4) fun g s =>
    if bit (s.cfg2 .LEAN_MASK k g) i.val then s.modLean k g fun x => { x with lean := false } else s

/-- Entering OPEN (R177, R178). -/
def ugOpen (k : DieIx) (i : StrandIx) (s : State) : State :=
  if (s.prot k i).ug = .opened then s.modProt k i fun p => { p with since := s.time.ft }
  else leanFull k i (s.modProt k i fun p =>
    { p with ug := .opened, since := s.time.ft, keepPeriods := 0, openings := satInc 0xFFFF p.openings })

/-- Entering CLOSED (R177, R179). -/
def ugClose (k : DieIx) (i : StrandIx) (s : State) : State :=
  s.modProt k i fun p => { p with ug := .closed, since := s.time.ft, keepPeriods := 0 }

/-- The activity level of a valid block: its energy and the energy at 0 dBFS (R176). -/
def activity (s : State) (k : DieIx) (i : StrandIx) (b : Block) : Nat × Nat :=
  let g := groupOf s k i
  if (receiversOf s k g).contains i then (energy (s.canc k i).e, 64 * 2 ^ 29 * 2 ^ 42)
  else (energy b.xs, 64 * 2 ^ 29)

/-- Gating on a block at point IN (R177). -/
def ugBlock (k : DieIx) (i : StrandIx) (b : Block) (s : State) : State :=
  if gated s k i && b.valid then
    let a := activity s k i b
    if dbAtLeast a.1 a.2 (ugThr s k i) then ugOpen k i s
    else if (s.prot k i).ug == .opened && dbAtLeast a.1 a.2 (ugThr s k i - 300) then
      s.modProt k i fun p => { p with since := s.time.ft }
    else s
  else s

/-- The hold has expired (R177). -/
def ugHoldExpired (k : DieIx) (i : StrandIx) (s : State) : State :=
  if gated s k i && (s.prot k i).ug == .opened && decide ((s.prot k i).since + ugHold s k i ≤ s.time.ft) then ugClose k i s
  else s

/-- The keep-alive interval has ended (R179). -/
def ugKeepStart (k : DieIx) (i : StrandIx) (s : State) : State :=
  if gated s k i && (s.prot k i).ug == .closed && ugKeep s k i != 0 &&
      decide ((s.prot k i).since + ugKeep s k i * 10 ^ 10 ≤ s.time.ft) then
    s.modProt k i fun p => { p with ug := .keep, since := s.time.ft, keepPeriods := 0 }
  else s

/-- A probe period of a strand in KEEP has ended. -/
def keepPeriod (k : DieIx) (i : StrandIx) (s : State) : State :=
  if (s.prot k i).ug = .keep then s.modProt k i fun p => { p with keepPeriods := p.keepPeriods + 1 } else s

/-- Two probe periods have ended in KEEP (R177). -/
def ugKeepEnd (k : DieIx) (i : StrandIx) (s : State) : State :=
  if gated s k i && (s.prot k i).ug == .keep && decide (2 ≤ (s.prot k i).keepPeriods) then ugClose k i s else s

/-- HOLD_LEFT in 0.5 ms, rounded to nearest. -/
def holdLeft (s : State) (k : DieIx) (i : StrandIx) : Nat :=
  if (s.prot k i).ug = .opened then
    (roundDiv (((s.prot k i).since + ugHold s k i - s.time.ft : Nat) : Int) 500000).toNat
  else 0

/-! ## Backoff (R180 to R182) -/

/-- b_t of a valid block in 0.05 dB: rounded up, at most 40.00 dB. -/
def backoffTarget (e : Nat) (thr : Int) : Nat :=
  let x := (if e = 0 then -20000 else db100Up e (64 * 2 ^ 29)) - thr
  min 800 ((x.toNat + 4) / 5)

/-- Backoff on a block at point IN (R181). The hold counts in 1/768 ns, where 10 ms is 7 680 000 000 and a block
200 000 × 2^(h-1). -/
def backoffBlock (k : DieIx) (i : StrandIx) (b : Block) (s : State) : State :=
  let w := s.cfg2 .BO_CFG k i
  if isUplink i || !bit w 31 || !b.valid then s
  else
    let bt := backoffTarget (energy b.xs) (sfld w 15 0)
    s.modProt k i fun p =>
      if p.b ≤ bt then { p with bt := bt, b := bt, hold := fld w 30 24 * 7680000000 }
      else if 0 < p.hold then { p with bt := bt, hold := p.hold - 200000 * 2 ^ (rdlH s k i - 1) }
      else { p with bt := bt, b := max bt (p.b - 1) }

/-! ## Presence (R184 to R188) -/

/-- The subjects of a list. -/
def subjects (s : State) (k : DieIx) (e : Fin 8) : List StrandIx := allStrands.filter fun i => subjectOf s k i == some e

/-- The address of PROT_STAT. -/
def addrProt (k : DieIx) (i : StrandIx) : Nat := keyAddr ⟨.PROT_STAT, k.val, i.val, 0⟩

/-- A stop that the device makes by itself, with its Tally record (R213). -/
def autoStop (k : DieIx) (i : StrandIx) (s : State) : State :=
  let a := (s.strand k i).st
  let t := strandStop k i s
  let b := (t.strand k i).st
  if a = b then s else tallyAuto (addrProt k i) (BitVec.ofNat 32 a.num) (BitVec.ofNat 32 b.num) t

/-- A trigger by the schedule (R186): the time of the next check has come. -/
def presTrigger (k : DieIx) (e : Fin 8) (late : Nat) (s : State) : State :=
  let l := (s.dies[k]).lists[e]
  match l.due with
  | some t =>
    if t + late ≤ s.time.ft ∧ l.waiting.isNone ∧ l.running.isNone ∧ l.st ≠ .idle ∧ l.st ≠ .absent then
      s.modList k e fun l => { l with waiting := some s.time.ft, due := none }
    else s
  | none => s

/-- A miss (R186, R188, R214). -/
def presMiss (k : DieIx) (e : Fin 8) (s : State) : State :=
  let l := (s.dies[k]).lists[e]
  let n := min 3 (l.misses + 1)
  let s := skeinEvent (locOf (dieNum k) e) 2 2 (pack [(1, n)]) s
  if 3 ≤ n then
    let subs := subjects s k e
    let s := s.modList k e fun l =>
      { l with st := .absent, misses := n, waiting := none, running := none, due := none, found := false }
    let s := skeinEvent (locOf (dieNum k) e) 2 1 (pack [(1, n)]) s
    s.each subs (autoStop k)
  else
    let wait := if l.found then 60 * 10 ^ 9 else 5 * 10 ^ 9
    s.modList k e fun l => { l with st := .missing, misses := n, running := none, due := some (s.time.ft + wait) }

/-- A check that the scan receiver has not started within 2 s of its trigger (R185). -/
def presTimeout (k : DieIx) (e : Fin 8) (s : State) : State :=
  match ((s.dies[k]).lists[e]).waiting with
  | some t =>
    if t + 2 * 10 ^ 9 ≤ s.time.ft then presMiss k e (s.modList k e fun l => { l with waiting := none }) else s
  | none => s

/-- The first identity of a list that a detected cell matches: the same RAT and PCI, with a SINR of at least -6 dB
(in 0.1 dB; R185). -/
def presMatch (s : State) (k : DieIx) (e : Fin 8) (cells : List (Bool × Int × Nat)) : Option Nat :=
  (List.range 32).find? fun n =>
    let w := s.cfg3 .PRES_ID k e n
    bit w 31 && cells.any fun c => c.1 == bit w 30 && c.2.2 == fld w 9 0 && decide (-60 ≤ c.2.1)

/-- A completed check (R185 to R187): the cells that it decoded. -/
def presDone (k : DieIx) (e : Fin 8) (cells : List (Bool × Int × Nat)) (s : State) : State :=
  let l := (s.dies[k]).lists[e]
  match l.running with
  | none => s
  | some t0 =>
    let s := s.modList k e fun l => { l with checks := (l.checks + 1) % 2 ^ 16, running := none }
    match presMatch s k e cells with
    | none => presMiss k e s
    | some n =>
      let s := s.modList k e fun l =>
        { l with st := .present, misses := 0, lastId := n, found := true, due := some (s.time.ft + 60 * 10 ^ 9) }
      s.each (subjects s k e) fun i s =>
        if (s.prot k i).presSince ≤ t0 then s.modStrand k i fun t => { t with m28 := false } else s

/-! ## TDD (R189 to R197) -/

/-- Changing the TDD state of a die. -/
def State.modTdd (s : State) (k : DieIx) (f : Tdd → Tdd) : State := s.modDie k fun d => { d with tdd := f d.tdd }

/-- The staged pattern. -/
def stagedPattern (s : State) (k : DieIx) : Pattern :=
  { cfg := s.cfg1 .TDD_CFG k, slots0 := s.cfg2 .TDD_SLOTS k 0, slots1 := s.cfg2 .TDD_SLOTS k 1,
    slots2 := s.cfg2 .TDD_SLOTS k 2, adv := fld (s.cfg1 .TDD_ADV k) 15 0, dl0 := none, dl1 := none, ul0 := none,
    ul1 := none }

/-- APPLY of TDD_ADV (R195, R196). -/
def tddApply (k : DieIx) (s : State) : Code × State :=
  let q := latchPattern s k none (stagedPattern s k)
  if bit q.cfg 31 then
    let f := patternFault s k none q
    if f ≠ 0 then (.badProgram, s.modTdd k fun t => { t with fault := f })
    else (.ok, s.modTdd k fun t =>
      { t with fault := 0, active := some (match t.active with | some a => a | none => q),
               next := match t.active with | some _ => some q | none => none })
  else (.ok, s.modTdd k fun t => { t with active := none, next := none, fault := 0 })

/-- The pattern period in ns. -/
def Pattern.period (q : Pattern) : Nat := match tddPeriod (fld q.cfg 28 25) with | some p => 100 * p | none => 0

/-- The distance between two frame starts, modulo the period, between -half and half of it. -/
def frameShift (p a b : Nat) : Int :=
  if p = 0 then (b : Int) - a else (((b : Int) - a + p / 2) % p) - (p / 2 : Nat)

/-- A pattern boundary (R191, R196): a waiting pattern becomes active, a correction applies. -/
def tddBoundary (k : DieIx) (s : State) : State :=
  let t := (s.dies[k]).tdd
  let period := match t.active with | some q => q.period | none => 0
  let s := match t.next with
    | some q => s.modTdd k fun t => { t with active := some q, next := none }
    | none => s
  match t.corr with
  | none => s
  | some f =>
    let big := decide (500 < (frameShift period t.frame f).natAbs)
    let s := s.modTdd k fun t => { t with frame := f, corr := none, jump := t.jump || big }
    if big then skeinEvent (locOf (dieNum k) 0) 2 5 0 s else s

/-- HOLDOVER seconds after the last detection (R191). -/
def tddLapse (k : DieIx) (s : State) : State :=
  let t := (s.dies[k]).tdd
  match t.lastDet with
  | some d =>
    if t.valid ∧ d + fld (s.cfg1 .TDD_SYNC k) 31 28 * 10 ^ 9 ≤ s.time.ft then
      skeinEvent (locOf (dieNum k) 0) 2 3 0 (s.modTdd k fun t => { t with valid := false })
    else s
  | none => s

/-- The lowest TDD entry of a die (R191). -/
def tddEntry (s : State) (k : DieIx) : Option (Fin 8) :=
  if regValid s then (List.finRange 8).find? fun e => (activeEntry s k e.val).valid && (activeEntry s k e.val).tdd
  else none

/-- Whether a burst at a frequency and donor port is that of a presence list. -/
def burstOf (s : State) (k : DieIx) (e : Fin 8) (freq : Nat) (port : Fin 2) : Bool :=
  let w := s.cfg2 .PRES_CFG k e
  fld w 22 0 == freq && b2n (bit w 30) == port.val

/-- A detected burst offered to the TDD timing (R191): the first one sets the frame, or one without an active pattern; each
other corrects it at the next pattern boundary. -/
def tddBurst (k : DieIx) (freq : Nat) (port : Fin 2) (t : Nat) (s : State) : State :=
  match tddEntry s k with
  | none => s
  | some e =>
    if burstOf s k e freq port then
      let x := (s.dies[k]).tdd
      let f := t - fld (s.cfg1 .TDD_SYNC k) 23 0
      let wait := x.lastDet.isSome && x.active.isSome
      let s := s.modTdd k fun x =>
        { x with valid := true, lastDet := some s.time.ft, corr := if wait then some f else none,
                 frame := if wait then x.frame else f }
      if !x.valid && x.lastDet.isSome then skeinEvent (locOf (dieNum k) 0) 2 4 0 s else s
    else s

/-- SYNC_AGE in 10 ms. -/
def syncAge (s : State) (k : DieIx) : Nat :=
  match ((s.dies[k]).tdd).lastDet with
  | some d => min 0xFFFF ((s.time.ft - d + 5000000) / 10000000)
  | none => 0xFFFF

/-! ## Lean relay (R198 to R201) -/

/-- LEAN_CFG.PERIOD and WINDOW in ns. -/
def leanPeriod (s : State) (k : DieIx) (g : Fin 4) : Nat := 5000000 * 2 ^ fld (s.cfg2 .LEAN_CFG k g) 26 24
def leanWindow (s : State) (k : DieIx) (g : Fin 4) : Nat := 100000 * fld (s.cfg2 .LEAN_CFG k g) 7 0

/-- The downlink and uplink strands of a group. -/
def leanDown (s : State) (k : DieIx) (g : Fin 4) : List StrandIx :=
  allStrands.filter fun i => !isUplink i && bit (s.cfg2 .LEAN_MASK k g) i.val
def leanUp (s : State) (k : DieIx) (g : Fin 4) : List StrandIx :=
  allStrands.filter fun i => isUplink i && bit (s.cfg2 .LEAN_MASK k g) i.val

/-- The slowest downlink strand of a group, the first of equals. -/
def leanSlow (s : State) (k : DieIx) (g : Fin 4) : Option StrandIx :=
  (leanDown s k g).foldl (fun (m : Option StrandIx) i =>
    match m with
    | none => some i
    | some j => if rdlH s k j < rdlH s k i then some i else m) none

/-- The time by which LEAN is left ahead of a burst, in ns: n + 1 blocks and 20 µs (R200). -/
def leanLead (s : State) (k : DieIx) (g : Fin 4) : Nat :=
  match leanSlow s k g with
  | none => 20000
  | some i =>
    let ramp := fld (s.cfg2 .GAIN_CFG k i) 9 0
    let depth := 20 * fld (s.cfg2 .LEAN_CFG k g) 20 16
    let n := if ramp = 0 then 0 else (depth + ramp - 1) / ramp
    20000 + samplesNs (rdlH s k i) (64 * (n + 1)) + 1

/-- The largest latency of the group's downlink strands in ns, rounded up. -/
def leanLmax (s : State) (k : DieIx) (g : Fin 4) : Nat :=
  ((leanDown s k g).foldl (fun m i => max m (strLat s k i)) 0 + 9) / 10

/-- Whether the present time lies between the window that ended, with an extra wait, and the lead before the next one; no
while the burst timing is not valid (R199, R200). -/
def leanOutside (s : State) (k : DieIx) (g : Fin 4) (extra : Nat) : Bool :=
  match ((s.dies[k]).lean[g]).burst with
  | none => false
  | some b =>
    let p := leanPeriod s k g
    let pos := (s.time.ft - b) % p
    decide (s.time.ft < b + 75 * 10 ^ 9) &&
      decide (leanWindow s k g + 20000 + extra ≤ pos ∧ pos + leanLead s k g < p)

/-- Entering LEAN (R199). -/
def leanEnter (k : DieIx) (g : Fin 4) (s : State) : State :=
  if bit (s.cfg2 .LEAN_CFG k g) 31 && (leanUp s k g).all (ugShut s k) && leanOutside s k g (leanLmax s k g) then
    s.modLean k g fun x => { x with lean := true }
  else s

/-- Leaving LEAN (R200, R201). -/
def leanLeave (k : DieIx) (g : Fin 4) (s : State) : State :=
  if bit (s.cfg2 .LEAN_CFG k g) 31 && (leanUp s k g).all (ugShut s k) && leanOutside s k g 0 then s
  else s.modLean k g fun x => { x with lean := false }

/-- A detected burst offered to the lean groups (R200): the list of the entry of the group's lowest downlink strand. -/
def leanBurst (k : DieIx) (freq : Nat) (port : Fin 2) (t : Nat) (s : State) : State :=
  s.each (List.finRange 4) fun g s =>
    match (leanDown s k g).head? with
    | none => s
    | some i =>
      match strandEntry s k i with
      | some (e, _) =>
        if burstOf s k (Fin.ofNat 8 e) freq port then s.modLean k g fun x => { x with burst := some t } else s
      | none => s

/-! ## The regulatory record (R202 to R211) -/

/-- The bytes of a copy. -/
def copyBytes (s : State) (b : Bool) : List Byte := readBytes .mram (copyBase b) 4096 s

/-- The digest of a record's bytes, and the digest that they carry. -/
def recordDigest (l : List Byte) : Nat := sha384 (l.take 0xFD0)
def carriedDigest (l : List Byte) : Nat := beNat ((l.drop 0xFD0).take 48)

/-- Whether a copy is good (R202; 17_thermal.md R537). -/
def copyGood (s : State) (b : Bool) : Bool :=
  isMarked (copyBase b) s && recordDigest (copyBytes s b) == carriedDigest (copyBytes s b)

/-- SEQ of the active copy, 0 while the record is invalid. -/
def regSeq (s : State) : Nat := if regValid s then leNat (readBytes .mram (copyBase s.reg.actB + 4) 4 s) else 0

/-- Choosing the active copy (R202): the good one with the higher SEQ, copy A of equals. -/
def chooseCopy (s : State) : State :=
  let a := copyGood s false
  let b := copyGood s true
  let sa := leNat (readBytes .mram (copyBase false + 4) 4 s)
  let sb := leNat (readBytes .mram (copyBase true + 4) 4 s)
  let act := b && (!a || decide (sa < sb))
  let s := { s with reg := { s.reg with okA := a, okB := b, actB := act } }
  if a || b then lower (srcOf 1) s else raiseHold (srcOf 1) 0 s

/-- Whether bytes are all zero. -/
def allZero (l : List Byte) : Bool := l.all fun b => b == 0

/-- The entries of a record, with their dies. -/
def entriesOf (l : List Byte) : List (DieIx × Entry) :=
  allDies.foldl (fun acc k => acc ++ (List.range 8).map fun e => (k, entryIn l k e)) []

/-- Whether a MAX_OUT is admitted (cause 4 of R210). -/
def maxOutOk (v : Int) : Bool := v == forbidden || decide (-5000 ≤ v ∧ v ≤ 5000)

/-- The first cause of R210 that fails a staged record, 0 when none of causes 1 to 5 does. -/
def editFault (l : List Byte) : Nat :=
  let es := entriesOf l
  let vs := es.filter fun x => x.2.valid
  if field l 0 4 ≠ 1 || !allZero ((l.drop 0x0A).take 6) || !allZero ((l.drop 0x18).take 8) ||
      !allZero ((l.drop 0xE20).take 432) || !(es.all fun x => x.2.zeros) then 1
  else if vs.any fun x => decide (x.2.fHi ≤ x.2.fLo ∨ x.2.fLo < 617000 ∨ 7125000 < x.2.fHi) then 2
  else if (List.range vs.length).any fun m => (List.range m).any fun n =>
      match vs[m]?, vs[n]? with
      | some a, some b => a.1 == b.1 && a.2.dir == b.2.dir && decide (max a.2.fLo b.2.fLo < min a.2.fHi b.2.fHi)
      | _, _ => false then 3
  else if vs.any fun x =>
      !(decide (-800 ≤ x.2.maxGain ∧ x.2.maxGain ≤ 1000 ∧ 200 ≤ x.2.floor ∧ x.2.floor ≤ 800 ∧ 1 ≤ x.2.duty ∧
        x.2.duty ≤ 1000) && maxOutOk x.2.out0 && maxOutOk x.2.out1) then 4
  else if vs.any fun x => x.2.country != field l 8 2 then 5
  else 0

/-- The staged bytes. -/
def stagedBytes (s : State) : List Byte := readBytes .staging 0 4096 s

/-- OPEN (R209, R613). -/
def regOpen (s : State) : Code × State :=
  if s.reg.busy.isSome then (.busy, s)
  else
    let l := if regValid s then copyBytes s s.reg.actB else List.replicate 4096 0
    (.ok, writeBytes .staging 0 l { s with reg := { s.reg with staged := true } })

/-- DISCARD (R613). -/
def regDiscard (s : State) : Code × State :=
  if s.reg.busy.isSome then (.busy, s) else (.ok, { s with reg := { s.reg with staged := false } })

/-- COMMIT is taken (R209, R210). A window that is neither open nor closed asks for a conversion of the hub die
(17_thermal.md R537). -/
def regCommit (o : Origin) (s : State) : Code × State :=
  if s.reg.busy.isSome || !s.reg.staged then (.busy, s)
  else
    let s := { s with reg := { s.reg with busy := some o } }
    (.ok, if mramVerdict s = .waits then thmAsk 0 .mram s else s)

/-- The record as a commit writes it: SEQ, TIME and DIGEST are the device's (R209). -/
def committed (l : List Byte) (seq time : Nat) : List Byte :=
  let body := l.take 4 ++ leBytes 4 seq ++ (l.drop 8).take 8 ++ leBytes 8 time ++ (l.drop 0x18).take (0xFD0 - 0x18)
  body ++ beBytes 48 (sha384 body)

/-- What a new record does to running strands, from the state before it (R211): those that would fail causes 2 or 3 stop,
and the others run on under R187. -/
def regActs (before s : State) : State :=
  s.each allDies fun k s => presFollow k before (s.each allStrands fun i s =>
    if isRunning s k i && hasOutput s k i then
      let f := regFaultBand s k i (s.rid k i).ftw
      if f = 2 ∨ f = 3 then autoStop k i (s.modProt k i fun p => { p with regFault := f }) else s
    else s)

/-- The end of a commit with its outcome. -/
def commitEnds (f : Nat) (s : State) : State :=
  { s with reg := { s.reg with busy := none, staged := s.reg.staged && !s.reg.dropAfter, dropAfter := false, fault := f,
                               code := if f = 0 then .ok else if f = 6 then .thermalHold else .badProgram } }

/-- The end of a commit (R209 to R211): whether the written copy verifies comes from outside. While the write window is
neither open nor closed the commit waits. -/
def regCommitDone (verified : Bool) (s : State) : State :=
  let was := s
  match s.reg.busy with
  | none => s
  | some o =>
    let l := stagedBytes s
    let f := editFault l
    if f ≠ 0 then commitEnds f s
    else match mramVerdict s with
      | .waits => thmAsk 0 .mram s
      | .refused => commitEnds 6 s
      | .allowed =>
        let tgt := regValid s && !s.reg.actB || !regValid s
        let seq := (regSeq s + 1) % 2 ^ 32
        let new := committed l seq s.wall
        let old := if regValid s then digestLead (carriedDigest (copyBytes s s.reg.actB)) else 0
        if verified then
          let s := markBlock (copyBase tgt) (writeBytes .mram (copyBase tgt) new s)
          let s := { s with reg := { s.reg with okA := s.reg.okA || !tgt, okB := s.reg.okB || tgt, actB := tgt } }
          let s := lower (srcOf 1) (commitEnds 0 s)
          let s := tallyPut o 0x000D0000 (BitVec.ofNat 32 old) (BitVec.ofNat 32 (digestLead (carriedDigest new))) s
          regActs was (skeinEvent (locOf 15 0) 2 7 (pack [(4, seq)]) s)
        else
          let s := unmarkBlock (copyBase tgt) s
          let s := { s with reg := { s.reg with okA := s.reg.okA && tgt, okB := s.reg.okB && !tgt } }
          commitEnds 7 s

/-- REG_STAT. -/
def regStat (s : State) : Word := mkWord [(2, 2, b2n s.reg.okB), (1, 1, b2n s.reg.okA), (0, 0, b2n s.reg.actB)]

/-- The record at boot (R202, R214). -/
def regBoot (s : State) : State :=
  let s := chooseCopy s
  if s.reg.okA && s.reg.okB then s else skeinEvent (locOf 15 0) 2 8 (pack [(4, (regStat s).toNat)]) s

end Sys2Proof.Machine
end

