-- ==== Sys2Proof/Machine/WithyDecode.lean ====
section
/-!
DEFINITION. Machine/WithyDecode.lean: the Withy instruction word, the opcode map with its fields and cycles, and the
static rules of an instruction list (07_withy_reference.md R253 to R274, 06_withy_model.md R226 to R235).
-/
namespace Sys2Proof.Machine
open Sys2Proof

/-- The fields of an instruction word (R253). -/
structure WWord where
  op : Nat
  pred : Nat
  d : Nat
  a : Nat
  b : Nat
  mod_ : Nat
  imm : Nat
  deriving DecidableEq, Repr

/-- Bits [hi:lo] of a number. -/
def bitsOf (w hi lo : Nat) : Nat := w / 2 ^ lo % 2 ^ (hi + 1 - lo)

/-- Reading the fields of a 64-bit word. -/
def wparse (w : Nat) : WWord :=
  ⟨bitsOf w 63 58, bitsOf w 57 56, bitsOf w 55 51, bitsOf w 50 46, bitsOf w 45 41, bitsOf w 40 32, bitsOf w 31 0⟩

/-- The mnemonics (R264). -/
inductive WOp where
  | rdin | wrout | mov | amov | smov | xmov | lds | ldc | vsplat | stat | vget | ldx | xin | xout | xtab | xfroms
  | sfromx | vadd | vsub | vcmul | vcmulc | vmac | vmacc | vmul | vmulc | vpack | vshf | vconj | vneg | vmulj | vswap
  | vscl | saddi | smax | smin | sadd | ssub | sand | sor | sxor | sshl | sshr | slsr | smul | stest | scmp | xcmp
  | xadd | xsub | xmul | xmin | xmax | xabs | xneg | xclmp | vrot | rset | rstep | vfir | vfrac | cres | cest | gtrip
  | cref | gmon | vpeak | vpow | vcnt | env | sdb | frecv | msend | mrecv | loop | endLoop | event | halt
  deriving DecidableEq, Repr

/-- Register classes (R256), none for a field that the row does not name. -/
inductive Cls where
  | none | v | a | s | x | p
  deriving DecidableEq, Repr

/-- The number of registers of a class. -/
def Cls.count : Cls → Nat
  | .none => 1 | .v => 32 | .a => 8 | .s => 16 | .x => 16 | .p => 2

/-- One row of the opcode map: the low MOD bits that select it and their value, the classes of D, A and B, the bits of
MOD and of IMM that carry values, the profiles that allow it, and its cycles. -/
structure WRow where
  name : WOp
  op : Nat
  sel : Nat
  val : Nat
  d : Cls
  a : Cls
  b : Cls
  modBits : Nat
  immBits : Nat
  stream : Bool
  loop : Bool
  cycles : Nat
  deriving DecidableEq, Repr

/-- A row of the stream profile, of the loop profile, of both. -/
def rS (n : WOp) (op sel val : Nat) (cd ca cb : Cls) (m i c : Nat) : WRow := ⟨n, op, sel, val, cd, ca, cb, m, i, true, false, c⟩
def rL (n : WOp) (op sel val : Nat) (cd ca cb : Cls) (m i c : Nat) : WRow := ⟨n, op, sel, val, cd, ca, cb, m, i, false, true, c⟩
def rB (n : WOp) (op sel val : Nat) (cd ca cb : Cls) (m i c : Nat) : WRow := ⟨n, op, sel, val, cd, ca, cb, m, i, true, true, c⟩

/-- Opcodes 0x00 to 0x0C (R266). -/
def rowsMove : List WRow :=
  [rS .rdin 0x00 1 0 .v .none .none 0 3 1, rS .rdin 0x00 1 1 .v .s .none 0 0 1,
   rS .wrout 0x01 1 0 .none .none .v 0 3 1, rS .wrout 0x01 1 1 .none .s .v 0 0 1,
   rS .mov 0x02 2 0 .v .v .none 0 0 1, rS .amov 0x02 2 1 .a .a .none 0 0 1, rB .smov 0x02 2 2 .s .s .none 0 0 1,
   rL .xmov 0x02 2 3 .x .x .none 0 0 1,
   rB .lds 0x03 0 0 .s .none .none 0 0xFFFFFFFF 1,
   rS .ldc 0x04 1 0 .v .none .none 0 0x1FF 2, rS .ldc 0x04 1 1 .v .s .none 0 0 2,
   rS .vsplat 0x05 0 0 .v .s .none 0 0 1, rS .stat 0x06 0 0 .s .none .none 0 0 1,
   rS .vget 0x07 0 0 .s .v .none 0 0xF 1,
   rL .ldx 0x08 0 0 .x .none .none 0 0xFFFFFFFF 1, rL .xin 0x09 0 0 .x .none .none 0 0xF 1,
   rL .xout 0x0A 0 0 .none .x .none 0 7 1, rL .xtab 0x0B 0 0 .x .x .none 0 1 2,
   rL .xfroms 0x0C 1 0 .x .s .none 0 0 1, rL .sfromx 0x0C 1 1 .s .x .none 0 0 1]

/-- Opcodes 0x10 to 0x17 (R270). -/
def rowsVector : List WRow :=
  [rS .vadd 0x10 0 0 .v .v .v 0 0 1, rS .vsub 0x11 0 0 .v .v .v 0 0 1,
   rS .vcmul 0x12 1 0 .v .v .v 0 0 1, rS .vcmulc 0x12 1 1 .v .v .v 0 0 1,
   rS .vmac 0x13 2 0 .a .v .v 0 0 1, rS .vmacc 0x13 2 1 .a .v .v 0 0 1, rS .vmul 0x13 2 2 .a .v .v 0 0 1,
   rS .vmulc 0x13 2 3 .a .v .v 0 0 1,
   rS .vpack 0x14 0 0 .v .a .none 0 0x1F 1, rS .vshf 0x15 0 0 .v .v .none 0 0x3F 1,
   rS .vconj 0x16 2 0 .v .v .none 0 0 1, rS .vneg 0x16 2 1 .v .v .none 0 0 1, rS .vmulj 0x16 2 2 .v .v .none 0 0 1,
   rS .vswap 0x16 2 3 .v .v .none 0 0 1, rS .vscl 0x17 0 0 .v .v .s 0 0 1]

/-- Opcodes 0x18 to 0x1F (R271 to R273). -/
def rowsScalar : List WRow :=
  [rB .saddi 0x18 0 0 .s .s .none 0 0xFFFFFFFF 1,
   rB .smax 0x19 1 0 .s .s .s 0 0 1, rB .smin 0x19 1 1 .s .s .s 0 0 1,
   rB .sadd 0x1A 3 0 .s .s .s 0 0 1, rB .ssub 0x1A 3 1 .s .s .s 0 0 1, rB .sand 0x1A 3 2 .s .s .s 0 0 1,
   rB .sor 0x1A 3 3 .s .s .s 0 0 1, rB .sxor 0x1A 3 4 .s .s .s 0 0 1, rB .sshl 0x1A 3 5 .s .s .s 0 0 1,
   rB .sshr 0x1A 3 6 .s .s .s 0 0 1, rB .slsr 0x1A 3 7 .s .s .s 0 0 1,
   rB .smul 0x1B 0 0 .s .s .s 0x1F 0 2,
   rL .xcmp 0x1C 0 0 .p .x .x 3 0 1,
   rL .xadd 0x1D 4 0 .x .x .x 0 0 1, rL .xsub 0x1D 4 1 .x .x .x 0 0 1, rL .xmul 0x1D 4 2 .x .x .x 0 0 2,
   rL .xmin 0x1D 4 3 .x .x .x 0 0 1, rL .xmax 0x1D 4 4 .x .x .x 0 0 1, rL .xabs 0x1D 4 5 .x .x .none 0 0 1,
   rL .xneg 0x1D 4 6 .x .x .none 0 0 1, rL .xclmp 0x1D 4 7 .x .x .x 0 0 1,
   rB .stest 0x1E 0 0 .p .s .none 0 0x1F 1, rB .scmp 0x1F 0 0 .p .s .none 7 0xFFFFFFFF 1]

/-- Opcodes 0x20 to 0x3F (R276, R280, R283, R285, R288). -/
def rowsSpecial : List WRow :=
  [rS .vrot 0x20 0 0 .v .v .s 0 0 2, rS .rset 0x21 1 0 .none .s .none 0 0 1, rS .rstep 0x21 1 1 .none .s .none 0 0 1,
   rS .vfir 0x22 1 0 .v .v .none 0 0x31FF 4, rS .vfir 0x22 1 1 .v .v .s 0 0x3000 4,
   rS .vfrac 0x23 0 0 .v .v .s 0 3 2,
   rS .cres 0x28 1 0 .v .none .none 0 3 1, rS .cres 0x28 1 1 .v .s .none 0 0 1,
   rS .cest 0x29 1 0 .v .none .none 0 3 1, rS .cest 0x29 1 1 .v .s .none 0 0 1,
   rS .gtrip 0x2A 0 0 .none .none .none 0 0 1,
   rS .cref 0x2B 1 0 .v .none .none 0 0x103 1, rS .cref 0x2B 1 1 .v .s .none 0 0x100 1,
   rS .gmon 0x2C 0 0 .s .none .none 0 0 1,
   rS .vpeak 0x30 0 0 .s .v .none 0 0 2, rS .vpow 0x31 0 0 .s .v .none 0 0 2, rS .vcnt 0x32 0 0 .s .v .s 0 0 2,
   rS .env 0x33 0 0 .none .s .none 0 0xFF 1, rB .sdb 0x34 0 0 .s .s .none 0 0 4,
   rS .frecv 0x38 1 0 .v .none .none 0 0x303 1, rS .frecv 0x38 1 1 .v .s .none 0 0x300 1,
   rS .msend 0x39 0 0 .none .none .none 0 0x300 1, rS .mrecv 0x3A 0 0 .s .none .none 0 0x307 1,
   rB .loop 0x3C 0 0 .none .none .none 0 0xFFFF 1, rB .endLoop 0x3D 0 0 .none .none .none 0 0 0,
   rB .event 0x3E 0 0 .none .s .none 0 0xFFFF 1, rB .halt 0x3F 0 0 .none .none .none 0 0 1]

/-- The opcode map. -/
def wrows : List WRow := rowsMove ++ rowsVector ++ rowsScalar ++ rowsSpecial

/-- The row of a word, by OP and the selecting MOD bits. -/
def wrow (w : WWord) : Option WRow := wrows.find? fun r => r.op == w.op && w.mod_ % 2 ^ r.sel == r.val

/-- Whether a value has only bits of a mask. -/
def within (v mask : Nat) : Bool := Nat.land v mask == v

/-- The signed value of low bits. -/
def simm (n v : Nat) : Int := if v % 2 ^ n < 2 ^ (n - 1) then ((v % 2 ^ n : Nat) : Int) else ((v % 2 ^ n : Nat) : Int) - (2 : Int) ^ n

/-- The ranges that rows put on their values (R270, R272, R276, R283, R288): VFIR rows against COEF_ROWS and ENV against
LA_COIL. -/
def valueOk (r : WRow) (w : WWord) (rows laCoil : Nat) : Bool :=
  match r.name with
  | .vpack => decide (-16 ≤ simm 5 w.imm ∧ simm 5 w.imm ≤ 8)
  | .vshf => decide (-23 ≤ simm 6 w.imm ∧ simm 6 w.imm ≤ 23)
  | .scmp => decide (w.mod_ ≤ 5)
  | .loop => decide (1 ≤ w.imm) && w.pred == 0
  | .endLoop | .halt => w.pred == 0
  | .vfir => w.mod_ % 2 == 1 || decide (bitsOf w.imm 8 0 < rows)
  | .env => w.imm == laCoil
  | _ => true

/-- FAULT 3: the opcode, MOD, PRED and value rules of an instruction (R255, R265, R288). -/
def wordOk (stream : Bool) (rows laCoil : Nat) (w : WWord) : Bool :=
  match wrow w with
  | none => false
  | some r =>
    (if stream then r.stream else r.loop) && within (w.mod_ / 2 ^ r.sel * 2 ^ r.sel) r.modBits && within w.imm r.immBits &&
      (r.d != .none || w.d == 0) && (r.a != .none || w.a == 0) && (r.b != .none || w.b == 0) && valueOk r w rows laCoil

/-- FAULT 4: register indices, and no write of s8 to s15 (R256, R274). -/
def regsOk (w : WWord) : Bool :=
  match wrow w with
  | none => false
  | some r => decide (w.d < r.d.count ∧ w.a < r.a.count ∧ w.b < r.b.count) && !(r.d == .s && decide (8 ≤ w.d))

/-- The name of a word's row. -/
def wname (w : WWord) : Option WOp := (wrow w).map (·.name)

/-- One instruction of the structure check: open loops, whether the last instruction was a LOOP, whether HALT has come,
and whether all is well so far (R226). -/
def structStep (a : Nat × Bool × Bool × Bool) (w : WWord) : Nat × Bool × Bool × Bool :=
  match wname w with
  | some .loop => (a.1 + 1, true, a.2.2.1, a.2.2.2 && !a.2.2.1 && decide (a.1 < 4))
  | some .endLoop => (a.1 - 1, false, a.2.2.1, a.2.2.2 && !a.2.2.1 && decide (0 < a.1) && !a.2.1)
  | some .halt => (a.1, false, true, a.2.2.2 && !a.2.2.1 && a.1 == 0)
  | _ => (a.1, false, a.2.2.1, a.2.2.2 && !a.2.2.1)

/-- FAULT 5: the loop and HALT structure. -/
def structOk (l : List WWord) : Bool :=
  let r := l.foldl structStep (0, false, false, true)
  r.2.2.2 && r.2.2.1

/-- The cycle count C (R228): the product of the open loops is kept with each. -/
def cycleCount (l : List WWord) : Nat :=
  (l.foldl (fun (a : Nat × List Nat) w =>
    let m := match a.2 with | m :: _ => m | [] => 1
    match wname w with
    | some .loop => (a.1 + m, m * w.imm :: a.2)
    | some .endLoop => (a.1, a.2.drop 1)
    | _ => (a.1 + m * (match wrow w with | some r => r.cycles | none => 0), a.2)) (0, [])).1

/-- The instructions of a body. -/
def bodyWords : Nat → List Byte → List WWord
  | 0, _ => []
  | n + 1, l => wparse (leNat (l.take 8)) :: bodyWords n (l.drop 8)

end Sys2Proof.Machine
end

