-- ==== Sys2Proof/Machine/WithyOps.lean ====
section
/-!
DEFINITION. Machine/WithyOps.lean: contexts, instruction fetch and the effects that Withy instructions share, and the
invocations of a strand (06_withy_model.md, 07_withy_reference.md).
-/
namespace Sys2Proof.Machine
open Sys2Proof

/-! ## Contexts -/

/-- The scalar side of a context (R221, R274). -/
def ctxSc (s : State) : Ctx → WScalar
  | .strand k i => (s.prog k i).sc
  | .coil c => (s.coils[c]).ctx

/-- Changing it. -/
def modSc (x : Ctx) (f : WScalar → WScalar) (s : State) : State :=
  match x with
  | .strand k i => s.modProg k i fun p => { p with sc := f p.sc }
  | .coil c => s.modCoil c fun q => { q with ctx := f q.ctx }

/-- Scalar register n. -/
def sReg (s : State) (x : Ctx) (n : Nat) : Word := (ctxSc s x).s[Fin.ofNat 16 n]
/-- Writing it. -/
def putS (x : Ctx) (n : Nat) (w : Word) (s : State) : State :=
  modSc x (fun c => { c with s := vset c.s (Fin.ofNat 16 n) w }) s

/-- The saturation flag of a context: SAT of PRG_FLAGS, or the coil's flag (R261). -/
def setSat (b : Bool) (x : Ctx) (s : State) : State :=
  if b then
    match x with
    | .strand k i => s.modProg k i fun p => { p with fSat := true }
    | .coil c => coilFlag c 0 s
  else s

/-- A signed scalar result, clamped (R258, R261). -/
def putSigned (x : Ctx) (n : Nat) (v : Int) (s : State) : State :=
  setSat (sat 32 v != v) x (putS x n (BitVec.ofInt 32 (sat 32 v)) s)

/-- A predicate (R272). -/
def putP (x : Ctx) (n : Nat) (b : Bool) (s : State) : State :=
  modSc x (fun c => if n = 0 then { c with p0 := b } else { c with p1 := b }) s

/-- Register x_n of a coil, as Q16.16. -/
def xReg (s : State) (c : CoilIx) (n : Nat) : Int := ((s.coils[c]).xs[Fin.ofNat 16 n]).toInt
/-- Writing it, clamped. -/
def putX (c : CoilIx) (n : Nat) (v : Int) (s : State) : State :=
  setSat (sat 32 v != v) (.coil c)
    (s.modCoil c fun q => { q with xs := vset q.xs (Fin.ofNat 16 n) (BitVec.ofInt 32 (sat 32 v)) })

/-- Vector register n of a strand. -/
def vReg (s : State) (k : DieIx) (i : StrandIx) (n : Nat) : Lanes := (s.prog k i).vec.v[Fin.ofNat 32 n]
/-- Accumulator n. -/
def aReg (s : State) (k : DieIx) (i : StrandIx) (n : Nat) : Lanes := (s.prog k i).vec.a[Fin.ofNat 8 n]

/-- A complex value clamped to b bits. -/
def satCx (b : Nat) (z : Cx) : Cx := ⟨sat b z.re, sat b z.im⟩

/-- Whether some lane does not fit in b bits. -/
def overLanes (b : Nat) (l : Lanes) : Bool := l.toList.any fun z => satCx b z != z

/-- Writing a vector register, each lane clamped, SAT for a clamp (R261). -/
def putV (k : DieIx) (i : StrandIx) (n : Nat) (l : Lanes) (s : State) : State :=
  setSat (overLanes 24 l) (.strand k i) (s.modProg k i fun p =>
    { p with vec := { p.vec with v := vset p.vec.v (Fin.ofNat 32 n) (l.map (satCx 24)) } })

/-- Writing an accumulator. -/
def putA (k : DieIx) (i : StrandIx) (n : Nat) (l : Lanes) (s : State) : State :=
  setSat (overLanes 40 l) (.strand k i) (s.modProg k i fun p =>
    { p with vec := { p.vec with a := vset p.vec.a (Fin.ofNat 8 n) (l.map (satCx 40)) } })

/-! ## Lanes -/

/-- Rounding both parts of a value by 2^n (R260). -/
def roundCx (n : Nat) (z : Cx) : Cx := ⟨roundDiv z.re (2 ^ n), roundDiv z.im (2 ^ n)⟩

/-- Lane-wise functions. -/
def lanes1 (f : Cx → Cx) (a : Lanes) : Lanes := a.map f
def lanes2 (f : Cx → Cx → Cx) (a b : Lanes) : Lanes := Vector.ofFn fun n : Fin 16 => f a[n] b[n]

/-- Sixteen values of a list from an offset, 0 beyond its end. -/
def lanesOf (l : List Cx) (off : Nat) : Lanes := Vector.ofFn fun n : Fin 16 => (l[off + n.val]?).getD ⟨0, 0⟩

/-- A coefficient word as a lane (R224). -/
def coefCx (w : Nat) : Cx := ⟨256 * simm 16 w, 256 * simm 16 (w / 2 ^ 16)⟩

/-- A lane converted to 16 bits, without the clamp (R224). -/
def to16 (z : Cx) : Cx := roundCx 8 z

/-- |I|² + |Q|² of a lane after the conversion of R224 (R283). -/
def lanePower (z : Cx) : Nat := (satCx 16 (to16 z)).norm

/-- A value in 2^-21 codes on the lane scale of 2^-8 codes (R280). -/
def laneOf21 (z : Cx) : Cx := roundCx 13 z

/-! ## Fetch (R226 to R228, R262) -/

/-- The image whose instructions a context runs, as its first instruction, its length and the space that holds it. -/
def ctxImage (s : State) : Ctx → Option (Space × Nat × Nat)
  | .strand k i => (boundImage s k i).map fun g => (.prog, k.val * 2 ^ 24 + g.base * 8, g.len)
  | .coil c => ((s.coils[c]).image).map fun g => (.coilProg, g.base * 8, g.len)

/-- Whether a context executes now: a strand's invocation that runs, or the job at the head of its core's queue on a
core that no TAP instruction halts (R332, R333; 19_lid_security.md R566). -/
def ctxRuns (s : State) : Ctx → Bool
  | .strand k i => isRunning s k i && (s.prog k i).sc.running
  | .coil c => (s.coils[c]).ctx.running && (s.coils[c]).job == .released &&
      (s.coreQ[coilCore s c]).head? == some c.val && s.tap.haltCores / 2 ^ (coilCore s c).val % 2 == 0

/-- The instruction at the index of a context. -/
def wfetch (s : State) (x : Ctx) : Option WWord :=
  match ctxImage s x with
  | none => none
  | some (sp, off, len) =>
    if (ctxSc s x).pc < len then some (wparse (leNat (readBytes sp (off + (ctxSc s x).pc * 8) 8 s))) else none

/-- Whether the predicate of an instruction holds (R253). -/
def predHolds (c : WScalar) (pred : Nat) : Bool :=
  match pred with
  | 0 => true
  | 1 => c.p0
  | 2 => c.p1
  | _ => !c.p0

/-- Moving on to the next instruction. -/
def nextPc (x : Ctx) (s : State) : State := modSc x (fun c => { c with pc := c.pc + 1 }) s

/-- An instruction of a mnemonic: it is the one at the index of a context that runs; its effect happens when its
predicate holds (R227, R263). -/
def withy (n : WOp) (x : Ctx) (eff : WWord → State → State) (s : State) : State :=
  if ctxRuns s x then
    match wfetch s x with
    | none => s
    | some w =>
      if wname w = some n then nextPc x (if predHolds (ctxSc s x) w.pred then eff w s else s) else s
  else s

/-- An effect of the stream profile. -/
def onStrand (eff : DieIx → StrandIx → WWord → State → State) (x : Ctx) (w : WWord) (s : State) : State :=
  match x with
  | .strand k i => eff k i w s
  | .coil _ => s

/-- An effect of the loop profile. -/
def onCoil (eff : CoilIx → WWord → State → State) (x : Ctx) (w : WWord) (s : State) : State :=
  match x with
  | .strand _ _ => s
  | .coil c => eff c w s

/-! ## Operand forms -/

/-- The quarter of an instruction: IMM[1:0], or bits [1:0] of the scalar in A (R266). -/
def quarterOf (s : State) (x : Ctx) (w : WWord) : Nat :=
  if w.mod_ % 2 = 1 then (sReg s x w.a).toNat % 4 else w.imm % 4

/-- Quarter q of a block that is read in the lane scale (R259). -/
def readQuarter (l : List Cx) (s : State) (x : Ctx) (w : WWord) : Lanes := lanesOf l (16 * quarterOf s x w)

/-- A coefficient row of a strand's image; zeros without rows (R266). -/
def coefRow (s : State) (k : DieIx) (i : StrandIx) (row : Nat) : Lanes :=
  match boundImage s k i with
  | none => Vector.replicate 16 Cx.zero
  | some g =>
    if g.rows = 0 then Vector.replicate 16 Cx.zero
    else Vector.ofFn fun n : Fin 16 =>
      coefCx (leNat (readBytes .coef (k.val * 2 ^ 24 + (g.cbase + row % g.rows) * 64 + n.val * 4) 4 s))

/-- The row of LDC and VFIR: the immediate or a scalar (R266, R276). -/
def rowOf (s : State) (x : Ctx) (w : WWord) (sreg : Nat) : Nat :=
  if w.mod_ % 2 = 1 then (sReg s x sreg).toNat else w.imm % 512

/-- Whether a strand is a receiver by R130. -/
def isReceiverNow (s : State) (k : DieIx) (i : StrandIx) : Bool := (receiversOf s k (groupOf s k i)).contains i

/-- A comparison of SCMP and XCMP (R272). -/
def condHolds (cond : Nat) (a b : Word) : Bool :=
  match cond with
  | 0 => a == b
  | 1 => a != b
  | 2 => decide (a.toInt < b.toInt)
  | 3 => decide (b.toInt ≤ a.toInt)
  | 4 => decide (a.toNat < b.toNat)
  | _ => decide (b.toNat ≤ a.toNat)

/-! ## Rotation, filter, delay (R277 to R279) -/

/-- The rotation factor of a phase, with 22 fraction bits. -/
def rotor (phase : Nat) : Cx :=
  let t := cosSin (phase % 2 ^ 32)
  ⟨roundDiv t.1 (2 ^ 74), roundDiv t.2 (2 ^ 74)⟩

/-- VROT on sixteen lanes. -/
def rotate (phi f : Nat) (a : Lanes) : Lanes :=
  Vector.ofFn fun l : Fin 16 => roundCx 22 (a[l].mul (rotor (phi + l.val * f)))

/-- A sample sequence with sixteen lanes behind it; missing history is zero. -/
def withHistory (hist : List Cx) (n : Nat) (a : Lanes) : List Cx :=
  (List.replicate (n - hist.length) Cx.zero ++ hist) ++ a.toList

/-- VFIR: the 16-tap sum (R278). -/
def firLanes (z : List Cx) (c : Lanes) : Lanes :=
  Vector.ofFn fun l : Fin 16 => roundCx 23 ((List.finRange 16).foldl (fun (t : Cx) (n : Fin 16) =>
    t.add ((c.get n).mul ((z[15 + l.val - n.val]?).getD Cx.zero))) Cx.zero)

/-- The weights of the cubic interpolation, with 18 fraction bits, for μ = m / 256 (R279). -/
def fracWeights (m : Nat) : Int × Int × Int × Int :=
  let t : Int := 512 - m
  let w0 := roundDiv (-(t - 256) * (t - 512) * (t - 768) * 2 ^ 18) (6 * 2 ^ 24)
  let w1 := roundDiv (t * (t - 512) * (t - 768) * 2 ^ 18) (2 * 2 ^ 24)
  let w3 := roundDiv (t * (t - 256) * (t - 512) * 2 ^ 18) (6 * 2 ^ 24)
  (w0, w1, 2 ^ 18 - w0 - w1 - w3, w3)

/-- VFRAC on a sequence of nineteen samples. -/
def fracLanes (z : List Cx) (m : Nat) : Lanes :=
  let w := fracWeights m
  let at_ := fun (n : Nat) => (z[n]?).getD Cx.zero
  Vector.ofFn fun l : Fin 16 =>
    roundCx 18 ((((at_ l.val).scale w.1).add ((at_ (l.val + 1)).scale w.2.1)).add
      (((at_ (l.val + 2)).scale w.2.2.1).add ((at_ (l.val + 3)).scale w.2.2.2)))

/-- Changing the vector state of a strand. -/
def modVec (k : DieIx) (i : StrandIx) (f : WVector → WVector) (s : State) : State :=
  s.modProg k i fun p => { p with vec := f p.vec }

/-! ## Events, loops (R226, R289) -/

/-- EVENT (R289): the first of an invocation or coil period makes a record. -/
def withyEvent (x : Ctx) (w : WWord) (s : State) : State :=
  let v := (sReg s x w.a).toNat
  let first := !(ctxSc s x).evented
  let s := modSc x (fun c => { c with evented := true }) s
  match x with
  | .strand k i =>
    let s := s.modProg k i fun p => { p with fEvent := true }
    if first then skein 2 0 (locOf (dieNum k) (strandUnit i)) (w.imm % 2 ^ 16) (pack [(4, v)]) s else s
  | .coil c => if first then skein 3 0 (locOf 0 c.val) (w.imm % 2 ^ 16) (pack [(4, v)]) s else s

/-- LOOP: the body begins at the next instruction. -/
def withyLoop (x : Ctx) (w : WWord) (s : State) : State :=
  modSc x (fun c => { c with loops := (c.pc + 1, w.imm % 2 ^ 16) :: c.loops }) s

/-- END: back to the start of the body while repeats are left; the index then moves on from there. -/
def withyEnd (x : Ctx) (s : State) : State :=
  modSc x (fun c => match c.loops with
    | [] => c
    | (st, n) :: l => if 1 < n then { c with pc := st - 1, loops := (st, n - 1) :: l } else { c with loops := l }) s

/-! ## Invocations (R215 to R220) -/

/-- Whether another strand's invocation runs on a strand's weaver, or comes before the strand's own: by the time of the
hand-over, and by strand number for equal times (R231). -/
def weaverBusy (s : State) (k : DieIx) (i : StrandIx) : Bool :=
  allStrands.any fun j => j != i && (s.prog k j).slot.isSome && (s.prog k j).weaver == (s.prog k i).weaver &&
    ((s.prog k j).sc.running ||
      (match (s.prog k j).inQ, (s.prog k i).inQ with
        | b :: _, c :: _ => isRunning s k j && decide (b.at_ < c.at_ ∨ (b.at_ = c.at_ ∧ j.val < i.val))
        | _, _ => false))

/-- The block that a stream-receive reservation delivers for an invocation, on the lane scale; none when it is missing or
not valid (R239). -/
def recvBlock (s : State) (r : Option Reservation) (inv : Nat) : Option (List Cx) :=
  match r with
  | none => none
  | some r =>
    if r.kind = 0 then
      match (s.wale.eps[Fin.ofNat 256 r.ep]).buf.find? fun b => b.1 == inv with
      | some (_, some b) => if b.valid then some (b.xs.map fun z => z.scale (if r.fmt = 1 then 4096 else 256)) else none
      | _ => none
    else none

/-- Taking the block of an invocation out of an endpoint's buffer: one that has not come counts in LATE while the
endpoint is locked (11_wale_fabric.md R413). -/
def takeBlock (e inv : Nat) (s : State) : State :=
  { s with wale := { s.wale with eps := vmod s.wale.eps (Fin.ofNat 256 e) fun q =>
      { q with late := if q.lock.isSome && !(q.buf.any fun b => b.1 == inv) then satInc 0xFFF q.late else q.late,
               buf := q.buf.filter fun b => b.1 != inv } } }

/-- The block that a stream input delivers for a strand's next block, on the 16-bit scale (R239; 03_strands.md R94). -/
def streamBlock (s : State) (e inv : Nat) : Option Block :=
  match (s.wale.eps[Fin.ofNat 256 e]).buf.find? fun b => b.1 == inv with
  | some (_, some b) =>
    some { b with xs := if bit (s.cfg1 .EP_CFG e) 4 then b.xs.map fun z => z.scale 16 else b.xs }
  | _ => none

/-- The start of an invocation (R216, R217, R223, R287). -/
def invoke (k : DieIx) (i : StrandIx) (s : State) : State :=
  let p := s.prog k i
  match p.inQ, boundImage s k i with
  | b :: rest, some g =>
    if !isRunning s k i || p.sc.running || weaverBusy s k i then s
    else
      let recv : Vector (Option (List Cx)) 4 := Vector.ofFn fun r : Fin 4 => recvBlock s g.res[r.val]? p.inv
      let strictOk := (g.res.zipIdx).all fun x => !(x.1.kind == 0 && x.1.strict) || (recv[Fin.ofNat 4 x.2]).isSome
      let gm := if isReceiverNow s k i then grdMon s k i else 0
      let s := (g.res.filter fun r => r.kind == 0).foldl (fun (s : State) (r : Reservation) => takeBlock r.ep p.inv s) s
      let cur : WInput := { b with recv := recv, msg := p.msg, msgNew := p.msgNew, gmon := gm }
      s.modProg k i fun p =>
        let p := p.takeParams
        { p with inQ := rest, cur := cur,
                 msgNew := Vector.replicate 4 false, hist := ((b.x.valid && strictOk) :: p.hist).take 15,
                 eccNow := false, out := Vector.replicate 4 none, env := none, sends := [],
                 sc := { p.sc with pc := 0, loops := [], running := true, evented := false } }
  | _, _ => s

/-- The output block of the invocation that ends (R217, R219, R224). -/
def outBlock (p : Prog) (pipe : Nat) : Block :=
  let xs := (List.finRange 4).foldl (fun acc q =>
    acc ++ (match p.out[q] with | some l => l.toList | none => List.replicate 16 Cx.zero)) []
  let ok := decide (pipe - 2 ≤ p.hist.length) && (p.hist.take (pipe - 2)).all id && !p.eccNow
  if ok then { valid := true, xs := xs, bo := p.cur.x.bo, pr := [] } else { Block.invalid with bo := p.cur.x.bo }

/-- HALT of an invocation: the output block waits for its release, the last ENV for its delivery (R216, R236). -/
def invocationEnd (k : DieIx) (i : StrandIx) (s : State) : State :=
  let pipe := pipeOf s k i
  s.modProg k i fun p =>
    { p with sc := { p.sc with running := false, loops := [] }, outQ := p.outQ ++ [outBlock p pipe],
             laQ := p.laQ ++ [p.env], inv := p.inv + 1 }

/-- The release of an output block to the level stage (R216). -/
def outputRelease (k : DieIx) (i : StrandIx) (s : State) : State :=
  match (s.prog k i).outQ with
  | [] => s
  | b :: rest =>
    let s := s.modProg k i fun p => { p with outQ := rest }
    if isRunning s k i then s.modStrand k i fun t => { t with toLevel := t.toLevel ++ [b] } else s

/-- The delivery of a look-ahead value, or the time of one that no ENV sent (R236, R349, R351). None crosses while the
control lane of the die is lost (01_architecture.md R27, R28). -/
def laDelivery (k : DieIx) (i : StrandIx) (s : State) : State :=
  match (s.prog k i).laQ, boundImage s k i with
  | e :: rest, some g =>
    let tgt := max (-800) (gTarget s k i (s.prot k i).b (capThermal s k i))
    let v : List LaValue := match e with
      | some w => if (imageCoil g).isSome && !(s.dies[k]).laneLost then [⟨s.time.ft, peakLevel s k i g w.toNat tgt⟩] else []
      | none => []
    laStrand k i (s.modProg k i fun p =>
      { p with laQ := rest, la := (v ++ p.la).take 64, laHist := ((!v.isEmpty) :: p.laHist).take 64 })
  | _, _ => s

/-- A message for a message-receive reservation (R240, R287). -/
def messageArrival (k : DieIx) (i : StrandIx) (r : Fin 4) (bytes : List Byte) (s : State) : State :=
  if isRunning s k i then
    s.modProg k i fun p => { p with msg := vset p.msg r bytes, msgNew := vset p.msgNew r true }
  else s

/-- STAT of the present invocation (R220). -/
def invStatus (s : State) (k : DieIx) (i : StrandIx) : Word :=
  let p := s.prog k i
  let res := match boundImage s k i with | some g => g.res | none => []
  let rbit := fun (r : Fin 4) => match res[r.val]? with
    | some x => if x.kind = 0 then (p.cur.recv[r]).isSome else x.kind == 2 && p.cur.msgNew[r]
    | none => false
  mkWord [(31, 16, p.inv), (2, 2, b2n (rbit 0)), (3, 3, b2n (rbit 1)), (4, 4, b2n (rbit 2)), (5, 5, b2n (rbit 3)),
    (1, 1, b2n p.cur.refsValid), (0, 0, b2n p.cur.x.valid)]

/-- Staging the parameters of a strand: PRG_PCTRL.APPLY (R223). -/
def stageParams (k : DieIx) (i : StrandIx) (s : State) : State :=
  let v : Vector Word 8 := Vector.ofFn fun n : Fin 8 => s.cfg3 .PRG_PARAM k i n
  if isRunning s k i then s.modProg k i fun p => { p with paramWait := true, staged := v }
  else s.modProg k i fun p => Prog.takeParams { p with paramWait := true, staged := v }

/-! ## A block at point IN (R134, R151, R176, R180, R217) -/

/-- A block at point IN with its references: the canceller, the guard's window, the meter, gating and backoff, and the
hand-over to the program. -/
def blockIn (k : DieIx) (i : StrandIx) (b : Block) (ovr : Nat) (r0 r1 : List Cx) (refs : Bool) (s : State) : State :=
  let rcv := isReceiverNow s k i
  let s := if rcv then guardBlock k i ovr (cancelBlock k i b.valid refs b.xs r0 r1 ovr s) else s
  let s := ugBlock k i b (meterIn k i b s)
  let s := backoffBlock k i b s
  let b := { b with bo := (s.prot k i).b }
  let c := s.canc k i
  let inp : WInput :=
    { WInput.zero with
      at_ := s.time.ft, x := b, resid := if rcv then (if b.valid then c.e.map laneOf21 else []) else b.xs.map fun z => z.scale 256,
      est := if rcv && b.valid then c.yhat.map laneOf21 else [],
      ref0 := if rcv && refs then r0.map fun z => z.scale 256 else [],
      ref1 := if rcv && refs then r1.map fun z => z.scale 256 else [], refsValid := rcv && refs }
  s.modProg k i fun p => { p with inQ := p.inQ ++ [inp] }

/-- A block of samples, valid when every sample is (R71); an invalid one is zeros. -/
def Block.ofSmps (l : List Smp) : Block :=
  if l.length == 64 && l.all (·.ok) then ⟨true, l.map (·.z), 0, []⟩ else Block.invalid

/-- The receive chain and the reference decimators over the samples of one strand block duration, as their fixed stages
give them: the state of the chain afterwards, and the samples of the two references (R133). -/
def chainIn (k : DieIx) (i : StrandIx) (ok : Bool) (xs r0 r1 : List Cx) (s : State) : State × List Smp × List Smp :=
  let r := s.rid k i
  let x := chainRun s k i r.lines[0] ok xs
  let a := chainRun s k i r.lines[1] true r0
  let b := chainRun s k i r.lines[2] true r1
  (s.modRid k i fun r =>
    { r with lines := #v[x.2.1, a.2.1, b.2.1], snap := x.2.2.1, snapL := x.2.2.2, n := r.n + x.1.length,
             outs := r.outs ++ x.1 }, a.1, b.1)

/-- The samples of a strand at point IN: a block of a stream input, or what the receive chain gives, of which every 64
samples form a block. In snap mode a block forms once 64 outputs have come. -/
def blockAtIn (k : DieIx) (i : StrandIx) (valid : Bool) (xs : List Cx) (ovr : Nat) (r0 r1 : List Cx) (refs : Bool)
    (s : State) : State :=
  if !isRunning s k i then s
  else
    let p : PortIx := Fin.ofNat 4 (inPort s k i)
    let silent := isDuplex s k p && (s.port k p).st != .receive
    let spoiled := (s.rid k i).ecc
    let q := chainIn k i (valid && adcLevel s k p) (if silent then List.replicate 64 Cx.zero else xs) r0 r1 s
    let s := q.1.modRid k i fun r => { r with ecc := false }
    let ra := Block.ofSmps q.2.1
    let rb := Block.ofSmps q.2.2
    let refs := refs && ra.valid && rb.valid
    if inStream s k i then
      let idx := (s.prog k i).inv + b2n (s.prog k i).sc.running + (s.prog k i).inQ.length
      let b := (streamBlock s (inEp s k i) idx).getD Block.invalid
      let s := takeBlock (inEp s k i) idx (s.modRid k i fun r => { r with outs := [] })
      blockIn k i (if spoiled then b.spoil else { b with bo := 0 }) ovr ra.xs rb.xs refs s
    else
      let o := (s.rid k i).outs
      if o.length < 64 then s
      else
        let b := Block.ofSmps (o.take 64)
        blockIn k i (if spoiled then b.spoil else b) ovr ra.xs rb.xs refs
          (s.modRid k i fun r => { r with outs := r.outs.drop 64 })

end Sys2Proof.Machine
end

