-- ==== Sys2Proof/Machine/WaleOps.lean ====
section
/-!
DEFINITION. Machine/WaleOps.lean: wale ports, link words, channels, streams and their admission, and fabric time
(11_wale_fabric.md R395 to R414, R420 to R428; 12_guarantees.md R430 to R438).
-/
namespace Sys2Proof.Machine
open Sys2Proof

/-! ## Ports -/

/-- Changing the wale fabric, a port, an endpoint. -/
def State.modWale (s : State) (f : Wale → Wale) : State := { s with wale := f s.wale }
def State.wport (s : State) (w : WaleIx) : WalePort := s.wale.ports[w]
def State.modWport (s : State) (w : WaleIx) (f : WalePort → WalePort) : State :=
  s.modWale fun x => { x with ports := vmod x.ports w f }
def State.ep (s : State) (e : Nat) : Endpoint := s.wale.eps[Fin.ofNat 256 e]
def State.modEp (s : State) (e : Nat) (f : Endpoint → Endpoint) : State :=
  s.modWale fun x => { x with eps := vmod x.eps (Fin.ofNat 256 e) f }
def allWports : List WaleIx := List.finRange 8

/-- Forgetting what the last command sent. -/
def clearSent (s : State) : State :=
  s.modWale fun x => { x with ports := x.ports.map fun p => { p with words := [], sent := [] } }

/-- Sending a link-management word (R397): the code, then the data bytes. -/
def sendWord (w : WaleIx) (code : Nat) (data : List Byte) (s : State) : State :=
  s.modWport w fun p => { p with words := p.words ++ [(code, (data ++ List.replicate 6 0).take 6)] }

/-- EN of a port. -/
def portEn (s : State) (w : WaleIx) : Bool := bit (s.cfg1 .PORT_CTRL w) 0

/-- Ports that are UP. -/
def upPorts (s : State) : List WaleIx := allWports.filter fun w => (s.wport w).st == .up

/-- UP ports as a mask. -/
def upMask (s : State) : Nat := (upPorts s).foldl (fun a w => a + 2 ^ w.val) 0

/-- Setting a bit of GRT_STAT with its reaction (12_guarantees.md R432). -/
def grtSet (n : Nat) (s : State) : State :=
  let s := s.modWale fun x =>
    match n with
    | 1 => { x with a1 := true } | 2 => { x with a2 := true } | 3 => { x with a3 := true } | 4 => { x with a4 := true }
    | _ => { x with a5 := true }
  raisePulse (srcOf 5) 0 (skeinEvent (locOf 0 0) 8 n 0 s)

/-- A change of a port's state with its record (R398, R429). -/
def portState (w : WaleIx) (t : WaleState) (s : State) : State :=
  let p := s.wport w
  if p.st = t then s
  else
    let s := s.modWport w fun p => { p with st := t, since := s.time.ft }
    skeinEvent (locOf 0 w.val) 7 1 (pack [(1, w.val), (1, p.cause), (4, p.peerSerial)]) s

/-- Whether a port's hold-down has ended (R425). -/
def noHoldDown (s : State) (w : WaleIx) : Bool :=
  match (s.wport w).lastUp with
  | none => true
  | some t => decide (t + 100000000 ≤ s.time.ft)

/-- A TRAIN word of a port: its state and number (R397). -/
def sendTrain (w : WaleIx) (s : State) : State :=
  sendWord w 1 [BitVec.ofNat 8 (s.wport w).st.num, BitVec.ofNat 8 w.val] s

/-- A port in DOWN begins to train (R398, R425): it sends TRAIN words. -/
def startTrain (w : WaleIx) (s : State) : State :=
  if portEn s w && (s.wport w).st == .down then
    sendTrain w (portState w .train (s.modWport w fun p => { p with trains := 0, cause := 0 }))
  else s

/-- Another word ends a run of consecutive TRAIN words (R398). -/
def endTrains (w : WaleIx) (s : State) : State := s.modWport w fun p => { p with trains := 0 }

/-- A port that fails its handshake (R399). -/
def authFail (w : WaleIx) (s : State) : State :=
  if (s.wport w).st = .auth then
    skeinEvent (locOf 0 w.val) 7 2 (pack [(1, w.val)]) (portState w .authFail s)
  else s

/-! ## Streams through a port -/

/-- The slots of R409 by rate code and format. -/
def slotsOf (h : Nat) (half : Bool) : Nat :=
  match h, half with
  | 1, false => 48 | 1, true => 32
  | 2, false => 32 | 2, true => 16
  | 3, false => 16 | 3, true => 8
  | 4, false => 8 | 4, true => 4
  | _, false => 4 | _, true => 2

/-- Slots reserved on the transmit direction of a port. -/
def slotsUsed (s : State) (w : WaleIx) : Nat :=
  (s.wale.hops.filter fun h => match h.outPort with | some (p, _) => p == w.val | none => false).foldl (fun a h => a + h.slots) 0

/-- The lowest TAG unused on the transmit direction of a port. -/
def freeTag (s : State) (w : WaleIx) : Nat :=
  match (List.range 256).find? fun t => !(s.wale.hops.any fun h => h.outPort == some (w.val, t)) with
  | some t => t
  | none => 0

/-- Whether a hop uses a port. -/
def Hop.uses (h : Hop) (w : WaleIx) : Bool :=
  (match h.inPort with | some (p, _) => p == w.val | none => false) ||
    (match h.outPort with | some (p, _) => p == w.val | none => false)

/-- The source or sink endpoint of a hop on this device. -/
def Hop.localEps (h : Hop) : List Nat :=
  (if h.inPort.isNone then [h.srcEp] else []) ++ (if h.outPort.isNone then [h.sinkEp] else [])

/-- A stream at an endpoint becomes BROKEN (R427). -/
def breakEp (e : Nat) (s : State) : State :=
  if (s.ep e).st = .admitted then
    let again := fld (s.cfg1 .EP_CFG e) 1 0 == 1 && bit (s.cfg1 .EP_PLAY e) 31
    skeinEvent (locOf 0 e) 7 6 (pack [(1, e)]) (s.modEp e fun x => { x with st := .broken, reroute := again, lock := none, buf := [] })
  else s

/-- The streams through a port break, and their hops release their slots. -/
def breakHops (gone : Hop → Bool) (s : State) : State :=
  let l := s.wale.hops.filter gone
  let s := s.modWale fun x => { x with hops := x.hops.filter fun h => !gone h }
  s.each l fun h s => s.each h.localEps breakEp

/-! ## Frames (R402, R405 to R407, R431) -/

/-- The bytes of a request or response before its tag (R402). -/
def frameBytes (f : Frame) (seq : Nat) : List Byte :=
  [BitVec.ofNat 8 (if f.resp then 0x30 else 0x20), BitVec.ofNat 8 f.dst, BitVec.ofNat 8 f.src,
    BitVec.ofNat 8 (b2n f.host * 64 + f.hops), BitVec.ofNat 8 f.dstEp, BitVec.ofNat 8 f.srcEp] ++
    leBytes 2 f.txn ++ leBytes 2 f.payload.length ++ leBytes 2 seq ++ f.payload

/-- The nonce of a frame of a direction (R402): the direction bit, 0 for the end with the lower serial number, the session
number and the frame counter. -/
def WalePort.nonce (p : WalePort) (out : Bool) : Nat :=
  b2n (p.low != out) * 2 ^ 95 + p.session % 2 ^ 31 * 2 ^ 64 + (if out then p.ctrTx else p.ctrRx) % 2 ^ 64

/-- A request or response with its tag (R402), on its way out. -/
def putFrame (w : WaleIx) (f : Frame) (seq : Nat) (s : State) : State :=
  s.modWport w fun p =>
    let l := frameBytes f seq
    { p with sent := p.sent ++ [l ++ beBytes 16 (gcmTag p.keyTx (p.nonce true) l)], ctrTx := p.ctrTx + 1 }

/-- Whether a received frame keeps to the layout of R402: its bits of zero and its length. -/
def frameFits (f : Frame) (zeros : Fin 32) : Bool := zeros == 0 && decide (f.payload.length ≤ 256)

/-- Whether the tag of a received frame verifies (R402). -/
def frameOk (s : State) (w : WaleIx) (f : Frame) (seq : Nat) (tag : BitVec 128) : Bool :=
  tag == BitVec.ofNat 128 (gcmTag (s.wport w).keyRx ((s.wport w).nonce false) (frameBytes f seq))

/-- A channel of a port. -/
def WalePort.chan (p : WalePort) (resp : Bool) : Channel := if resp then p.rsp else p.req
def WalePort.setChan (p : WalePort) (resp : Bool) (c : Channel) : WalePort := if resp then { p with rsp := c } else { p with req := c }
def State.modChan (s : State) (w : WaleIx) (resp : Bool) (f : Channel → Channel) : State :=
  s.modWport w fun p => p.setChan resp (f (p.chan resp))

/-- Returning a credit to the port from which a frame came (R406). -/
def giveCredit (from_ : Nat) (resp : Bool) (s : State) : State :=
  if h : from_ < 8 then sendWord ⟨from_, h⟩ 3 (if resp then [0, 1] else [1, 0]) s else s

/-- One send of a channel that has a frame and a credit; the frame that thereby enters the queue of 16 gives its
credit back (R431). -/
def sendOne (w : WaleIx) (resp : Bool) (s : State) : State :=
  let p := s.wport w
  let c := p.chan resp
  match c.queue with
  | [] => s
  | f :: rest =>
    if p.st = .up ∧ 0 < c.credits then
      let s := putFrame w f c.seqTx s
      let s := s.modChan w resp fun c =>
        { c with queue := rest, unacked := c.unacked ++ [⟨f, c.seqTx, 1⟩], seqTx := (c.seqTx + 1) % 65536,
                 credits := c.credits - 1, lastAck := if c.unacked.isEmpty then s.time.ft else c.lastAck }
      match c.queue[16]? with
      | some g => giveCredit g.from_ resp s
      | none => s
    else s

/-- Sending what a channel may send. -/
def pump (w : WaleIx) (resp : Bool) (s : State) : State :=
  ((List.range 17).foldl (fun t _ => sendOne w resp t) s)

/-- Queueing a frame at a port: within the 16 places its receive buffer is free again. -/
def enqueue (w : WaleIx) (f : Frame) (s : State) : State :=
  let room := decide (((s.wport w).chan f.resp).queue.length < 16)
  let s := if room then giveCredit f.from_ f.resp s else s
  pump w f.resp (s.modChan w f.resp fun c => { c with queue := c.queue ++ [f] })

/-- Where a frame for a destination leaves: the port of the route table, or of the up port while a device without a
route answers the root; none when it is unreachable or its port is not UP (R418, R426). -/
def routePort (s : State) (dst : Nat) : Option WaleIx :=
  let r := s.wale.routes[Fin.ofNat 64 dst]
  let r := if 8 ≤ r ∧ dst = 0 then s.wale.upPort else r
  if h : r < 8 then (if (s.wport ⟨r, h⟩).st = .up then some ⟨r, h⟩ else none) else none

/-- Sending a frame of this device towards its destination; false when no port leads there. -/
def sendFrame (f : Frame) (s : State) : Bool × State :=
  match routePort s f.dst with
  | some w => (true, enqueue w f s)
  | none => (false, s)

/-- The answer of this device to a request (R403): by the route, or on the port of the request, whose receive buffer is
free again. -/
def answer (f : Frame) (payload : List Byte) (s : State) : State :=
  let s := giveCredit f.from_ f.resp s
  let g : Frame :=
    { resp := true, dst := f.src, src := s.wale.addr, host := false, hops := 63, dstEp := f.srcEp, srcEp := f.dstEp,
      txn := f.txn, payload := payload, from_ := 8 }
  match routePort s f.src with
  | some w => enqueue w g s
  | none => if h : f.from_ < 8 then enqueue ⟨f.from_, h⟩ g s else s

/-- A response that is kept for 200 ms, the last 16 of each source (12_guarantees.md R434). -/
def keepResponse (f : Frame) (payload : List Byte) (s : State) : State :=
  s.modWale fun x =>
    let mine := (x.kept.filter fun k => k.src == f.src)
    let drop := mine.length - 15
    let old := (x.kept.foldl (fun (a : List Kept × Nat) k =>
      if k.src == f.src && a.2 != 0 then (a.1, a.2 - 1) else (a.1 ++ [k], a.2)) ([], drop)).1
    { x with kept := old ++ [⟨f.src, f.txn, payload, s.time.ft⟩] }

/-- The kept response of a request, if any. -/
def keptFor (s : State) (f : Frame) : Option Kept :=
  s.wale.kept.find? fun k => k.src == f.src && k.txn == f.txn && decide (s.time.ft < k.at_ + 200000000)

/-- Answering a request as its target: the response is kept (R434). -/
def reply (f : Frame) (payload : List Byte) (s : State) : State := answer f payload (keepResponse f payload s)

/-- A request of this device as target, once: a repeated one is answered with the kept response (R434). -/
def once (f : Frame) (work : State → State) (s : State) : State :=
  match keptFor s f with
  | some k => answer f k.payload s
  | none => work s

/-- A response of a code and data. -/
def codeBytes (c : Code) (data : List Byte) : List Byte := BitVec.ofNat 8 c.num :: data

/-- Forwarding a frame (R418, R426): a request that cannot go on is answered with TIMEOUT, a response is discarded. -/
def forward (f : Frame) (s : State) : State :=
  if f.hops ≤ 1 then giveCredit f.from_ f.resp s
  else
    let (ok, t) := sendFrame { f with hops := f.hops - 1 } s
    if ok then t else if f.resp then giveCredit f.from_ true s else answer f (codeBytes .timeout []) s

/-- Tree ports of this device (R418). -/
def treePorts (s : State) : List WaleIx := allWports.filter fun w => (s.wport w).st == .up && (s.wport w).tree

/-- A broadcast frame goes on along the discovery tree (R418), as copies of this device. -/
def forwardTree (f : Frame) (s : State) : State :=
  if f.hops ≤ 1 then s
  else s.each ((treePorts s).filter fun w => w.val != f.from_) fun w s =>
    enqueue w { f with hops := f.hops - 1, from_ := 8 } s

/-! ## Going DOWN (R424 to R427) -/

/-- The device's own request to the root (R403). -/
def requestTo (dst dstEp srcEp : Nat) (payload : List Byte) (s : State) : Frame × State :=
  ({ resp := false, dst := dst, src := s.wale.addr, host := false, hops := 63, dstEp := dstEp, srcEp := srcEp,
     txn := s.wale.nextTxn, payload := payload, from_ := 8 }, s.modWale fun x => { x with nextTxn := (x.nextTxn + 1) % 65536 })

/-- Whether a request is one of a transaction (12_guarantees.md R433); any other is sent once. -/
def isTransaction (f : Frame) : Bool := [1, 2, 3, 4, 0x23].contains (field f.payload 0 1)

/-- Starting a transaction of this device (12_guarantees.md R433): an attempt that finds no port waits for its retry. A
request that is sent once waits for its answer only. -/
def startTxn (f : Frame) (o : TxnOwner) (s : State) : State :=
  let (ok, s) := sendFrame f s
  if ok || isTransaction f then s.modWale fun x => { x with txns := x.txns ++ [⟨f, o, 1, !ok, s.time.ft⟩] } else s

/-- Reporting a link event to the root (R426). -/
def reportLink (w : WaleIx) (s : State) : State :=
  if s.wale.addr = 0 ∨ 63 ≤ s.wale.addr then s
  else
    let p := s.wport w
    let (f, s) := requestTo 0 0 0 ([0x23, BitVec.ofNat 8 w.val, BitVec.ofNat 8 p.st.num] ++ leBytes 8 p.peerSerial) s
    startTxn f .device s

/-- A port goes DOWN (R424 to R427; 12_guarantees.md R432 row 5). -/
def portDown (w : WaleIx) (cause : Nat) (s : State) : State :=
  let p := s.wport w
  if p.st = .down then s
  else
    let was := p.st == .up
    let s := sendWord w 7 [BitVec.ofNat 8 cause] s
    let s := portState w .down (s.modWport w fun p => { p with cause := cause })
    let s := s.modWport w fun p =>
      { p with lastUp := if was then some s.time.ft else p.lastUp, downs := if was then satInc 0xFFFF p.downs else p.downs,
               trains := 0, hello := none, authed := false, peerSerial := 0, peerAddr := 63, tree := false, t1 := none,
               t2 := none, t3 := none, t4 := none, req := .reset, rsp := .reset, keyTx := 0, keyRx := 0, ctrTx := 0,
               ctrRx := 0 }
    if was then
      let s := breakHops (fun h => h.uses w) s
      let s := if s.time.ft < p.since + 10 ^ 9 then grtSet 5 s else s
      let s := if s.wale.upPort = w.val then
          s.modWale fun x => { x with upPort := 15, freqLock := false, rootLost := some s.time.ft }
        else s
      reportLink w s
    else s

/-- Clearing EN (R424). -/
def portDisable (w : WaleIx) (s : State) : State := portDown w 6 s

/-! ## Bring-up (R398, R399) -/

/-- A link frame of the handshake (R399): its TYPE, the step, the length, the message and its CRC-32. The bytes about the
message are a DESIGN CHOICE (notes/assumptions/73.md). -/
def linkFrame (step : Byte) (l : List Byte) : List Byte :=
  let b := [0x40, step] ++ leBytes 2 l.length ++ l
  b ++ leBytes 4 (crc32 b)

/-- Sending a frame that needs no credit. -/
def sendRaw (w : WaleIx) (l : List Byte) (s : State) : State := s.modWport w fun p => { p with sent := p.sent ++ [l] }

/-- The bytes of a first handshake message: serial, BASKET_ID, key, nonce. -/
def helloBytes (serial : Nat) (basket : Word) (key nonce : Nat) : List Byte :=
  leBytes 8 serial ++ wordBytes basket ++ beBytes 97 key ++ beBytes 32 nonce

/-- The device's own first handshake message, with its fresh key and nonce. -/
def ownHello (s : State) (w : WaleIx) : List Byte :=
  let m := (s.wport w).mine
  helloBytes s.serial (s.cfg0 .BASKET_ID) (Config.ecdhPublic (Config.random (2 * m))) (Config.random (2 * m + 1) % 2 ^ 256)

/-- The lead of a handshake: AUTH begins with a fresh key and nonce, which the device sends (R399 step 1,
19_lid_security.md R569). -/
def startAuth (w : WaleIx) (s : State) : State :=
  let s := portState w .auth s
  let s := s.tick.modWport w fun p => { p with mine := s.freeCtr, session := p.session + 1, hello := none, authed := false }
  if s.lid.rngFail then authFail w s else sendRaw w (linkFrame 1 (ownHello s w)) s

/-- A received TRAIN word (R398), which a port in TRAIN answers with its own. -/
def trainWord (w : WaleIx) (peerState peerPort : Nat) (s : State) : State :=
  let s := s.modWport w fun p => { p with lock := true, peerState := peerState, peerPort := peerPort }
  let s := if (s.wport w).st = .down ∧ noHoldDown s w then startTrain w s else s
  if (s.wport w).st = .train then
    let s := sendTrain w (s.modWport w fun p => { p with trains := p.trains + 1 })
    if 64 ≤ (s.wport w).trains then startAuth w s else s
  else s

/-- Two lists in the order of rising serial number, this device's first. -/
def bySerial (s : State) (peer : Nat) (a b : List Byte) : List Byte := if s.serial ≤ peer then a ++ b else b ++ a

/-- The digest that the signatures of the handshake cover: both messages in the order of rising serial number. -/
def helloDigest (s : State) (w : WaleIx) (h : PeerHello) : Nat :=
  sha384 (bySerial s h.serial (ownHello s w) (helloBytes h.serial h.basket h.key h.nonce))

/-- The two link keys (R399 step 4), that of the lower serial number's direction first: 512 bits of the one-step
derivation, over both nonces and both serial numbers. -/
def linkKeys (s : State) (w : WaleIx) (h : PeerHello) : Nat × Nat :=
  let m := (s.wport w).mine
  let z := beBytes 48 (Config.ecdhShared (Config.random (2 * m)) h.key)
  let info := bySerial s h.serial (beBytes 32 (Config.random (2 * m + 1) % 2 ^ 256)) (beBytes 32 h.nonce) ++
    bySerial s h.serial (leBytes 8 s.serial) (leBytes 8 h.serial)
  let k := fun (n : Nat) => sha384 (beBytes 4 n ++ z ++ info)
  let all := k 1 * 2 ^ 384 + k 2
  (all / 2 ^ 512, all / 2 ^ 256 % 2 ^ 256)

/-- The peer's first handshake message, which one in AUTH keeps; the device answers with its certificate and its signature
over both messages (R399 step 2). -/
def authHello (w : WaleIx) (serial : Nat) (basket : Word) (key nonce : Nat) (s : State) : State :=
  if (s.wport w).st = .auth then
    let h : PeerHello := ⟨serial, basket, key, nonce⟩
    let sig := Config.signature s.freeCtr (helloDigest s w h)
    sendRaw w (linkFrame 2 (beBytes 256 (Config.otpKey 3) ++ beBytes 96 sig)) (s.tick.modWport w fun p => { p with hello := some h })
  else s

/-- Whether a certificate of 256 bytes is valid for a serial number (19_lid_security.md R570). -/
def certValid (cert : List Byte) (serial : Nat) : Bool :=
  let part := field cert 0x0C 2
  field cert 0 4 == 1 && field cert 4 8 == serial && (part == 0x4202 || part == 0x4204 || part == 0x4208) &&
    Config.verifies (Config.otpKey 2) (sha384 (cert.take 0xA0)) (beNat ((cert.drop 0xA0).take 96))

/-- The peer's certificate and signature (R399 steps 2 to 4). -/
def authCert (w : WaleIx) (cert : List Byte) (sig : Nat) (s : State) : State :=
  match (s.wport w).hello with
  | none => s
  | some h =>
    if (s.wport w).st ≠ .auth then s
    else if certValid cert h.serial && Config.verifies (beNat ((cert.drop 0x10).take 97)) (helloDigest s w h) sig &&
        h.basket == s.cfg0 .BASKET_ID then
      let low := decide (s.serial ≤ h.serial)
      let k := linkKeys s w h
      s.modWport w fun p =>
        { p with authed := true, peerSerial := h.serial, low := low, keyTx := if low then k.1 else k.2,
                 keyRx := if low then k.2 else k.1, ctrTx := 0, ctrRx := 0 }
    else authFail w s

/-- The end of a handshake and its first TIME exchange: the port is UP (R398). -/
def portUp (w : WaleIx) (s : State) : State :=
  portState w .up (s.modWport w fun p => { p with req := .reset, rsp := .reset, cause := 0 })

/-! ## Acknowledgement, credits and resends (R406, R407) -/

/-- Whether a SEQ is at or before another (16 bits). -/
def seqUpTo (a b : Nat) : Bool := decide ((b + 65536 - a % 65536) % 65536 < 32768)

/-- A received ACK. -/
def ackWord (w : WaleIx) (resp : Bool) (seq : Nat) (s : State) : State :=
  s.modChan w resp fun c =>
    let rest := c.unacked.filter fun f => !seqUpTo f.seq seq
    if rest.length < c.unacked.length then { c with unacked := rest, lastAck := s.time.ft } else c

/-- A received CREDIT word: a response that waits goes before a request (R405). -/
def creditWord (w : WaleIx) (q r : Nat) (s : State) : State :=
  let s := s.modChan w false fun c => { c with credits := min 16 (c.credits + q) }
  let s := s.modChan w true fun c => { c with credits := min 16 (c.credits + r) }
  pump w false (pump w true s)

/-- 2 µs without an advancing ACK (R407, R432). -/
def replayTimeout (w : WaleIx) (resp : Bool) (s : State) : State :=
  let c := (s.wport w).chan resp
  if (s.wport w).st ≠ .up ∨ c.unacked.isEmpty then s
  else if c.unacked.any fun f => decide (4 ≤ f.sends) then portDown w 4 s
  else
    let n := c.unacked.length
    let s := s.modChan w resp fun c =>
      { c with unacked := c.unacked.map fun f => { f with sends := f.sends + 1 }, lastAck := s.time.ft }
    let s := s.modWport w fun p =>
      { p with resends := satAdd 0xFFFF n p.resends,
               resent := (p.resent.filter fun t => decide (s.time.ft < t + 10 ^ 9)) ++ List.replicate n s.time.ft }
    let s := s.each c.unacked fun u s => putFrame w u.f u.seq s
    if 16 < (s.wport w).resent.length then grtSet 5 s else s

/-- What becomes of a received request or response (R402, R407, R432), which counts for the nonce: a bad tag or an
unexpected SEQ discards it, any other is acknowledged and handed on. -/
def linkRx (w : WaleIx) (f : Frame) (seq : Nat) (fits tagOk : Bool) (k : Frame → State → State) (s : State) : State :=
  if (s.wport w).st ≠ .up then s else
  let s := s.modWport w fun p => { p with ctrRx := p.ctrRx + 1 }
  if !fits then grtSet 2 (s.modWport w fun p => { p with tagFail := satInc 0xFFFF p.tagFail })
  else if !tagOk then s.modWport w fun p => { p with tagFail := satInc 0xFFFF p.tagFail }
  else if seq ≠ ((s.wport w).chan f.resp).seqRx then s
  else
    let s := s.modChan w f.resp fun c => { c with seqRx := (c.seqRx + 1) % 65536 }
    let s := sendWord w 2 (BitVec.ofNat 8 (b2n f.resp) :: leBytes 2 seq) s
    k { f with from_ := w.val } s

/-- Block errors and loss of block lock (R395, R424). -/
def blockErrors (w : WaleIx) (lost : Bool) (n : Nat) (s : State) : State :=
  let s := s.modWport w fun p => { p with blkErr := satAdd 0xFFFF n p.blkErr, lock := p.lock && !lost }
  if lost then portDown w 1 s else if 16 ≤ n then portDown w 2 s else s

/-! ## Fabric time (R420 to R422) -/

/-- The signed difference of two 48-bit times. -/
def diff48 (a b : Nat) : Int := signed 48 ((a + 2 ^ 48 - b % 2 ^ 48) % 2 ^ 48)

/-- One round: TIME and TIME_RX on every port that is UP or waits for its first exchange, and the slots are counted anew
(R409, R420; 12_guarantees.md R432). -/
def roundTimer (s : State) : State :=
  let s := s.modWale fun x => { x with hops := x.hops.map fun h => { h with frames := 0 } }
  s.each (allWports.filter fun w => (s.wport w).st == .up || (s.wport w).authed) fun w s =>
    let s := sendWord w 4 (leBytes 6 s.fab) (s.modWport w fun p => { p with t1 := some (s.fab % 2 ^ 48) })
    match (s.wport w).t4 with
    | some t => sendWord w 5 (leBytes 6 t) s
    | none => s

/-- A received TIME word: the peer's send time and its arrival. -/
def timeWord (w : WaleIx) (t : Nat) (s : State) : State :=
  s.modWport w fun p => { p with t3 := some t, t4 := some (s.fab % 2 ^ 48), lastTime := s.time.ft }

/-- Moving fabric time by a step at a join (R421): what is counted from a strand's reset does not move with it, timed resets that the step passes
take place, and every sink ends its lock. -/
def stepTime (d : Int) (s : State) : State :=
  let s := { s with time := { s.time with off := s.time.off + d } }
  let s := s.modWale fun x =>
    { x with steps := satInc 0xFF x.steps, joined := true, eps := x.eps.map fun e => { e with lock := none } }
  let s := s.each allDies fun k s =>
    match (s.dies[k]).armed with
    | some (m, t) =>
      if t ≤ s.fab then
        s.each (maskStrands m) (syncReset (some t) k) |>.modDie k fun d => { d with armed := none, missed := true }
      else s
    | none => s
  skeinEvent (locOf 0 0) 7 5 0 s

/-- A received TIME_RX word: the exchange is complete (R420 to R422). The offset and the delay are kept in 0.01 ns. -/
def timeRx (w : WaleIx) (t2 : Nat) (up : State → State) (s : State) : State :=
  let p := s.wport w
  match p.t1, p.t3, p.t4 with
  | some t1, some t3, some t4 =>
    let a := diff48 t2 t1
    let b := diff48 t4 t3
    let off := 50 * (a - b) - sfld (s.cfg1 .PORT_CTRL w) 31 16
    let s := s.modWport w fun p => { p with t2 := some t2, delay := 50 * (diff48 t4 t1 - diff48 t3 t2) }
    let s := if p.st = .auth ∧ p.authed then up (portUp w s) else s
    if s.wale.upPort = w.val then
      let s := s.modWale fun x => { x with offset := off, freqLock := true }
      if !s.wale.joined then stepTime (off / 100) s
      else if 0 ≤ off then { s with time := { s.time with off := s.time.off + off / 100 } }
      else s
    else s
  | _, _, _ => s

/-! ## Stream frames (R401, R412, R413) -/

/-- One bit of the CRC-16 with polynomial 0x1021. -/
def crc16Bit (c : Nat) : Nat := if 0x8000 ≤ c then Nat.xor (c * 2 % 65536) 0x1021 else c * 2

/-- The CRC-16 of a list of bytes (R401). -/
def crc16 (l : List Byte) : Nat :=
  l.foldl (fun c b => (List.range 8).foldl (fun c _ => crc16Bit c) (Nat.xor c (b.toNat * 256))) 0xFFFF

/-- The samples of a frame (R401). -/
def frameSamples (half : Bool) (l : List Byte) : List Cx :=
  (List.range 64).map fun n =>
    if half then
      let w := field l (3 * n) 3
      ⟨signed 12 (w % 4096), signed 12 (w / 4096)⟩
    else ⟨signed 16 (field l (4 * n) 2), signed 16 (field l (4 * n + 2) 2)⟩

/-- A stream frame of a block (R401, R412). -/
def streamBytes (half valid : Bool) (tag ts : Nat) (xs : List Cx) : List Byte :=
  let head := [BitVec.ofNat 8 (0x10 + 8 * b2n half + 4 * b2n valid), BitVec.ofNat 8 tag] ++ leBytes 3 ts
  let body := xs.flatMap fun z =>
    if half then leBytes 3 (enc 12 z.re + 4096 * enc 12 z.im) else leBytes 2 (enc 16 z.re) ++ leBytes 2 (enc 16 z.im)
  head ++ body ++ leBytes 2 (crc16 (head ++ body))

/-- The block duration of a rate in 1/12 ns. -/
def blockTwelfths (h : Nat) : Nat := 3125 * 2 ^ (h - 1)

/-- Hand-over j of a strand in ns of fabric time: block boundaries are counted from its synchronising reset (R216,
02_converters_riddle.md R74). -/
def handOver (s : State) (k : DieIx) (i : StrandIx) (j : Nat) : Nat :=
  s.fabOf (s.rid k i).sync + (j + 1) * blockTwelfths (rdlH s k i) / 12 + 24

/-- The strand that a sink endpoint serves (R408). -/
def sinkStrand (s : State) (e : Nat) : Option (DieIx × StrandIx) :=
  (allDies.flatMap fun k => allStrands.map fun i => (k, i)).find? fun x =>
    isRunning s x.1 x.2 && ((inStream s x.1 x.2 && inEp s x.1 x.2 == e) ||
      (match boundImage s x.1 x.2 with | some g => g.res.any (fun r => r.kind == 0 && r.ep == e) | none => false))

/-- The full send time: the latest one not after fabric time with the low 24 bits of the frame (R413). -/
def fullSend (ft low : Nat) : Nat := ft - (ft + 2 ^ 24 - low % 2 ^ 24) % 2 ^ 24

/-- The first invocation whose hand-over falls at or after a time. -/
def firstHandOver (s : State) (k : DieIx) (i : StrandIx) (t : Nat) : Nat :=
  let b := blockTwelfths (rdlH s k i)
  let base := s.fabOf (s.rid k i).sync + 24
  if t ≤ base then 0 else ((t - base) * 12 + b - 1) / b - 1

/-- A frame at the sink (R413): its full send time, its block, absent where the CRC failed. -/
def sinkFrame (e ts : Nat) (b : Option Block) (s : State) : State :=
  if (s.ep e).st ≠ .admitted then s
  else match sinkStrand s e with
    | none => s
    | some (k, i) =>
      let play := fld (s.cfg1 .EP_PLAY e) 19 0
      let bt := blockTwelfths (rdlH s k i)
      let at_ := fun (j : Nat) => (s.prog k i).inv + (s.prog k i).inQ.length ≤ j
      let put := fun (j : Nat) (s : State) =>
        if s.fab ≤ handOver s k i j ∧ at_ j then s.modEp e fun x => { x with buf := (x.buf.filter fun y => y.1 != j) ++ [(j, b)] } else s
      let relock := fun (s : State) =>
        if b.isNone then s
        else
          let j0 := firstHandOver s k i (ts + play)
          put j0 (s.modEp e fun x => { x with lock := some (ts, j0), offset := handOver s k i j0 - (ts + play) })
      let s := if b.isNone then s.modEp e fun x => { x with crcErr := satInc 0xFF x.crcErr } else s
      match (s.ep e).lock with
      | none => relock s
      | some (t0, j0) =>
        let d := ((ts : Int) - t0) * 12
        let kk := roundDiv d bt
        if kk < 0 ∨ 24 < (d - kk * bt).natAbs then relock (if b.isNone then s else s.modEp e fun x => { x with lock := none })
        else put (j0 + kk.toNat) s

/-- The contention count at an output port (12_guarantees.md R438). -/
def contend (waiting : Nat) (s : State) : State :=
  if 2 ≤ waiting then s.modWale fun x => { x with contend := true, contends := satInc 0xFFFF x.contends } else s

/-- Sending a stream frame on a port. -/
def sendStream (w : WaleIx) (waiting : Nat) (l : List Byte) (s : State) : State :=
  contend waiting (s.modWport w fun p => { p with sent := p.sent ++ [l] })

/-- Whether a hop's slots hold one more frame in this round (R409; 12_guarantees.md R432). -/
def Hop.admits (h : Hop) (len : Nat) : Bool := decide (h.frames * len * 88 < h.slots * 17280)

/-- A received stream frame (R400, R401, R413; 12_guarantees.md R432). A TYPE that is none of R400 is a block error, and its
bytes are discarded; so are those of a type that is no stream frame's. -/
def streamRx (w : WaleIx) (l : List Byte) (waiting : Nat) (s : State) : State :=
  let half := field l 0 1 / 8 % 2 == 1
  let tag := field l 1 1
  let key := some (w.val, tag)
  let type := field l 0 1 / 16
  if 5 ≤ type then s.modWport w fun p => { p with blkErr := satInc 0xFFFF p.blkErr }
  else if (s.wport w).st ≠ .up ∨ type ≠ 1 then s
  else match s.wale.hops.find? fun h => h.inPort == key with
    | none => grtSet 4 (s.modWale fun x => { x with policed := satInc 0xFF x.policed })
    | some h =>
      if !h.admits l.length then grtSet 4 (s.modWale fun x => { x with policed := satInc 0xFF x.policed })
      else
        let s := s.modWale fun x =>
          { x with hops := x.hops.map fun g => if g.inPort == key then { g with frames := g.frames + 1 } else g }
        let n := if half then 199 else 263
        let good := decide (l.length = n) && crc16 (l.take (n - 2)) == field l (n - 2) 2
        match h.outPort with
        | some (p, t) =>
          let body := l.take 1 ++ [BitVec.ofNat 8 t] ++ (l.drop 2).take (n - 4)
          let c := crc16 body
          sendStream (Fin.ofNat 8 p) waiting (body ++ leBytes 2 (if good then c else Nat.xor c 1)) s
        | none =>
          let b : Block := ⟨field l 0 1 / 4 % 2 == 1, frameSamples half (l.drop 5), 0, []⟩
          sinkFrame h.sinkEp (fullSend s.fab (field l 2 3)) (if good then some b else none) s

/-- A sample in the format of an endpoint, and how many of its parts saturate (R412). -/
def toTwelve (z : Cx) : Cx × Nat :=
  let a := roundDiv z.re 16
  let b := roundDiv z.im 16
  (⟨sat 12 a, sat 12 b⟩, if sat 12 a = a ∧ sat 12 b = b then 0 else 1)

/-- The frame of a block whose last sample has left the gate (R412). -/
def streamTx (k : DieIx) (i : StrandIx) (waiting : Nat) (s : State) : State :=
  match (s.strand k i).toGate with
  | [] => s
  | b :: rest =>
    let s := s.modStrand k i fun t => { t with toGate := rest }
    let e := outEp s k i
    if outKind s k i ≠ 2 ∨ (s.ep e).st ≠ .admitted then s
    else
      let half := bit (s.cfg1 .EP_CFG e) 4
      let muted := (s.strand k i).gate == 0 && muteBits s k i != 0
      let xs := if muted then List.replicate 64 Cx.zero else b.xs
      let conv := xs.map toTwelve
      let clips := if half then conv.foldl (fun a z => a + z.2) 0 else 0
      let xs := if half then conv.map (·.1) else xs.map fun z => ⟨sat 16 z.re, sat 16 z.im⟩
      let ts := s.fab - samplesNs (rdlH s k i) 64
      let s := s.tick.modEp e fun x => { x with crcErr := satAdd 0xFF clips x.crcErr }
      match s.wale.hops.find? fun h => h.inPort.isNone && h.srcEp == e && h.admitted with
      | none => s
      | some h =>
        match h.outPort with
        | some (p, t) => sendStream (Fin.ofNat 8 p) waiting (streamBytes half b.valid t ts xs) s
        | none => sinkFrame h.sinkEp ts (some ⟨b.valid, xs, 0, []⟩) s

/-! ## Admission (R408 to R411) -/

/-- D_route of R411 in 1/120 ns. -/
def dRoute (h n : Nat) (half : Bool) : Nat := 10 * blockTwelfths h + 11520 + n * (26400 + if half then 7008 else 9264)

/-- Ending an admission at its source with a fault (R410, R427, R429): the source releases what the admission reserved, and
a stream that was admitted before keeps its hop. -/
def admitFail (e fault : Nat) (s : State) : State :=
  let s := s.modWale fun x => { x with hops := x.hops.filter fun h => !(h.inPort.isNone && h.srcEp == e && !h.admitted) }
  let s := s.modEp e fun x => { x with asked := none, auto := false, reroute := false, fault := fault }
  skeinEvent (locOf 0 e) 7 8 (pack [(1, e), (1, fault)]) s

/-- Ending an admission at its source with success. -/
def admitOk (e dr hops : Nat) (s : State) : State :=
  let again := (s.ep e).auto
  let s := s.modWale fun x =>
    { x with hops := x.hops.map fun h => if h.inPort.isNone && h.srcEp == e then { h with admitted := true } else h }
  let c := s.cfg1 .EP_CFG e
  let s := s.modEp e fun x =>
    { x with st := .admitted, asked := none, auto := false, reroute := false, fault := 0, hops := hops, dRoute := dr,
             slots := if hops = 0 then 0 else slotsOf (fld c 10 8) (bit c 4) }
  if again then skeinEvent (locOf 0 e) 7 7 (pack [(1, e)]) s else s

/-- The checks of the sink on an admission (R410): the source as (address, endpoint, FMT, H) and D_route. -/
def sinkFault (s : State) (e src srcEp : Nat) (half : Bool) (h dr : Nat) : Nat :=
  let c := s.cfg1 .EP_CFG e
  if fld c 1 0 ≠ 2 ∨ fld c 21 16 ≠ src ∨ fld c 31 24 ≠ srcEp ∨ bit c 4 ≠ half ∨ fld c 10 8 ≠ h then 3
  else if fld (s.cfg1 .EP_PLAY e) 19 0 * 120 < dr then 5
  else if (s.ep e).st = .admitted then 6
  else 0

/-- The sink accepts: its endpoint is ADMITTED. -/
def sinkAccept (e hops h : Nat) (half : Bool) (s : State) : State :=
  s.modEp e fun x =>
    { x with st := .admitted, hops := hops, fault := 0, lock := none, buf := [], slots := if hops = 0 then 0 else slotsOf h half }

/-- ADMIT at a source endpoint (R410), by the host or as a re-admission. A local stream has its two strands on any band dies
of the device, the same one too: 01_architecture.md R23 speaks of another die, and no check refuses one (DESIGN CHOICE,
notes/assumptions/141.md). -/
def admitStart (e : Nat) (auto : Bool) (s : State) : State :=
  let c := s.cfg1 .EP_CFG e
  let peer := fld c 21 16
  let pep := fld c 31 24
  let half := bit c 4
  let h := fld c 10 8
  if (s.ep e).asked.isSome then s
  else
    let s := s.modEp e fun x => { x with asked := some s.time.ft, auto := auto }
    if fld c 1 0 ≠ 1 ∨ (s.ep e).st = .admitted then admitFail e 1 s
    else if peer = 63 then admitFail e 2 s
    else if peer = s.wale.addr then
      let f := sinkFault s pep s.wale.addr e half h (dRoute h 0 half)
      if f ≠ 0 then admitFail e f s
      else
        let hop : Hop :=
          { src := s.wale.addr, inPort := none, srcEp := e, outPort := none, sinkEp := pep, slots := 0, frames := 0, admitted := true }
        let s := s.modWale fun x => { x with hops := x.hops ++ [hop] }
        admitOk e (dRoute h 0 half) 0 (sinkAccept pep 0 h half s)
    else match routePort s peer with
      | none => admitFail e (if (s.wale.routes[Fin.ofNat 64 peer]) < 8 then 4 else 2) s
      | some w =>
        if 128 < slotsUsed s w + slotsOf h half then admitFail e 4 s
        else
          let t := freeTag s w
          let hop : Hop :=
            { src := s.wale.addr, inPort := none, srcEp := e, outPort := some (w.val, t), sinkEp := pep,
              slots := slotsOf h half, frames := 0, admitted := false }
          let s := s.modWale fun x => { x with hops := x.hops ++ [hop] }
          let (f, s) := requestTo peer pep e ([0x10, BitVec.ofNat 8 (b2n half), BitVec.ofNat 8 h, BitVec.ofNat 8 t, 1]) s
          startTxn f .device s

/-- An admission request that reaches this device on a port with its TAG there, after n hops (R410). -/
def admitRx (f : Frame) (half : Bool) (h tag n : Nat) (s : State) : State :=
  let inp := some (f.from_, tag)
  if f.dst = s.wale.addr then
    let dr := dRoute h n half
    let flt := sinkFault s f.dstEp f.src f.srcEp half h dr
    if flt ≠ 0 then answer f (codeBytes .ok [BitVec.ofNat 8 flt]) s
    else
      let hop : Hop :=
        { src := f.src, inPort := inp, srcEp := f.srcEp, outPort := none, sinkEp := f.dstEp, slots := slotsOf h half,
          frames := 0, admitted := true }
      let s := sinkAccept f.dstEp n h half (s.modWale fun x => { x with hops := x.hops ++ [hop] })
      answer f (codeBytes .ok ([0] ++ leBytes 4 dr ++ [BitVec.ofNat 8 tag])) s
  else match routePort s f.dst with
    | none => answer f (codeBytes .ok [if (s.wale.routes[Fin.ofNat 64 f.dst]) < 8 then 4 else 2]) s
    | some w =>
      if 128 < slotsUsed s w + slotsOf h half then answer f (codeBytes .ok [4]) s
      else
        let t := freeTag s w
        let hop : Hop :=
          { src := f.src, inPort := inp, srcEp := f.srcEp, outPort := some (w.val, t), sinkEp := f.dstEp,
            slots := slotsOf h half, frames := 0, admitted := false }
        let s := s.modWale fun x => { x with hops := x.hops ++ [hop] }
        forward { f with payload := [0x10, BitVec.ofNat 8 (b2n half), BitVec.ofNat 8 h, BitVec.ofNat 8 t, BitVec.ofNat 8 (n + 1)] } s

/-- The answer to an admission at the source endpoint: the fault, D_route in 1/120 ns and the hops (R410). -/
def admitAnswer (e fault dr hops : Nat) (s : State) : State :=
  if (s.ep e).asked.isSome then (if fault = 0 then admitOk e dr hops s else admitFail e fault s) else s

/-- Releasing a stream along its route from its source's hop (R403). -/
def releaseAlong (e : Nat) (h : Hop) (s : State) : State :=
  match h.outPort with
  | none => s.modEp h.sinkEp fun x => { x with st := .idle, lock := none, buf := [], slots := 0, hops := 0 }
  | some (_, t) =>
    let (f, s) := requestTo (fld (s.cfg1 .EP_CFG e) 21 16) h.sinkEp e [0x11, BitVec.ofNat 8 t] s
    startTxn f .device s

/-- No answer within 2 ms (R410): as on a refusal, every hop is to release what it reserved, so the source sends a Release
(DEDUCED, notes/assumptions/140.md). -/
def admitTimeout (e : Nat) (s : State) : State :=
  if (s.ep e).asked.isSome then
    let l := s.wale.hops.filter fun h => h.inPort.isNone && h.srcEp == e && !h.admitted && h.outPort.isSome
    let s := admitFail e 7 (s.modWale fun x => { x with txns := x.txns.filter fun t =>
      !(t.owner == .device && t.f.srcEp == e && field t.f.payload 0 1 == 0x10) })
    s.each l (releaseAlong e)
  else s

/-- An answer to an admission that passes through this device: a refusal releases its hop (R410). -/
def admitPass (f : Frame) (s : State) : State :=
  let mine := fun (h : Hop) => h.src == f.dst && h.srcEp == f.dstEp && !h.admitted && h.inPort.isSome
  if f.payload.length ≠ 2 ∧ f.payload.length ≠ 7 then s
  else if field f.payload 1 1 = 0 then
    s.modWale fun x => { x with hops := x.hops.map fun h => if mine h then { h with admitted := true } else h }
  else s.modWale fun x => { x with hops := x.hops.filter fun h => !mine h }

/-- RELEASE at a source endpoint (R428). -/
def releaseStart (e : Nat) (s : State) : State :=
  match (s.ep e).st with
  | .idle => s
  | .broken => s.modEp e fun x => { x with st := .idle, reroute := false }
  | .admitted =>
    let l := s.wale.hops.filter fun h => h.inPort.isNone && h.srcEp == e
    let s := s.modWale fun x => { x with hops := x.hops.filter fun h => !(h.inPort.isNone && h.srcEp == e) }
    let s := s.modEp e fun x => { x with st := .idle, slots := 0, hops := 0 }
    s.each l (releaseAlong e)

/-- A release request on a port, naming the TAG there (R403). -/
def releaseRx (f : Frame) (tag : Nat) (s : State) : State :=
  let key := some (f.from_, tag)
  match s.wale.hops.find? fun h => h.inPort == key with
  | none => if f.dst = s.wale.addr then answer f (codeBytes .ok []) s else forward f s
  | some h =>
    let s := s.modWale fun x => { x with hops := x.hops.filter fun g => g.inPort != key }
    match h.outPort with
    | none =>
      answer f (codeBytes .ok []) (s.modEp h.sinkEp fun x => { x with st := .idle, lock := none, buf := [], slots := 0, hops := 0 })
    | some (_, t) => forward { f with payload := [0x11, BitVec.ofNat 8 t] } s

/-- Re-admission of a broken stream once the device has its new table (R427). -/
def readmit (e : Nat) (s : State) : State :=
  if (s.ep e).st = .broken ∧ (s.ep e).reroute then admitStart e true s else s

/-! ## Messages from programs (R240, R286) -/

/-- A message for an endpoint of this device. -/
def deliverMessage (e : Nat) (bytes : List Byte) (s : State) : State :=
  s.each allDies fun k s => s.each allStrands fun i s =>
    match boundImage s k i with
    | none => s
    | some g => s.each (List.finRange 4) fun r s =>
      match g.res[r.val]? with
      | some x => if x.kind = 2 ∧ x.ep = e then messageArrival k i r bytes s else s
      | none => s

/-- The messages that an invocation composed leave at its end. -/
def flushSends (k : DieIx) (i : StrandIx) (s : State) : State :=
  let p := s.prog k i
  let s := s.modProg k i fun p => { p with sends := [] }
  match boundImage s k i with
  | none => s
  | some g => s.each p.sends fun m s =>
    match g.res[m.1]? with
    | none => s
    | some r =>
      let c := s.cfg1 .EP_CFG r.ep
      let bytes := m.2.flatMap wordBytes
      if fld c 21 16 = s.wale.addr ∧ s.wale.addr ≠ 63 then deliverMessage (fld c 31 24) bytes s
      else
        let (f, s) := requestTo (fld c 21 16) (fld c 31 24) r.ep ([0x03, 0, 0, 0] ++ bytes) s
        startTxn f (.strand k i) s

end Sys2Proof.Machine
end

