-- ==== Sys2Proof/Machine/Discovery.lean ====
section
/-!
DEFINITION. Machine/Discovery.lean: the root, addresses, levels, route tables and link events (11_wale_fabric.md R415 to
R419, R426, R427).
-/
namespace Sys2Proof.Machine
open Sys2Proof

/-! ## The root (R415) -/

/-- This device as a candidate. -/
def ownView (s : State) : RootView := ⟨s.serial, s.cane.st == .up, 0⟩

/-- The best root known: the device itself before any claim. -/
def rootView (s : State) : RootView := if s.wale.root.serial = 0 then ownView s else s.wale.root

/-- Whether a first view is of a better root than a second. -/
def RootView.better (a b : RootView) : Bool := (a.cane && !b.cane) || (a.cane == b.cane && decide (a.serial < b.serial))

/-- Whether this device is the root. -/
def isRoot (s : State) : Bool := (rootView s).serial == s.serial

/-- Sending a claim to the neighbours on ports (R403). -/
def sendClaims (l : List WaleIx) (s : State) : State :=
  let v := rootView s
  s.each l fun w s =>
    let (f, s) := requestTo 63 0 0 ([0x20] ++ leBytes 8 v.serial ++ [BitVec.ofNat 8 (b2n v.cane), BitVec.ofNat 8 v.level]) s
    enqueue w f s

/-! ## Pin table (R416, R417) -/

/-- The serial number and the address of pin entry i. -/
def pinSerial (s : State) (i : Nat) : Nat := (s.cfg1 .PIN_SER_LO i).toNat + 2 ^ 32 * (s.cfg1 .PIN_SER_HI i).toNat
def pinAddr (s : State) (i : Nat) : Nat := fld (s.cfg1 .PIN_ADDR i) 5 0

/-- The entries in force, as (serial, address), and those ignored, by rising index. -/
def pinTable (s : State) : List (Nat × Nat) × List Nat :=
  (List.range 64).foldl (fun (a : List (Nat × Nat) × List Nat) i =>
    if bit (s.cfg1 .PIN_ADDR i) 31 then
      let n := pinSerial s i
      let d := pinAddr s i
      if (d == 0) != (n == s.serial) || a.1.any (fun e => e.1 == n || e.2 == d) then (a.1, a.2 ++ [i]) else (a.1 ++ [(n, d)], a.2)
    else a) ([], [])

/-- The address of a device found (R416): pinned, previous, or the lowest free; 63 when none is left. -/
def addressFor (s : State) (serial : Nat) : Nat :=
  let pins := (pinTable s).1
  let used := fun (d : Nat) => s.wale.found.any fun f => f.addr == d
  let barred := fun (d : Nat) => used d || pins.any fun e => e.2 == d
  match pins.find? fun e => e.1 == serial with
  | some e => if used e.2 then 63 else e.2
  | none =>
    match s.wale.prevAddr.find? fun e => e.1 == serial && !barred e.2 with
    | some e => e.2
    | none => (match (List.range 63).find? fun d => !barred d with | some d => d | none => 63)

/-! ## Routes (R418) -/

/-- The level of a device that the root has found. -/
def levelOf (s : State) (a : Nat) : Nat := match s.wale.found.find? fun f => f.addr == a with | some f => f.level | none => 0

/-- Whether the end of a link from a to b at a is up. -/
def endUp (s : State) (a b : Nat) : Bool :=
  decide (levelOf s b < levelOf s a) || (levelOf s b == levelOf s a && decide (b < a))

/-- One round of relaxation of the distances to a destination: for each device, the least number of hops when up ends
are still allowed and when they are not. -/
def relax (s : State) (d : List (Nat × Option Nat × Option Nat)) : List (Nat × Option Nat × Option Nat) :=
  let look := fun (a : Nat) => match d.find? fun x => x.1 == a with | some x => x.2 | none => (none, none)
  let less := fun (x y : Option Nat) => match x, y with
    | some a, some b => some (min a b) | some a, none => some a | none, y => y
  d.map fun x =>
    let out := s.wale.edges.filter fun e => e.a == x.1
    out.foldl (fun (r : Nat × Option Nat × Option Nat) e =>
      let up := endUp s e.a e.b
      let free := if up then (look e.b).1 else (look e.b).2
      let held := if up then none else (look e.b).2
      (r.1, less r.2.1 (free.map (· + 1)), less r.2.2 (held.map (· + 1)))) x

/-- The distances to a destination. -/
def distances (s : State) (dst : Nat) : List (Nat × Option Nat × Option Nat) :=
  let start := s.wale.found.map fun f => if f.addr = dst then (f.addr, some 0, some 0) else (f.addr, none, none)
  (List.range (2 * s.wale.found.length)).foldl (fun d _ => relax s d) start

/-- The output port at a device for a destination: that of a minimal legal route, the lowest of equals. -/
def routeCode (s : State) (a dst : Nat) : Nat :=
  if a = dst then 8
  else
    let d := distances s dst
    let look := fun (b : Nat) => match d.find? fun x => x.1 == b with | some x => x.2 | none => (none, none)
    let cand := (s.wale.edges.filter fun e => e.a == a).filterMap fun e =>
      (if endUp s e.a e.b then (look e.b).1 else (look e.b).2).map fun n => (n, e.port)
    let best := cand.foldl (fun (m : Option (Nat × Nat)) x =>
      match m with
      | none => some x
      | some y => if x.1 < y.1 ∨ (x.1 = y.1 ∧ x.2 < y.2) then some x else some y) none
    match best with | some x => x.2 | none => 15

/-- The table of a device. -/
def tableFor (s : State) (a : Nat) : List Nat :=
  (List.range 64).map fun d => if s.wale.found.any (fun f => f.addr == d) then routeCode s a d else 15

/-- The levels of the neighbours by port, as far as this device knows them. -/
def neighbourLevels (s : State) : List (Nat × Nat) := (upPorts s).map fun w => (w.val, (s.wport w).peerLevel)

/-- Taking a route table (R418, R419): a host table stays. -/
def takeTable (version : Nat) (codes : List Nat) (s : State) : State :=
  if bit (s.cfg0 .WALE_CTRL) 1 then s
  else s.modWale fun x =>
    { x with routes := Vector.ofFn fun d : Fin 64 => (codes[d.val]?).getD 15, version := version % 65536 }

/-- A change of levels with a host table in force (12_guarantees.md R432 row 1). -/
def levelsChanged (s : State) : State :=
  if bit (s.cfg0 .WALE_CTRL) 1 && !(Config.routesLegal s.wale.routes.toList (neighbourLevels s)) then grtSet 1 s else s

/-! ## The device's own address (R416, R427) -/

/-- Every pending request breaks (R427): one of a Cane tag ends with TIMEOUT (DESIGN CHOICE, notes/assumptions/142.md). -/
def breakTxns (s : State) : State :=
  let l := s.wale.txns
  (s.modWale fun x => { x with txns := [] }).each l fun t s =>
    match t.owner with
    | .cane tag => { s with cane := { s.cane with
        tags := vmod s.cane.tags tag fun g => { g with ready := some ⟨tag.val, .timeout, g.loc, t.f.dst, []⟩ } } }
    | _ => s

/-- Taking an address and a level: a change breaks what names the old one (R427), and the polynomials follow
(04_feedback_cancellation.md R136). -/
def takeAddress (addr level up : Nat) (s : State) : State :=
  let old := s.wale.addr
  let oldLevel := s.wale.level
  let s := s.modWale fun x => { x with addr := addr, level := level, upPort := up, unaddressed := false, rootLost := none }
  let s := if level = oldLevel then s else levelsChanged s
  if addr = old then s
  else
    let s := if old = 63 then s else breakHops (fun _ => true) (breakTxns s)
    addressChanged (skeinEvent (locOf 0 0) 7 4 (pack [(1, old), (1, addr)]) s)

/-! ## Discovery at the root (R416 to R418) -/

/-- Loading the tables: the root takes its own, the others go out as broadcasts. -/
def loadTables (s : State) : State :=
  let v := (s.wale.version + 1) % 65536
  let s := s.modWale fun x => { x with version := v, prevAddr := (x.found.map fun f => (f.serial, f.addr)) ++ x.prevAddr }
  let s := s.each (s.wale.found.filter fun f => f.addr != 0) fun f s =>
    let codes := tableFor s f.addr
    let (g, s) := requestTo 63 f.addr 0 ([0x22] ++ leBytes 4 v ++ codes.map (BitVec.ofNat 8)) s
    forwardTree { g with hops := 64 } s
  takeTable v (tableFor s 0) s

/-- The next probe (R416): the lowest waiting port; the tables when none is left. A probe for the neighbour of another
device goes to that device, which passes it on by its DST_EP. -/
def probeNext (s : State) : State :=
  match s.wale.toProbe with
  | [] => loadTables (s.modWale fun x => { x with probing := none })
  | (a, p) :: rest =>
    let s := s.modWale fun x => { x with toProbe := rest, probing := some (a, p) }
    let (f, s) := requestTo (if a = 0 then 63 else a) p 0 [0x21, 63, BitVec.ofNat 8 (levelOf s a + 1), 0xFF] s
    let s := s.modWale fun x => { x with txns := x.txns ++ [⟨f, .device, 1, false, s.time.ft⟩] }
    if a = 0 then enqueue (Fin.ofNat 8 p) f s else (sendFrame f s).2

/-- Discovery at the root. -/
def discover (s : State) : State :=
  let s := if s.wale.root.serial = s.serial then s else
    skeinEvent (locOf 0 0) 7 3 (pack [(6, s.serial)]) (s.modWale fun x => { x with root := ownView s })
  let bad := (pinTable s).2
  let s := s.each bad fun i s => skeinEvent (locOf 0 0) 7 9 (pack [(1, i)]) s
  let s := s.modWale fun x => { x with pinConflict := x.pinConflict || !bad.isEmpty }
  let s := takeAddress 0 0 15 s
  let me : Found := ⟨0, s.serial, 0, 0, 15, upMask s⟩
  let s := s.modWale fun x =>
    { x with found := [me], noAddr := [], edges := [], toProbe := (upPorts s).map fun w => (0, w.val), joined := true,
             ports := x.ports.map fun p => { p with tree := false } }
  probeNext s

/-- A probe's answer at the root (R416): a device not found before takes its address and is told it, and its ports wait
in their turn. -/
def probeAnswer (serial ups : Nat) (s : State) : State :=
  match s.wale.probing with
  | none => s
  | some (a, p) =>
    match s.wale.found.find? fun f => f.serial == serial with
    | some f =>
      probeNext (s.modWale fun x => { x with edges := x.edges ++ [⟨a, p, f.addr⟩] })
    | none =>
      let addr := if 64 ≤ s.wale.found.length then 63 else addressFor s serial
      let lv := levelOf s a + 1
      let s := if addr = 63 then s.modWale fun x =>
          { x with noAddr := if x.noAddr.contains serial then x.noAddr else x.noAddr ++ [serial] }
        else s.modWale fun x =>
        { x with found := x.found ++ [⟨addr, serial, lv, a, p, ups⟩], edges := x.edges ++ [⟨a, p, addr⟩],
                 toProbe := x.toProbe ++ (maskBits ups 8).map fun q => (addr, q) }
      let (f, s) := requestTo (if a = 0 then 63 else a) p 0 [0x21, BitVec.ofNat 8 addr, BitVec.ofNat 8 lv, BitVec.ofNat 8 p] s
      let s := if a = 0 then enqueue (Fin.ofNat 8 p) f (s.modWport (Fin.ofNat 8 p) fun x => { x with tree := true, peerAddr := addr })
        else (sendFrame f s).2
      probeNext s

/-! ## Received requests of discovery -/

/-- The root that this device follows has lost its Cane link (R415): the device takes that view, or itself where it is
better, and says so. -/
def rootWorse (w : WaleIx) (v : RootView) (s : State) : State :=
  if (ownView s).better v then
    discover (sendClaims (upPorts s) (s.modWale fun x => { x with root := { ownView s with serial := 0 } }))
  else sendClaims ((upPorts s).filter fun u => u != w) (s.modWale fun x => { x with root := v })

/-- A discovery claim from a neighbour (R415). A device that was its own root joins the basket of a better one, unless
that is a device of its own basket (R421). A worse view of the root in force counts from the up port. -/
def claimRx (f : Frame) (serial : Nat) (cane : Bool) (level : Nat) (s : State) : State :=
  let w : WaleIx := Fin.ofNat 8 f.from_
  let same := (s.wport w).peerLevel == level
  let s := answer f (codeBytes .ok []) (s.modWport w fun p => { p with peerLevel := level })
  let s := if same then s else levelsChanged s
  let v : RootView := ⟨serial, cane, level + 1⟩
  let cur := rootView s
  if v.better cur then
    let stay := !isRoot s || s.wale.found.any fun g => g.serial == serial
    let s := if serial = cur.serial then s else skeinEvent (locOf 0 0) 7 3 (pack [(6, serial)]) s
    sendClaims ((upPorts s).filter fun u => u != w)
      (s.modWale fun x => { x with root := v, rootLost := none, joined := x.joined && stay })
  else if v.serial = cur.serial ∧ cur.cane = true ∧ cane = false ∧ w.val = s.wale.upPort then rootWorse w v s
  else s

/-- A discovery probe (R416): passed on to a neighbour when it names this device, else answered, after an address and a
level are taken. -/
def probeRx (f : Frame) (addr level tree : Nat) (s : State) : State :=
  let w : WaleIx := Fin.ofNat 8 f.from_
  if f.dst ≠ 63 ∧ f.dst = s.wale.addr then
    let p : WaleIx := Fin.ofNat 8 f.dstEp
    let s := if tree < 8 then s.modWport p fun x => { x with tree := true, peerAddr := addr } else s
    enqueue p { f with dst := 63, hops := f.hops - 1 } s
  else if f.dst ≠ 63 then forward f s
  else
    let s :=
      if tree < 8 then
        let s := s.modWale fun x => { x with ports := x.ports.map fun p => { p with tree := false } }
        let s := s.modWport w fun p => { p with tree := true, peerLevel := level - 1 }
        if addr = 63 then
          (takeAddress 63 level w.val s).modWale fun x => { x with unaddressed := true }
        else takeAddress addr level w.val s
      else s
    answer f (codeBytes .ok (leBytes 8 s.serial ++ [BitVec.ofNat 8 (upMask s)])) s

/-- A route table load (R418): it goes on along the tree. -/
def tableRx (f : Frame) (version : Nat) (codes : List Nat) (s : State) : State :=
  if f.dst = 63 then giveCredit f.from_ false (forwardTree f (takeTable version codes s))
  else if f.dst = s.wale.addr then answer f (codeBytes .ok []) (takeTable version codes s)
  else forward f s

/-- A link event (R426): the root computes the tree and the routes again. -/
def linkEventRx (f : Frame) (s : State) : State :=
  if f.dst = s.wale.addr then
    once f (fun s =>
      let s := reply f (codeBytes .ok []) s
      if isRoot s then discover s else s) s
  else forward f s

/-- A port has become UP (R415, R426): the neighbour learns the best root, and the root discovers again. -/
def afterUp (w : WaleIx) (s : State) : State :=
  let s := sendClaims [w] s
  if isRoot s then discover s else reportLink w s

/-- REDISCOVER (R416): at the root alone. -/
def rediscover (s : State) : State := if isRoot s then discover s else s

/-- The root is part of the tree that a port going DOWN changes: it computes the routes again at once (R426). -/
def afterDown (s : State) : State := if isRoot s && s.wale.root.serial != 0 then discover s else s

/-- A partition without its root chooses its own after 1 s (R427). -/
def rootLossTimeout (s : State) : State :=
  match s.wale.rootLost with
  | none => s
  | some _ =>
    let s := s.modWale fun x => { x with root := ownView s, rootLost := none }
    discover (sendClaims (upPorts s) (skeinEvent (locOf 0 0) 7 3 (pack [(6, s.serial)]) s))

/-- COMMIT of ROUTE_CMD (R419). -/
def routeCommit (s : State) : Code × State :=
  if !bit (s.cfg0 .WALE_CTRL) 1 then (.ok, s)
  else if Config.routesLegal s.wale.hostRoutes.toList (neighbourLevels s) then
    (.ok, s.modWale fun x => { x with routes := x.hostRoutes, version := (x.version + 1) % 65536 })
  else (.badProgram, s)

/-- The own view changes with the Cane link (R415). -/
def caneViewChanged (s : State) : State :=
  if s.wale.root.serial = s.serial then
    sendClaims (upPorts s) (s.modWale fun x => { x with root := ownView s })
  else if (ownView s).better (rootView s) ∧ ¬(upPorts s).isEmpty then
    discover (sendClaims (upPorts s) (s.modWale fun x => { x with root := { ownView s with serial := 0 } }))
  else s

end Sys2Proof.Machine
end

