-- ==== Sys2Proof/Machine/Image.lean ====
section
/-!
DEFINITION. Machine/Image.lean: reading Withy images: their header, their checks in order, and the free runs of program
and coefficient memory (06_withy_model.md R233 to R235, R243, R614; 09_coil_engine.md R358, R360).
-/
namespace Sys2Proof.Machine
open Sys2Proof

/-- The size of an image by its header (R233). -/
def imageSize (l : List Byte) : Nat := 256 + 8 * field l 0x0C 4 + 64 * field l 0x10 4

/-- The bytes of an image inside a buffer. -/
def imageBytes (l : List Byte) : List Byte := l.take (imageSize l)

/-- The CRC of an image, with its field read as zero (R234). -/
def imageCrc (l : List Byte) : Nat := crc32 (l.take 0xFC ++ [0, 0, 0, 0] ++ l.drop 0x100)

/-- The instructions of an image. -/
def imageWords (l : List Byte) : List WWord := bodyWords (field l 0x0C 4) (l.drop 256)

/-- The leading digest bytes of an image (R251). -/
def imageDigest (l : List Byte) : Nat := digestLead (sha384 (imageBytes l))

/-- Reservation entry n of a header, as it stands (R235). -/
def reservationAt (l : List Byte) (n : Nat) : Reservation :=
  let e := (l.drop (0x28 + 8 * n)).take 8
  ⟨field e 0 1, field e 1 1, field e 2 1, field e 3 1, field e 4 1 % 2 == 1⟩

/-- Whether entry n meets R235. -/
def reservationOk (l : List Byte) (n : Nat) : Bool :=
  let e := (l.drop (0x28 + 8 * n)).take 8
  let r := reservationAt l n
  field e 5 3 == 0 &&
    (if r.kind = 0 then decide (r.fmt ≤ 1) && r.h == field l 0x14 1 && decide (field e 4 1 ≤ 1)
     else decide (r.kind ≤ 2) && r.fmt == 0 && r.h == 0 && field e 4 1 == 0)

/-- The reservations of a header. -/
def reservations (l : List Byte) : List Reservation := (List.range (field l 0x22 1)).map (reservationAt l)

/-- Whether two entries share EP and KIND. -/
def sharesEp : List Reservation → Bool
  | [] => false
  | r :: l => (l.any fun x => x.ep == r.ep && x.kind == r.kind) || sharesEp l

/-- The kind of reservation that a fabric instruction needs (R285). -/
def fabricKind (w : WWord) : Option Nat :=
  match wname w with
  | some .frecv => some 0
  | some .msend => some 1
  | some .mrecv => some 2
  | _ => none

/-- FAULT 8 of R243. -/
def fabricOk (l : List Byte) (ws : List WWord) : Bool :=
  let n := field l 0x22 1
  decide (n ≤ 4) && ((List.range n).all (reservationOk l)) && field (l.drop (0x28 + 8 * n)) 0 (32 - 8 * n) == 0 &&
    !sharesEp (reservations l) && ws.all fun w =>
      match fabricKind w with
      | none => true
      | some k => (match (reservations l)[bitsOf w.imm 9 8]? with | some r => r.kind == k | none => false)

/-- Whether a list of instructions holds one of a name. -/
def usesOp (o : WOp) (ws : List WWord) : Bool := ws.any fun w => wname w == some o

/-- The header check of both profiles that FAULT 1 makes. -/
def headerOk (l : List Byte) (profile : Nat) : Bool :=
  field l 0 4 == 0x32495957 && field l 4 2 == 2 && field l 6 2 == profile && field l 8 4 == 256 &&
    field l 0x23 1 == 0 && field l 0x48 180 == 0

/-- Checks 1 to 9 of R243 on a buffer: the first that fails, 0 when none does. -/
def streamFault (l : List Byte) : Nat :=
  let n := field l 0x0C 4
  let rows := field l 0x10 4
  let h := field l 0x14 1
  let pipe := field l 0x16 1
  let c := field l 0x18 4
  let la := field l 0x20 1
  if !(headerOk l 0 && field l 0x15 1 == 64 && decide (field l 0x17 1 ≤ 2)) then 1
  else if n = 0 ∨ 8192 < n ∨ 512 < rows ∨ 131072 < imageSize l ∨ imageCrc (imageBytes l) ≠ field l 0xFC 4 then 2
  else
    let ws := imageWords l
    if !(ws.all (wordOk true rows la)) then 3
    else if !(ws.all regsOk) then 4
    else if !structOk ws then 5
    else if h = 0 ∨ 5 < h ∨ pipe < 3 ∨ 15 < pipe ∨ cycleCount ws ≠ c ∨ 256 * 2 ^ (h - 1) < c + 4 then 6
    else if ws.any fun w => wname w == some .ldc && w.mod_ % 2 == 0 && decide (rows ≤ bitsOf w.imm 8 0) then 7
    else if !fabricOk l ws then 8
    else if (usesOp .env ws ∧ la = 0xFF) ∨ (13 < la ∧ la ≠ 0xFF) ∨ pipe - 3 < field l 0x21 1 then 9
    else 0

/-- The image of a checked buffer, with its places. -/
def imageOf (l : List Byte) (base cbase : Nat) : Image :=
  { base := base, len := field l 0x0C 4, cbase := cbase, rows := field l 0x10 4, h := field l 0x14 1,
    pipe := field l 0x16 1, dir := field l 0x17 1, cycles := field l 0x18 4, latMax := field l 0x1C 4,
    laCoil := field l 0x20 1, laOff := field l 0x21 1, res := reservations l, digest := imageDigest l }

/-! ## Free runs (R614) -/

/-- The lowest address, from `at` upwards, at which a run of a length is free among used runs in rising order. -/
def fitFrom (total need : Nat) : Nat → List (Nat × Nat) → Option Nat
  | p, [] => if p + need ≤ total then some p else none
  | p, (a, n) :: l => if p + need ≤ a then some p else fitFrom total need (max p (a + n)) l

/-- Inserting a run in rising order; empty runs hold nothing. -/
def insertRun (x : Nat × Nat) : List (Nat × Nat) → List (Nat × Nat)
  | [] => [x]
  | y :: l => if x.1 ≤ y.1 then x :: y :: l else y :: insertRun x l

/-- Runs in rising order. -/
def sortRuns (l : List (Nat × Nat)) : List (Nat × Nat) := (l.filter fun x => x.2 != 0).foldl (fun a x => insertRun x a) []

/-- The lowest place for a run. -/
def fitRun (total need : Nat) (used : List (Nat × Nat)) : Option Nat := fitFrom total need 0 (sortRuns used)

/-- The longest free run. -/
def longestRun (total : Nat) (used : List (Nat × Nat)) : Nat :=
  let r := (sortRuns used).foldl (fun (a : Nat × Nat) (x : Nat × Nat) => (max a.1 (x.1 - a.2), max a.2 (x.1 + x.2))) (0, 0)
  max r.1 (total - r.2)

/-- The images of a die, but for one slot. -/
def otherImages (s : State) (k : DieIx) (skip : Option (Fin 16)) : List Image :=
  (List.finRange 16).filterMap fun n => if skip == some n then none else (s.dies[k]).slots[n]

/-- The runs of program memory and of coefficient memory in use. -/
def progRuns (l : List Image) : List (Nat × Nat) := l.map fun g => (g.base, g.len)
def coefRuns (l : List Image) : List (Nat × Nat) := l.map fun g => (g.cbase, g.rows)

/-- PRG_USE. -/
def prgUse (s : State) (k : DieIx) : Word :=
  let l := otherImages s k none
  mkWord [(31, 16, longestRun 0x8000 (progRuns l)), (15, 4, longestRun 0x800 (coefRuns l))]

/-! ## Loop images (09_coil_engine.md R358, R360) -/

/-- Checks 1 to 6 of R360. -/
def loopFault (l : List Byte) : Nat :=
  let n := field l 0x0C 4
  if !(headerOk l 1 && field l 0x10 4 == 0 && field l 0x14 3 == 0 && field l 0x1C 7 == 0 && field l 0x28 32 == 0) then 1
  else if n = 0 ∨ 1024 < n ∨ imageCrc (imageBytes l) ≠ field l 0xFC 4 then 2
  else
    let ws := imageWords l
    if !(ws.all (wordOk false 0 0)) then 3
    else if !(ws.all regsOk) then 4
    else if !structOk ws then 5
    else if cycleCount ws ≠ field l 0x18 4 then 6
    else 0

/-- Whether XIN n exists for a class (R336). -/
def xinOk (cls n : Nat) : Bool := decide (n ≤ 9 ∧ n ≠ 4) || (n == 4 && cls == 0) || (n == 10 && cls == 2)

/-- Whether XOUT n exists for a class (R337). -/
def xoutOk (cls n : Nat) : Bool := decide (n ≤ 1) || (n == 2 && (cls == 0 || cls == 2))

/-- Whether table t exists for a class (R327). -/
def xtabOk (cls t : Nat) : Bool :=
  match cls with | 0 => t == 0 | 1 => false | 2 => decide (t ≤ 1) | _ => t == 0

/-- FAULT 8 of R360. -/
def loopPortsOk (cls : Nat) (ws : List WWord) : Bool :=
  ws.all fun w =>
    match wname w with
    | some .xin => xinOk cls w.imm
    | some .xout => xoutOk cls w.imm
    | some .xtab => xtabOk cls w.imm
    | _ => true

/-- The runs of coil program memory in use, but for one coil. -/
def coilRuns (s : State) (skip : Option CoilIx) : List (Nat × Nat) :=
  allCoils.filterMap fun c => if skip == some c then none else ((s.coils[c]).image).map fun g => (g.base, g.len)

end Sys2Proof.Machine
end

