-- ==== Sys2Proof/Machine/LoaderOps.lean ====
section
/-!
DEFINITION. Machine/LoaderOps.lean: the loaders of the band dies and of the coil engine: taking a command, its end, and
the bindings (06_withy_model.md R230, R242 to R251; 09_coil_engine.md R359, R360, R368).
-/
namespace Sys2Proof.Machine
open Sys2Proof

/-- The MRAM partition of the program library: slot j (14_handle_boot_update.md R466). -/
def libBase (j : Nat) : Nat := 0x01A00000 + j * 0x20000

/-- The bytes of a library slot; none when it is empty (R243, 17_thermal.md R537). -/
def libBytes (s : State) (j : Nat) : List Byte := if isMarked (libBase j) s then readBytes .mram (libBase j) 0x20000 s else []

/-- LIB_DIG_j. -/
def libDig (s : State) (j : Nat) : Nat := if isMarked (libBase j) s then imageDigest (libBytes s j) else 0

/-- The load buffers. -/
def loadBuffer (s : State) (k : DieIx) : List Byte := readBytes .load (k.val * 2 ^ 24) 0x20000 s
def coilLoadBuffer (s : State) : List Byte := readBytes .coilLoad 0 0x4000 s

/-- Changing a die's loader. -/
def State.modLoader (s : State) (k : DieIx) (f : Loader → Loader) : State := s.modDie k fun d => { d with loader := f d.loader }

/-! ## Bindings (R230, R244, R246) -/

/-- Unbinding a strand. -/
def unbind (k : DieIx) (i : StrandIx) (s : State) : State := s.modProg k i fun p => { p with slot := none }

/-- Bound strands of a slot. -/
def boundTo (s : State) (k : DieIx) (n : Fin 16) : List StrandIx := allStrands.filter fun i => (s.prog k i).slot == some n

/-- The images of the strands on a weaver. -/
def weaverImages (s : State) (k : DieIx) (w : Nat) : List Image :=
  (allStrands.filter fun i => (s.prog k i).weaver == w).filterMap fun i => boundImage s k i

/-- Whether an image fits a weaver in use (R230). -/
def weaverFits (s : State) (k : DieIx) (g : Image) (w : Nat) : Bool :=
  let l := weaverImages s k w
  !l.isEmpty && decide (l.length < 4) && l.all (fun x => x.h == g.h) &&
    decide (l.foldl (fun a x => a + x.cycles + 4) (g.cycles + 4) ≤ 256 * 2 ^ (g.h - 1))

/-- The weaver for a newly bound strand (R230). -/
def weaverFor (s : State) (k : DieIx) (g : Image) : Nat :=
  match (List.range 16).find? (weaverFits s k g) with
  | some w => w
  | none => (match (List.range 16).find? fun w => (weaverImages s k w).isEmpty with | some w => w | none => 0)

/-- PRG_WEAVE.USED: weavers with a bound strand. -/
def weaversUsed (s : State) (k : DieIx) : Nat := ((List.range 16).filter fun w => !(weaverImages s k w).isEmpty).length

/-- Binding a strand to a slot. -/
def bindStrand (k : DieIx) (n : Fin 16) (i : StrandIx) (s : State) : State :=
  let s := unbind k i s
  match (s.dies[k]).slots[n] with
  | none => s
  | some g =>
    let w := weaverFor s k g
    s.modProg k i fun p => { p with slot := some n, weaver := w }

/-- The endpoints that STR_PLACE of a strand names. -/
def placeEps (s : State) (k : DieIx) (i : StrandIx) : List Nat :=
  (if inStream s k i then [inEp s k i] else []) ++ (if outKind s k i = 2 then [outEp s k i] else [])

/-- The checks of R244 for one strand: the first that fails, 0 when none does. -/
def bindFault (s : State) (k : DieIx) (n : Fin 16) (i : StrandIx) : Nat :=
  match (s.dies[k]).slots[n] with
  | none => 11
  | some g =>
    if g.h ≠ rdlH s k i ∨ (g.dir < 2 ∧ (g.dir == 1) ≠ isUplink i) then 12
    else if !laStart s k i g then 13
    else if g.latMax ≠ 0 ∧ g.latMax < latency s k i g.pipe (s.rid k i).delayAct then 14
    else if (g.res.any fun r => (placeEps s k i).contains r.ep) then 15
    else 0

/-! ## The stream loader -/

/-- What a command comes to: the code, FAULT, STRAND, and the new value of its Tally record. -/
structure LoadEnd where
  code : Code
  fault : Nat
  strand : Nat
  value : Nat
  deriving DecidableEq, Repr

/-- Placing a checked image in a slot (R243 check 10, R614). -/
def placeImage (k : DieIx) (n : Fin 16) (l : List Byte) (s : State) : LoadEnd × State :=
  let others := otherImages s k (some n)
  match fitRun 0x8000 (field l 0x0C 4) (progRuns others), fitRun 0x800 (field l 0x10 4) (coefRuns others) with
  | some b, some c =>
    let g := imageOf l b c
    let s := writeBytes .prog (k.val * 2 ^ 24 + b * 8) ((l.drop 256).take (8 * g.len)) s
    let s := writeBytes .coef (k.val * 2 ^ 24 + c * 64) ((l.drop (256 + 8 * g.len)).take (64 * g.rows)) s
    (⟨.ok, 0, 0, g.digest⟩, s.modDie k fun d => { d with slots := vset d.slots n (some g) })
  | _, _ => (⟨.badProgram, 10, 0, 0⟩, s)

/-- LOAD and FETCH. -/
def loadImage (k : DieIx) (n : Fin 16) (l : List Byte) (s : State) : LoadEnd × State :=
  if !(boundTo s k n).isEmpty then (⟨.busy, 0, 0, 0⟩, s)
  else
    let f := streamFault l
    if f ≠ 0 then (⟨.badProgram, f, 0, 0⟩, s) else placeImage k n l s

/-- BIND (R244, R245). -/
def bindMask (k : DieIx) (n : Fin 16) (l : List StrandIx) (s : State) : LoadEnd × State :=
  if l.any (isRunning s k) then (⟨.busy, 0, 0, 0⟩, s)
  else match l.find? fun i => bindFault s k n i != 0 with
    | some i => (⟨.badProgram, bindFault s k n i, i.val, 0⟩, s)
    | none =>
      let d := match (s.dies[k]).slots[n] with | some g => g.digest | none => 0
      (⟨.ok, 0, 0, d⟩, s.each l (bindStrand k n))

/-- The strands of a mask. -/
def strandsOf (m : Nat) : List StrandIx := allStrands.filter fun i => m / 2 ^ i.val % 2 == 1

/-- Writing a library slot, with its commit marker last (17_thermal.md R537). -/
def libWrite (j : Nat) (l : List Byte) (s : State) : State := markBlock (libBase j) (writeBytes .mram (libBase j) l s)

/-- What a command of the stream loader does at its end (R242 to R247); none while it waits for the MRAM window. -/
def loaderRun (k : DieIx) (c : LoadCmd) (s : State) : Option (LoadEnd × State) :=
  let n : Fin 16 := Fin.ofNat 16 c.slot
  let l := strandsOf c.mask
  match c.op with
  | 1 => some (loadImage k n (loadBuffer s k) s)
  | 2 => some (loadImage k n (libBytes s c.lib) s)
  | 3 =>
    let b := loadBuffer s k
    if c.late then some (⟨.busy, 0, 0, 0⟩, s)
    else if streamFault b ≠ 0 then some (⟨.badProgram, streamFault b, 0, 0⟩, s)
    else match mramVerdict s with
      | .allowed => some (⟨.ok, 0, 0, imageDigest b⟩, libWrite c.lib (imageBytes b) s)
      | .refused => some (⟨.thermalHold, 0, 0, 0⟩, s)
      | .waits => none
  | 4 => some (bindMask k n l s)
  | 5 => some (if l.any (isRunning s k) then (⟨.busy, 0, 0, 0⟩, s) else (⟨.ok, 0, 0, c.mask⟩, s.each l (unbind k)))
  | 6 => some (if !(boundTo s k n).isEmpty then (⟨.busy, 0, 0, 0⟩, s)
      else (⟨.ok, 0, 0, c.slot⟩, s.modDie k fun d => { d with slots := vset d.slots n none }))
  | _ =>
    match mramVerdict s with
    | .allowed => some (⟨.ok, 0, 0, c.lib⟩, unmarkBlock (libBase c.lib) s)
    | .refused => some (⟨.thermalHold, 0, 0, 0⟩, s)
    | .waits => none

/-- Taking a command (R242, R250): a STORE while another die stores is the later one. -/
def loaderTake (k : DieIx) (w : Word) (o : Origin) (s : State) : Code × State :=
  if ((s.dies[k]).loader.busy).isSome then (.busy, s)
  else
    let op := fld w 3 0
    let late := op == 3 && allDies.any fun j => j != k &&
      (match (s.dies[j]).loader.busy with | some c => c.op == 3 | none => false)
    let c : LoadCmd := ⟨op, fld w 11 8, fld w 20 16, fld (s.cfg1 .PRG_MASK k) 15 0, late, w, o⟩
    let s := if op = 3 ∨ op = 7 then (match mramVerdict s with | .waits => thmAsk 0 .mram s | _ => s) else s
    (.ok, s.modLoader k fun x => { x with busy := some c })

/-- The address of PRG_CMD of a die. -/
def addrPrgCmd (k : DieIx) : Nat := keyAddr ⟨.PRG_CMD, k.val, 0, 0⟩

/-- The end of a command (R242, R251). -/
def loaderDone (k : DieIx) (s : State) : State :=
  match (s.dies[k]).loader.busy with
  | none => s
  | some c =>
    match loaderRun k c s with
    | none => thmAsk 0 .mram s
    | some (e, s) =>
      let s := s.modLoader k fun _ => ⟨none, c.op, e.code, e.fault, e.strand⟩
      if e.code = .ok then tallyPut c.by_ (addrPrgCmd k) c.word (BitVec.ofNat 32 e.value) s
      else skeinEvent (locOf (dieNum k) 0) 3 1 (pack [(1, c.op), (1, e.fault), (1, e.strand)]) s

/-! ## The coil loader -/

/-- LOAD and FETCH of a coil (R359, R360). -/
def coilLoadImage (c : CoilIx) (l : List Byte) (s : State) : LoadEnd × State :=
  if (s.coils[c]).st ≠ .stopped then (⟨.busy, 0, 0, 0⟩, s)
  else
    let f := loopFault l
    if f ≠ 0 then (⟨.badProgram, f, 0, 0⟩, s)
    else
      let ws := imageWords l
      if field l 0x17 1 ≠ coilClass c then (⟨.badProgram, 7, 0, 0⟩, s)
      else if !loopPortsOk (coilClass c) ws then (⟨.badProgram, 8, 0, 0⟩, s)
      else if coilUnfitted s c then (⟨.badProgram, 9, 0, 0⟩, s)
      else match fitRun 8192 ws.length (coilRuns s (some c)) with
        | none => (⟨.badProgram, 10, 0, 0⟩, s)
        | some b =>
          let g : CoilImage := ⟨b, ws.length, field l 0x18 4, imageDigest l⟩
          let s := writeBytes .coilProg (b * 8) ((l.drop 256).take (8 * g.len)) s
          (⟨.ok, 0, 0, g.digest⟩, s.modCoil c fun x => { x with image := some g })

/-- What a command of the coil loader does at its end; none while it waits for the MRAM window. -/
def coilLoaderRun (d : LoadCmd) (s : State) : Option (LoadEnd × State) :=
  let c : CoilIx := Fin.ofNat 24 d.slot
  match d.op with
  | 1 => some (coilLoadImage c (coilLoadBuffer s) s)
  | 2 => some (coilLoadImage c (libBytes s d.lib) s)
  | 3 =>
    let b := coilLoadBuffer s
    if loopFault b ≠ 0 then some (⟨.badProgram, loopFault b, 0, 0⟩, s)
    else match mramVerdict s with
      | .allowed => some (⟨.ok, 0, 0, imageDigest b⟩, libWrite d.lib (imageBytes b) s)
      | .refused => some (⟨.thermalHold, 0, 0, 0⟩, s)
      | .waits => none
  | _ => some (if (s.coils[c]).st ≠ .stopped then (⟨.busy, 0, 0, 0⟩, s)
      else (⟨.ok, 0, 0, d.slot⟩, s.modCoil c fun x => { x with image := none }))

/-- Taking a command of the coil loader (R359). -/
def coilLoaderTake (w : Word) (o : Origin) (s : State) : Code × State :=
  if s.coilLdr.busy.isSome then (.busy, s)
  else
    let op := fld w 2 0
    let c : LoadCmd := ⟨op, fld w 12 8, fld w 20 16, 0, false, w, o⟩
    let s := if op = 3 then (match mramVerdict s with | .waits => thmAsk 0 .mram s | _ => s) else s
    (.ok, { s with coilLdr := { s.coilLdr with busy := some c } })

/-- The end of a command of the coil loader (R359, R367, R368). -/
def coilLoaderDone (s : State) : State :=
  match s.coilLdr.busy with
  | none => s
  | some d =>
    match coilLoaderRun d s with
    | none => thmAsk 0 .mram s
    | some (e, s) =>
      let s := { s with coilLdr := ⟨none, d.op, d.slot, e.fault, e.code⟩ }
      if e.code = .ok then tallyPut d.by_ (keyAddr ⟨.COIL_CMD, 0, 0, 0⟩) d.word (BitVec.ofNat 32 e.value) s
      else skeinEvent (locOf 0 d.slot) 5 6 (pack [(1, d.op), (1, e.fault)]) s

end Sys2Proof.Machine
end

