-- ==== Sys2Proof/Machine/LogOps.lean ====
section
/-!
DEFINITION. Machine/LogOps.lean: closing, flushing, freezing, clearing and reading the Skein, wall time, and harvesting,
sealing and restoring Tally (15_skein_tally.md).
-/
namespace Sys2Proof.Machine
open Sys2Proof

/-! ## Blocks of MRAM -/

/-- The numbers of the slots of a partition that carry their commit markers (17_thermal.md R537): `n` slots of a size
from a base. -/
def markedSlots (base size n : Nat) (s : State) : List Nat :=
  s.mem.filterMap fun c =>
    let lo := Space.marker.base + base
    if lo ≤ c.1 ∧ c.1 < lo + size * n ∧ (c.1 - lo) % size = 0 ∧ c.2 = 1 then some ((c.1 - lo) / size) else none

/-- Entry p of the Skein ring. -/
def ringEntry (s : State) (p : Nat) : List Byte := readBytes .mram (skeinRingBase + p * 32) 32 s

/-- SEQ and STATE of a stored entry. -/
def entrySeq (l : List Byte) : Nat := field l 0 4
def entryState (l : List Byte) : Nat := field l 0x15 1 % 4

/-- The slot at p of Tally. -/
def tallySlot (s : State) (p : Nat) : List Byte := readBytes .mram (tallyBase + p * 64) 64 s

/-- The place of the clear mark of R499 and of the kept TLY_ACK of R485 in the reserve partition. -/
def clearMarkOff : Nat := 0x01E10200
def ackOff : Nat := 0x01E10300

/-! ## Flushes (R491 to R496) -/

/-- A record of severity DEGRADE or higher, a fill or a request wants a flush: the Handle starts it while no freeze is
in force, no flush runs and the MRAM window lets it write; the power-fail warning starts it by itself. -/
def flushStart (fail : Bool) (s : State) : State :=
  let k := s.skein
  if k.flushing.isSome ∨ (!fail ∧ (!k.wanted ∨ k.frozen.isSome ∨ s.handle.st = .restart)) then s
  else match mramVerdict s with
    | .waits => thmAsk 0 .mram s
    | .refused => s
    | .allowed =>
      let open_ : List SkeinRec := match k.newest with | some (r, false) => [r] | _ => []
      { s with skein := { k with
        flushing := some (k.buffer ++ open_), buffer := [], wanted := if fail then k.wanted else false,
        newest := match k.newest with | some (r, _) => some (r, true) | none => none } }

/-- The records that a flush has written free their places; once a loss record finds one, it names what could not be
recorded (R495). -/
def flushFree (s : State) : State :=
  let s := { s with skein := { s.skein with flushing := none } }
  if s.skein.unreported = 0 ∨ skeinPlace s.skein 0 = false then s
  else skein 1 0 (locOf 15 0) 0x0F01 (pack [(4, s.skein.unreported)]) { s with skein := { s.skein with unreported := 0 } }

/-! ## Reading (R497, R498) -/

/-- Whether a sequence number is readable: not cleared, made, and not made during a freeze. -/
def sknReadable (s : State) (q : Nat) : Bool :=
  !seqLt q s.skein.clearMark && seqLt q (match s.skein.frozen with | some f => f | none => s.skein.next)

/-- The unflushed entries: the buffer and those of a flush in progress, and an open unflushed record. -/
def sknBuffer (k : Skein) : List SkeinRec :=
  (match k.flushing with | some l => l | none => []) ++ k.buffer ++
    (match k.newest with | some (r, false) => [r] | _ => [])

/-- The record with a sequence number: its bytes and whether it is unflushed; a CLOSE entry goes before. -/
def sknFind (s : State) (q : Nat) : Option (List Byte × Bool) :=
  if !sknReadable s q then none
  else
    let b := (sknBuffer s.skein).filter fun r => r.seq == q
    match b.find? (fun r => r.st == 2), b.getLast? with
    | some r, _ => some (skeinBytes r, true)
    | none, some r => some (skeinBytes r, true)
    | none, none =>
      let l := ((markedSlots skeinRingBase 32 65536 s).map (ringEntry s)).filter fun e => entrySeq e == q
      match l.find? (fun e => entryState e == 2), l.head? with
      | some e, _ => some (e, false)
      | none, some e => some (e, false)
      | none, none => none

/-- SKN_FIRST: the clear mark, or the oldest entry of a ring that has come round. -/
def sknFirst (s : State) : Nat :=
  if s.skein.ringPos ≤ 65536 then s.skein.clearMark
  else
    let q := entrySeq (ringEntry s (s.skein.ringPos % 65536))
    if seqLt s.skein.clearMark q then q else s.skein.clearMark

/-! ## SKN_CTRL (R497, R499, R510, R616) -/

/-- The end of a freeze. -/
def freezeEnd (s : State) : State := { s with skein := { s.skein with frozen := none } }

/-- A clear (R499): the open record closes, the mark goes to MRAM, a freeze ends. -/
def sknClear (s : State) : State :=
  let s := freezeEnd (skeinClose s)
  let n := seqDist (sknFirst s) s.skein.next
  let s := { s with skein := { s.skein with clearMark := s.skein.next } }
  let s := markBlock clearMarkOff (writeBytes .mram clearMarkOff (leBytes 4 s.skein.clearMark) s)
  skein 1 0 (locOf 15 0) 0x0F02 (pack [(4, n)]) s

/-- The parts of one write in their order (R616), and its Tally record (R510). -/
def sknCtrlApply (o : Origin) (w : Word) (s : State) : State :=
  let old := s.cfg0 .SKN_CTRL
  let new := mkWord [(31, 16, fld w 31 16)]
  let s := s.putReg ⟨.SKN_CTRL, 0, 0, 0⟩ new
  let mark := s.skein.next
  let s := if bit w 1 then sknClear s else s
  let s := if bit w 2 ∧ s.skein.frozen.isNone then { s with skein := { s.skein with frozen := some s.skein.next } } else s
  let s := if bit w 3 then freezeEnd s else s
  let s := if bit w 0 then { s with skein := { s.skein with wanted := true } } else s
  if bit w 1 then tallyPut o (keyAddr ⟨.SKN_CTRL, 0, 0, 0⟩) old (BitVec.ofNat 32 mark) s
  else if new ≠ old then tallyPut o (keyAddr ⟨.SKN_CTRL, 0, 0, 0⟩) old new s
  else s

/-- A write to SKN_CTRL. One with CLEAR waits for a flush in progress, and for the MRAM window. -/
def sknCtrlWrite (o : Origin) (w : Word) (s : State) : Code × State :=
  let wait := { s with skein := { s.skein with clearWait := s.skein.clearWait ++ [(o, w)] } }
  if bit w 2 ∧ bit w 3 then (.badProgram, s)
  else if !bit w 1 then (.ok, sknCtrlApply o w s)
  else match mramVerdict s with
    | .refused => (.thermalHold, s)
    | .waits => (.ok, thmAsk 0 .mram wait)
    | .allowed => if s.skein.flushing.isSome then (.ok, wait) else (.ok, sknCtrlApply o w s)

/-- The writes with CLEAR that waited, at the end of what they waited for. -/
def clearServe (s : State) : State :=
  if s.skein.flushing.isSome then s
  else match s.skein.clearWait, mramVerdict s with
    | [], _ => s
    | _, .waits => s
    | _, .refused => { s with done := ⟨.thermalHold, 0⟩, skein := { s.skein with clearWait := [] } }
    | l, .allowed => s.each l (fun x t => sknCtrlApply x.1 x.2 t) |> fun t =>
        { t with skein := { t.skein with clearWait := [] } }

/-- The end of a flush (R492, R509): every entry goes to the ring when the window lets it, the places return, and a
CLEAR that came meanwhile applies. -/
def flushDone (s : State) : State :=
  match s.skein.flushing, mramVerdict s with
  | some l, .allowed => clearServe (flushFree (s.each l skeinRingPut))
  | some _, .waits => thmAsk 0 .mram s
  | _, _ => s

/-- A freeze that reaches 60 s ends by itself (R497). -/
def freezeTimeout (s : State) : State :=
  if s.skein.frozen.isSome then
    skein 1 0 (locOf 15 0) 0x0F03 0 (freezeEnd { s with skein := { s.skein with thawed := true } })
  else s

/-! ## Wall time (R483) -/

/-- APPLY of WT_CTRL, with its record; the Tally record is the access's. -/
def wtCtrl (s : State) : Word := mkWord [(31, 16, s.time.epoch), (1, 1, b2n s.time.wtSet)]

def wtApply (s : State) : State :=
  let old := s.wall
  let new := (s.cfg0 .WT_SET_HI).toNat * 2 ^ 32 + (s.cfg0 .WT_SET_LO).toNat
  let s := skeinClose s
  let s := { s with time := { s.time with
    wtBase := new, wtFt := s.time.ft, wtSet := true,
    epoch := if new < old then (s.time.epoch + 1) % 65536 else s.time.epoch } }
  skein 1 0 (locOf 15 0) 0x0F04 (pack [(3, old / 65536), (3, new / 65536)]) s

/-! ## Tally (R502 to R506) -/

/-- Writing ACK to its place in MRAM when the window lets it. -/
def ackServe (s : State) : State :=
  if !s.tally.ackWait then s
  else match mramVerdict s with
    | .allowed =>
      markBlock ackOff (writeBytes .mram ackOff (leBytes 4 s.tally.ack) { s with tally := { s.tally with ackWait := false } })
    | .waits => thmAsk 0 .mram s
    | .refused => s

/-- A write to TLY_ACK (R506). -/
def tlyAckWrite (w : Word) (s : State) : Code × State :=
  let v := w.toNat
  if seqLt v s.tally.ack || !seqLt v s.tally.next then (.badProgram, s)
  else
    let s := { s with tally := { s.tally with ack := v, ackWait := true } }
    let s := { s with tally := { s.tally with inTail := s.tally.inTail && tallyFull s.tally } }
    (.ok, ackServe s)

/-- Writing the oldest staged record (R505). -/
def tallyWriteOut (s : State) : State :=
  match s.tally.staged, mramVerdict s with
  | [], _ => s
  | _, .allowed => tallyWriteOne s
  | _, .waits => thmAsk 0 .mram s
  | _, .refused => s

/-- The links of the staged records, oldest first, each with its record. -/
def stagedLinks (s : State) : List (TallyRec × Nat) :=
  (s.tally.staged.foldl (fun (a : List (TallyRec × Nat) × Nat) r =>
    let l := tallyLink a.2 r
    (a.1 ++ [(r, l)], l)) ([], chainHead s)).1

/-- The record with a sequence number, as TLY_WIN shows it. -/
def tlyFind (s : State) (q : Nat) : Option (List Byte) :=
  match (stagedLinks s).find? (fun x => x.1.seq == q) with
  | some x => some (tallyBytes x.1 ++ beBytes 16 x.2 ++ List.replicate 16 0)
  | none =>
    let p := q % 131072
    if isMarked (tallyBase + p * 64) s && entrySeq (tallySlot s p) == q then some (tallySlot s p) else none

/-- SEAL (R503). -/
def sealStart (s : State) : Code × State :=
  if s.tally.sealing then (.busy, s)
  else (.ok, { s with tally := { s.tally with sealing := true, sealWin := none } })

/-- The seal over the newest record. -/
def sealDone (s : State) : State :=
  if !s.tally.sealing then s
  else
    let q := (s.tally.next + 2 ^ 32 - 1) % 2 ^ 32
    let l := match (stagedLinks s).getLast? with | some x => x.2 | none => chainHead s
    let d := sha384 (leBytes 8 s.serial ++ leBytes 4 q ++ beBytes 16 l)
    (({ s with tally := { s.tally with sealing := false, sealWin := some ⟨q, l, Config.signature s.freeCtr d⟩ } }) : State).tick

/-! ## Power-on (R485) -/

/-- The newest of some stored blocks by sequence number, a CLOSE entry after the OPEN one. -/
def newestOf (l : List (Nat × List Byte)) : Option (Nat × List Byte) :=
  l.foldl (fun (a : Option (Nat × List Byte)) x =>
    match a with
    | none => some x
    | some y =>
      if seqLt (entrySeq y.2) (entrySeq x.2) || (entrySeq y.2 == entrySeq x.2 && entryState x.2 == 2) then some x
      else some y) none

/-- The later of two epochs, which wrap (R483, R484). -/
def laterEpoch (a b : Nat) : Nat := if (a + 65536 - b) % 65536 < 32768 then a else b

/-- Both series and wall time continue from their newest records. -/
def restoreSeries (s : State) : State :=
  let ring := (markedSlots skeinRingBase 32 65536 s).map fun p => (p, ringEntry s p)
  let tal := (markedSlots tallyBase 64 131072 s).map fun p => (p, tallySlot s p)
  let k := newestOf ring
  let t := newestOf (tal.map fun x => (x.1, x.2.take 0x14 ++ [0, 0]))
  let wall := max (ring.foldl (fun m x => max m (field x.2 8 8)) 0) (tal.foldl (fun m x => max m (field x.2 8 8)) 0)
  let kn := match k with | some x => seqNext (entrySeq x.2) | none => 1
  let tn := match t with | some x => seqNext (entrySeq x.2) | none => 1
  let epoch := match k, t with
    | some x, some y => laterEpoch (field x.2 4 2) (field y.2 4 2)
    | some x, none => field x.2 4 2
    | none, some y => field y.2 4 2
    | none, none => 0
  let pos := match k with | some x => x.1 + 1 + (if ring.length = 65536 then 65536 else 0) | none => 0
  let mark := if isMarked clearMarkOff s then leNat (readBytes .mram clearMarkOff 4 s) else 1
  let ack := if isMarked ackOff s then leNat (readBytes .mram ackOff 4 s) else 0
  let link := match t with | some x => some (beNat ((tallySlot s x.1).drop 0x20 |>.take 16)) | none => none
  { s with
    time := { s.time with wtBase := wall, wtFt := s.time.ft, wtSet := false, epoch := epoch },
    skein := { Skein.reset with next := kn, ringPos := pos, clearMark := mark },
    tally := { Tally.reset with next := tn, ack := ack, link := link } }

end Sys2Proof.Machine
end

