-- ==== Sys2Proof/Machine/LidOps.lean ====
section
/-!
DEFINITION. Machine/LidOps.lean: the Lid's states, passwords, challenges and lockouts, the TAP's instructions, the halts
and the random generator (19_lid_security.md).
-/
namespace Sys2Proof.Machine
open Sys2Proof

/-- The number of a Lid state (R559). -/
def LidState.num : LidState → Nat
  | .closed => 0 | .service => 1 | .factory => 2

/-- LID_STAT. -/
def lidStat (s : State) : Word :=
  let l := s.lid
  mkWord [(31, 24, l.result.num), (23, 16, l.fails), (5, 4, l.openedBy), (3, 3, b2n (l.lockLeft != 0)),
    (2, 2, b2n l.checking.isSome), (1, 0, l.st.num)]

/-- The address of LID_STAT. -/
def addrLidStat : Nat := keyAddr ⟨.LID_STAT, 0, 0, 0⟩

/-- An event of R576. -/
def lidEvent (pos data : Nat) (s : State) : State := skeinEvent (locOf 15 0) 0x0E pos data s

/-- A change of STATE that needs no reservation, with its Tally record of an origin (R576). -/
def lidTally (origin : Nat) (before : Word) (s : State) : State := tallyForce origin 63 addrLidStat before (lidStat s) s

/-! ## Closing and opening (R563) -/

/-- The bits of HALT in force. -/
def haltBits (s : State) : Nat := b2n s.tap.haltHandle + 16 * s.tap.haltCores

/-- Every halt ends. -/
def haltsEnd (s : State) : State :=
  if haltBits s = 0 then s
  else lidEvent 8 (pack [(1, 0)]) { s with tap := { s.tap with haltHandle := false, haltCores := 0 } }

/-- The Lid closes, with the cause of R563: the staging window goes, at the end of a commit that runs, the halts end and
the TAP returns to IDCODE. -/
def lidShut (cause : Nat) (s : State) : State :=
  if s.lid.st = .closed then s
  else
    let s := { s with lid := { s.lid with st := .closed } }
    let s := { s with reg := if s.reg.busy.isSome then { s.reg with dropAfter := true } else { s.reg with staged := false } }
    let s := haltsEnd { s with tap := { s.tap with ir := .idcode } }
    lidEvent 2 (pack [(1, cause)]) s

/-- A close that is recorded with an origin of its own: 3 by the TAP, 5 at a reset, by IDLE or at an entry (R576). -/
def lidShutBy (cause origin : Nat) (s : State) : State :=
  if s.lid.st = .closed then s
  else
    let before := lidStat s
    lidTally origin before (lidShut cause s)

/-- A successful attempt. -/
def lidPass (goal : LidState) (tap : Bool) (s : State) : State :=
  let before := lidStat s
  let s := { s with lid := { s.lid with fails := 0, lockLeft := 0, result := .ok } }
  if goal.num ≤ s.lid.st.num then s
  else
    let s := { s with lid := { s.lid with
      st := goal, openedBy := b2n tap, factorySeen := s.lid.factorySeen || goal == .factory } }
    let s := lidEvent 1 (pack [(1, goal.num), (1, if tap then 3 else 0)]) s
    if tap then lidTally 3 before s else s

/-- A failed attempt (R564). -/
def lidFail (s : State) : State :=
  let f := satInc 255 s.lid.fails
  let s := lidEvent 3 (pack [(1, f)]) { s with lid := { s.lid with fails := f, result := .accessDenied } }
  if 10 ≤ f then
    let n := min (2 ^ (f - 10)) 65536
    lidEvent 4 (pack [(3, n)]) { s with lid := { s.lid with lockLeft := n, lockAt := s.time.ft } }
  else s

/-! ## Passwords (R560, R561) -/

/-- H_i for i from 1, n times: the digest with the salt after it. -/
def stretch (salt : List Byte) : Nat → Nat → Nat
  | 0, h => h
  | n + 1, h => stretch salt n (sha384 (beBytes 48 h ++ salt))

/-- H_4095 of a salt and a password. -/
def pwHash (salt : Nat) (pw : List Byte) : Nat :=
  let b := leBytes 16 salt
  stretch b 4095 (sha384 (b ++ pw))

/-- Whether copy B of the Lid record is in force; none when no copy is good. -/
def lidRecord (s : State) : Option (Bool × LidRecord) :=
  let a := s.lid.recA
  let b := s.lid.recB
  if a.good ∧ (¬ b.good ∨ b.seq < a.seq) then some (false, a) else if b.good then some (true, b) else none

/-- The password words as one number, first byte lowest. -/
def pwWords (s : State) : Nat := s.lid.pw.toList.foldr (fun w a => w.toNat + 2 ^ 32 * a) 0

/-- What lets no attempt begin: BUSY for a stopped generator, a lockout or a check that runs. -/
def lidBusy (s : State) : Bool := s.lid.rngFail || s.lid.lockLeft != 0 || s.lid.checking.isSome

/-- OPEN from the host. -/
def lidOpen (len : Nat) (s : State) : Code × State :=
  if len < 8 ∨ 32 < len then (.badProgram, s)
  else if lidBusy s then (.busy, s)
  else (.ok, { s with lid := { s.lid with checking := some ⟨len, pwWords s, false⟩ } })

/-- LIDPW (R560, R575). -/
def lidPw (len pw : Nat) (s : State) : State :=
  if len < 8 ∨ 32 < len then { s with lid := { s.lid with result := .badProgram } }
  else if lidBusy s then { s with lid := { s.lid with result := .busy } }
  else { s with lid := { s.lid with checking := some ⟨len, pw % 2 ^ 256, true⟩ } }

/-- The end of a check. -/
def lidChecked (s : State) : State :=
  match s.lid.checking with
  | none => s
  | some c =>
    let s := { s with lid := { s.lid with checking := none, pw := Vector.replicate 8 0 } }
    match lidRecord s with
    | some (_, r) => if r.hash = pwHash r.salt (leBytes c.len c.pw) then lidPass .service c.tap s else lidFail s
    | none => lidFail s

/-- Storing a password with a fresh salt in the copy that is not in force. -/
def pwStore (len pw : Nat) (s : State) : State :=
  let salt := Config.random s.freeCtr % 2 ^ 128
  let s := s.tick
  let r := lidRecord s
  let n : LidRecord := ⟨true, (match r with | some (_, x) => x.seq + 1 | none => 1), salt, pwHash salt (leBytes len pw)⟩
  let s := match r with
    | some (false, _) => { s with lid := { s.lid with recB := n } }
    | _ => { s with lid := { s.lid with recA := n } }
  lidEvent 5 0 { s with lid := { s.lid with pwInitial := false, setWait := none, result := .ok } }

/-- SET_PW. -/
def setPw (len : Nat) (s : State) : Code × State :=
  if len < 8 ∨ 32 < len then (.badProgram, s)
  else if s.lid.st = .closed then (.lidClosed, s)
  else if s.lid.rngFail then (.busy, s)
  else match mramVerdict s with
    | .refused => (.thermalHold, { s with lid := { s.lid with result := .thermalHold } })
    | .waits => (.ok, thmAsk 0 .mram { s with lid := { s.lid with setWait := some (len, pwWords s) } })
    | .allowed => (.ok, pwStore len (pwWords s) s)

/-- A SET_PW that waited, at a hub reading. -/
def pwServe (s : State) : State :=
  match s.lid.setWait, mramVerdict s with
  | some (len, pw), .allowed => pwStore len pw s
  | some _, .refused => { s with lid := { s.lid with setWait := none, result := .thermalHold } }
  | _, _ => s

/-- A write to LID_CTRL. -/
def lidCtrl (w : Word) (s : State) : Code × State :=
  let n := b2n (bit w 0) + b2n (bit w 1) + b2n (bit w 2)
  if 1 < n then (.badProgram, s)
  else if bit w 0 then lidOpen (fld w 13 8) s
  else if bit w 1 then (.ok, lidShut 1 s)
  else if bit w 2 then setPw (fld w 13 8) s
  else (.ok, s)

/-- LEFT of LID_LOCK: the seconds that remain of a lockout, rounded up, so that it reads 0 only when none is in force. -/
def lockRest (s : State) : Nat :=
  if s.lid.lockLeft = 0 then 0
  else Nat.max 1 (((s.lid.lockLeft : Int) * 1000000000 - ((s.time.ft : Int) - s.lid.lockAt) + 999999999) / 1000000000).toNat

/-- The lockout's time has passed on CK_FOOT. -/
def lockoutEnd (s : State) : State := { s with lid := { s.lid with lockLeft := 0 } }

/-- IDLE minutes have passed. -/
def lidIdle (s : State) : State := if fld (s.cfg0 .LID_CFG) 7 0 = 0 then s else lidShutBy 4 5 s

/-! ## The TAP (R562, R565 to R567) -/

/-- The code of a TAP instruction. -/
def TapInstr.code : TapInstr → Nat
  | .extest => 0x00 | .idcode => 0x01 | .samplePreload => 0x02 | .clamp => 0x04 | .highz => 0x05 | .lidchal => 0x10
  | .lidresp => 0x11 | .lidpw => 0x12 | .lidclose => 0x13 | .regacc => 0x20 | .halt => 0x30 | .hmem => 0x31 | .bypass => 0xFF

/-- Whether a Lid state allows an instruction (R559). -/
def TapInstr.allowed (i : TapInstr) (l : LidState) : Bool :=
  match i with
  | .bypass | .idcode | .lidpw | .lidchal | .lidresp => true
  | .samplePreload | .regacc => l != .closed
  | _ => l == .factory

/-- Loading an instruction: one that the Lid state does not allow acts as BYPASS. -/
def tapLoad (i : TapInstr) (s : State) : Bool × State :=
  if i.allowed s.lid.st then (true, { s with tap := { s.tap with ir := i } })
  else (false, lidEvent 7 (pack [(1, i.code)]) { s with tap := { s.tap with ir := .bypass } })

/-- A TAP reset. -/
def tapReset (s : State) : State := { s with tap := { s.tap with ir := .idcode } }

/-- PART of ID_PART. -/
def partCode (s : State) : Nat := if s.fitted ≤ 2 then 0x4202 else if s.fitted ≤ 3 then 0x4204 else 0x4208

/-- IDCODE. -/
def tapIdcode (s : State) : State :=
  let s := (tapLoad .idcode s).2
  { s with tap := { s.tap with shiftOut := (mkWord [(31, 28, 1), (27, 12, partCode s), (11, 1, 0x2E5), (0, 0, 1)]).toNat } }

/-- SAMPLE/PRELOAD: the boundary scan register takes what is shifted in. -/
def tapSample (bits : Nat) (s : State) : State :=
  let r := tapLoad .samplePreload s
  if r.1 then { r.2 with tap := { r.2.tap with scan := bits } } else r.2

/-- EXTEST, CLAMP and HIGHZ raise source 9 first (R567). -/
def tapDrive (i : TapInstr) (s : State) : State :=
  let r := tapLoad i s
  if r.1 then raiseSafeRequest r.2 else r.2

/-- EXTEST shifts the boundary scan register too. -/
def tapExtest (bits : Nat) (s : State) : State :=
  let r := tapLoad .extest s
  if r.1 then raiseSafeRequest { r.2 with tap := { r.2.tap with scan := bits } } else r.2

/-- Whether the boundary scan or HIGHZ has the outputs: only once the safe state is in force. -/
def tapDrives (s : State) : Bool := s.lash.safe && (s.tap.ir == .extest || s.tap.ir == .clamp || s.tap.ir == .highz)

/-- The 48 bytes of a challenge. -/
def challenge (s : State) (seq nonce : Nat) : List Byte :=
  leBytes 8 s.serial ++ leBytes 32 nonce ++ leBytes 4 seq ++ leBytes 4 0

/-- LIDCHAL; a stopped generator makes it return zeros (R569). -/
def lidChal (s : State) : State :=
  let s := (tapLoad .lidchal s).2
  if s.lid.rngFail then { s with tap := { s.tap with shiftOut := 0 } }
  else
    let nonce := Config.random s.freeCtr % 2 ^ 256
    let q := seqNext s.lid.chalSeq
    let s := s.tick
    { s with lid := { s.lid with chalSeq := q, chal := some (q, nonce, s.time.ft) },
             tap := { s.tap with shiftOut := leNat (challenge s q nonce) } }

/-- LIDRESP (R562, R564). -/
def lidResp (sig : Nat) (s : State) : State :=
  let s := (tapLoad .lidresp s).2
  let s :=
    if s.lid.lockLeft ≠ 0 then { s with lid := { s.lid with result := .busy } }
    else
      let good : Bool := match s.lid.chal with
        | some (q, n, t) => decide (s.time.ft < t + 60000000000) &&
            Config.verifies (Config.otpKey 1) (sha384 (challenge s q n)) (sig % 2 ^ 768)
        | none => false
      let s := { s with lid := { s.lid with chal := none } }
      if good then lidPass .factory true s else lidFail s
  { s with tap := { s.tap with shiftOut := s.lid.result.num } }

/-- HALT (R565, R566): bit 0 the Handle, bits 4 to 7 the coil cores. -/
def tapHalt (bits : Nat) (s : State) : State :=
  let r := tapLoad .halt s
  if !r.1 then r.2
  else
    let s := r.2
    let was := haltBits s
    let s := { s with tap := { s.tap with haltHandle := bits % 2 == 1, haltCores := bits / 16 % 16 } }
    if haltBits s = was then s else lidEvent 8 (pack [(1, haltBits s)]) s

/-- The end of an access of REGACC or HMEM. -/
def tapResult (c : Code) (v : Word) (s : State) : State :=
  { s with tap := { s.tap with resData := v, resCode := c, resDone := true, hmWait := none } }

/-- The place of an HMEM address: the Handle SRAM from 0, MRAM at its window. -/
def hmemPlace (a : Nat) : Option (Space × Nat) :=
  if a < 0x80000 then some (.handleSram, a)
  else if 0x40000000 ≤ a ∧ a < 0x42000000 then some (.mram, a - 0x40000000) else none

/-- HMEM: an MRAM write follows the window of 17_thermal.md R537. -/
def tapHmem (addr w : Word) (write : Bool) (s : State) : State :=
  let r := tapLoad .hmem s
  if !r.1 then r.2
  else if r.2.tap.hmWait.isSome then { r.2 with tap := { r.2.tap with resCode := .busy } }
  else
    let s := r.2
    match hmemPlace (addr.toNat / 4 * 4) with
    | none => tapResult .noSuchAddress 0 s
    | some (sp, off) =>
      if !write then tapResult .ok (readWord sp off s) s
      else if sp = .handleSram then tapResult .ok 0 (writeWord sp off w s)
      else match mramVerdict s with
        | .allowed => tapResult .ok 0 (writeWord sp off w s)
        | .refused => tapResult .thermalHold 0 s
        | .waits => thmAsk 0 .mram { s with tap := { s.tap with hmWait := some (off, w), resDone := false } }

/-- An HMEM write that waited. -/
def hmemServe (s : State) : State :=
  match s.tap.hmWait, mramVerdict s with
  | some (off, w), .allowed => tapResult .ok 0 (writeWord .mram off w s)
  | some _, .refused => tapResult .thermalHold 0 s
  | _, _ => s

/-! ## The random generator (R569) -/

/-- A failed health test. -/
def rngFails (s : State) : State :=
  if s.lid.rngFail then s else lidEvent 9 0 { s with lid := { s.lid with rngFail := true } }

/-- The tests that restart once a second. -/
def rngRetest (pass : Bool) (s : State) : State :=
  if s.lid.rngFail && pass then lidEvent 9 0 { s with lid := { s.lid with rngFail := false } } else s

/-- LID_EVAL (R574). -/
def lidEval (s : State) : Word :=
  let on := (List.range 8).any fun w => bit (s.cfg1 .PORT_CTRL w) 0
  mkWord [(5, 5, b2n s.lid.rngFail), (4, 4, b2n s.handle.recovery), (3, 3, b2n (on && s.cfg0 .BASKET_ID == 0)),
    (2, 2, b2n (fld (s.cfg0 .LID_CFG) 7 0 == 0)), (1, 1, b2n s.lid.pwInitial), (0, 0, b2n s.lid.factorySeen)]

end Sys2Proof.Machine
end

