-- ==== Sys2Proof/Machine/RadioOps.lean ====
section
/-!
DEFINITION. Machine/RadioOps.lean: the ports and their commands, the die PLL, the duty of a port, the scan receiver,
diversity, tuners, RFFE and coexistence (08_radio_control.md, 05_network_protection.md R194 to R197).
-/
namespace Sys2Proof.Machine
open Sys2Proof

/-! ## What a port may do -/

/-- Whether COEX_PORTS names a port (R323). -/
def coexMasked (s : State) (k : DieIx) (p : PortIx) : Bool := s.isFitted k && bit (s.cfg0 .COEX_PORTS) (4 * k.val + p.val)

/-- ROLE of COEX_CFG. -/
def coexRole (s : State) : Nat := fld (s.cfg0 .COEX_CFG) 31 30

/-- Whether coexistence keeps a port out of Transmit: a requester without a grant, a grantor that grants. -/
def coexBars (s : State) (k : DieIx) (p : PortIx) : Bool :=
  coexMasked s k p && ((coexRole s == 1 && !s.coex.gnt) || (coexRole s == 2 && (s.coex.granting || s.coex.gnt)))

/-- The newest reading of a die, broken or not, where it is at most 100 ms old (R304): true when it lets a transmitter on. -/
def freshReading (s : State) (k : DieIx) : Option Bool :=
  let d := s.thm.dies[thmIx k]
  match d.lastAt with
  | some t => if s.time.ft ≤ t + 100000000 then
      some (!d.broken && (match d.past with | r :: _ => decide (r.temp < 1250) | [] => false)) else none
  | none => none

/-! ## Transitions (R296, R297) -/

/-- The state a port moves towards: a command in progress, Sleep when parked, else the target in force. -/
def Port.goal (q : Port) : PortState :=
  match q.inProg with
  | some t => t
  | none => if q.parked then .sleep else q.target

/-- The next state on the way to a goal (R297). -/
def nextState (a g : PortState) : Option PortState :=
  if a = g then none
  else if g = .sleep then some .sleep
  else match a with
    | .sleep => some .standby
    | .standby => some .synthOn
    | .synthOn => some g
    | .receive => if g = .transmit then some .transmit else some .synthOn
    | .transmit => if g = .receive then some .receive else some .synthOn

/-- Beginning a transition of a command: a ramp-down sets bit 31 first (R298). -/
def portMove (k : DieIx) (p : PortIx) (t : PortState) (s : State) : State :=
  let s := if t = .synthOn ∧ (s.port k p).st = .standby then s.modDie k fun d => { d with pllRun := true } else s
  s.movePort k p fun q =>
    { q with moving := some t, mvAt := s.time.ft, mvSwitch := false, hold31 := q.hold31 || q.st == .transmit }

/-- A switch of a masked port into Transmit that coexistence holds back: a requester counts a denial (R323, R326). -/
def coexDeny (k : DieIx) (p : PortIx) (s : State) : State :=
  let s := s.modPort k p fun q => { q with coexHeld := true }
  if coexRole s = 1 then
    skeinEvent (locOf (dieNum k) (portUnit p)) 4 6 (pack [(1, p.val)])
      { s with coex := { s.coex with denials := satInc 0xFFFF s.coex.denials } }
  else s

/-- A switch into Transmit by a TDD window or by coexistence (R297). -/
def switchToTx (k : DieIx) (p : PortIx) (s : State) : State :=
  s.movePort k p fun q =>
    { q with moving := some .transmit, mvAt := s.time.ft, mvSwitch := true, coexHeld := false }

/-- A switch into Receive by a TDD window or by coexistence, which begins now or at a time to come (R297). -/
def switchToRx (k : DieIx) (p : PortIx) (at_ : Nat) (s : State) : State :=
  s.movePort k p fun q => { q with moving := some .receive, mvAt := at_, mvSwitch := true }

/-- A port leaves Transmit, or its way there, for Receive by the switch (R323, R324): from Synth-on it goes on into
Receive, and in Receive it stays. A transition out of Transmit in progress goes on. -/
def leaveTx (k : DieIx) (p : PortIx) (at_ : Nat) (s : State) : State :=
  let q := s.port k p
  match q.st, q.moving with
  | .transmit, none => switchToRx k p at_ s
  | .receive, some .transmit => s.modPort k p fun q => { q with moving := none }
  | .synthOn, some .transmit => s.modPort k p fun q => { q with moving := some .receive }
  | _, _ => s

/-- A command refused (R303, R326): the port settles where it was. -/
def portRefuse (k : DieIx) (p : PortIx) (c : Code) (s : State) : State :=
  let s := s.modPort k p fun q =>
    { q with inProg := none, result := c,
             refused := if c = .notLocked then satInc 0xFFFF q.refused else q.refused }
  skeinEvent (locOf (dieNum k) (portUnit p)) 4 1 (pack [(1, p.val)]) s

/-- A refused port settles in the state that it was in: it moves back from a state on the way (R303). -/
def portBack (k : DieIx) (p : PortIx) (s : State) : State :=
  match nextState (s.port k p).st (s.port k p).goal with
  | none | some .transmit => s
  | some t => portMove k p t s

/-- A TDD cycling port with no command in progress follows its windows (R194, R296): it switches into Transmit from 2.5 µs
before a window opens, and into Receive once the window has ended or the timing does not stand. -/
def cycleSettle (k : DieIx) (p : PortIx) (s : State) : State :=
  let q := s.port k p
  if q.cycling && q.moving.isNone && q.inProg.isNone && !q.parked then
    let want := tddReady s k && inTxWindow s k p 2500 && !q.dutyHold
    if q.st == .transmit && !want then switchToRx k p s.time.ft s
    else if q.st == .receive && want && (s.dies[k]).pllLock then
      if coexBars s k p then (if q.coexHeld then s else coexDeny k p s) else switchToTx k p s
    else s
  else s

/-- The next transition of a port that is in none, or the end of its command (R297, R302 to R305). A port without a command
that has its DAC awake returns to Transmit by the switch; one whose DAC sleeps has its TARGET become a pending command
(DEDUCED from R306, notes/assumptions/137.md). -/
def portAdvance (k : DieIx) (p : PortIx) (s : State) : State :=
  let q := s.port k p
  if q.moving.isSome then s
  else match nextState q.st q.goal with
    | none =>
      match q.inProg with
      | some t =>
        cycleSettle k p (s.modPort k p fun q =>
          { q with target := t, inProg := none, result := .ok, cycling := decide (t = .transmit) && q.duplex })
      | none => s
    | some .transmit =>
      if q.inProg.isNone && q.cycling then cycleSettle k p s
      else if coexBars s k p then
        let s := if q.coexHeld then s else coexDeny k p s
        if q.st = .synthOn then portMove k p .receive s else s
      else if !(s.dies[k]).pllLock || q.dutyHold then s
      else if q.inProg.isNone then
        if (s.conv k p).dacReady then switchToTx k p s
        else s.modPort k p fun q => { q with pend := match q.pend with | some c => some c | none => some (.transmit, q.duplex) }
      else match freshReading s k with
        | some true =>
          s.movePort k p fun q =>
            { q with moving := some .transmit, mvAt := s.time.ft, mvSwitch := false, coexHeld := false }
        | some false => portBack k p (portRefuse k p .thermalHold s)
        | none => thmAsk (thmIx k) (.port k p) s
    | some t => portMove k p t s

/-! ## Burst windows of the ports (05_network_protection.md R200) -/

/-- Whether a burst window of R200 meets the span of ns from now, the present instant included, on a port: a window of a lean
group with a valid timing one of whose downlink strands sends to the port. -/
def burstMeets (s : State) (k : DieIx) (p : PortIx) (span : Nat) : Bool :=
  (List.finRange 4).any fun g =>
    match ((s.dies[k]).lean[g]).burst with
    | none => false
    | some b =>
      let pos := (s.time.ft - b) % leanPeriod s k g
      decide (s.time.ft < b + 75 * 10 ^ 9) && (decide (pos < leanWindow s k g) || decide (leanPeriod s k g < pos + span)) &&
        (leanDown s k g).any fun i => outKind s k i == 1 && outPort s k i == p.val

/-- LEAD of COEX_CFG in ns. -/
def coexLead (s : State) : Nat := 100 * fld (s.cfg0 .COEX_CFG) 23 16

/-- The ns from now to the end of the transmission of a port that is to begin within LEAD: the end of the transmit window of
a cycling port; any other transmits on and on. -/
def txSpan (s : State) (k : DieIx) (p : PortIx) : Nat :=
  let q := s.port k p
  match q.cycling, (s.dies[k]).tdd.active with
  | true, some x =>
    let early := airNs (2500 + coexLead s)
    ((((x.windows p).1.map fun w =>
      let at_ := (airNow s k - (w.1 - early)) % x.span
      if at_ < w.2 - (w.1 - early) then w.2 - (w.1 - early) - at_ else 0).foldl max 0) / 140).toNat
  | _, _ => 160 * 10 ^ 6

/-- Whether a port needs Transmit now or within LEAD (R323). -/
def coexNeed (s : State) (k : DieIx) (p : PortIx) : Bool :=
  let q := s.port k p
  q.onAir || q.moving == some .transmit || q.coexHeld ||
    (if q.cycling && q.inProg.isNone then tddReady s k && inTxWindow s k p (2500 + coexLead s)
     else q.goal == .transmit && (q.st == .synthOn || q.st == .receive))

/-- The ports that coexistence governs, of the dies that the control lane reaches (01_architecture.md R27). -/
def coexPorts (s : State) : List (DieIx × PortIx) :=
  allDies.flatMap fun k =>
    if (s.dies[k]).laneLost then [] else (allPorts.filter (coexMasked s k)).map fun p => (k, p)

/-- COEX_REQ falls once no masked port needs Transmit (R323). -/
def coexSettle (s : State) : State :=
  let needs := allDies.any fun k => allPorts.any fun p => coexMasked s k p && coexNeed s k p
  if coexRole s = 1 ∧ needs = false then { s with coex := { s.coex with req := false, pri := false } } else s

/-- A port is in a new state, and so are its converters (R292, R294, R297): the DAC stays awake over a switch. -/
def portEnter (k : DieIx) (p : PortIx) (t : PortState) (hold : Bool) (s : State) : State :=
  let awake := t == .transmit || (t == .receive && (s.port k p).mvSwitch)
  let s := s.movePort k p fun q =>
    { q with st := t, moving := none, mvSwitch := false, hold31 := hold, paen := t == .transmit,
             trsw := t == .transmit && q.duplex }
  s.modConv k p fun c =>
    { c with adcReady := t == .receive || t == .transmit, dacReady := awake,
             heard := c.heard || t == .receive || t == .transmit }

/-- The end of a transition (R294, R297 to R299); a cycling port looks at its window again. -/
def portDone (k : DieIx) (p : PortIx) (s : State) : State :=
  let q := s.port k p
  match q.moving with
  | none => s
  | some t =>
    if t = .synthOn ∧ q.st = .standby ∧ (s.dies[k]).pllLock = false then s
    else if t = .transmit ∧ (s.dies[k]).pllLock = false then s
    else
      let grant := s.coex.granting && coexMasked s k p
      let s := portEnter k p t grant s
      coexSettle (cycleSettle k p (portAdvance k p s))

/-! ## Commands (R301 to R305) -/

/-- A port state by its number. -/
def portStateOf (n : Nat) : PortState :=
  match n with | 0 => .sleep | 1 => .standby | 2 => .synthOn | 3 => .receive | _ => .transmit

/-- Whether a port is in Synth-on or above. -/
def PortState.high (t : PortState) : Bool := decide (2 ≤ t.num)

/-- Whether a write of PRC_CTRL meets the rule of R302 on DUPLEX: it is compared with the DUPLEX in force. -/
def duplexClash (s : State) (k : DieIx) (p : PortIx) (w : Word) : Bool :=
  bit w 4 != isDuplex s k p && (s.port k p).st.high

/-- The command that an accepted write of PRC_CTRL makes (R301, R302). -/
def portCommand (k : DieIx) (p : PortIx) (t : PortState) (dup : Bool) (s : State) : State :=
  let q := s.port k p
  if q.st = t ∧ q.target = t ∧ q.inProg.isNone ∧ q.moving.isNone ∧ q.parked = false then
    s.modPort k p fun q => { q with result := .ok, pend := none, duplex := dup }
  else s.modPort k p fun q => { q with pend := some (t, dup) }

/-- A command leaves the queue, with its DUPLEX (R301, R303, R304). A refused one changes nothing; a cycling port keeps on
cycling until a command takes it elsewhere. -/
def portDequeue (k : DieIx) (p : PortIx) (s : State) : State :=
  let q := s.port k p
  match q.pend, q.inProg with
  | some (t, dup), none =>
    let s := s.modPort k p fun q => { q with pend := none }
    if t = .transmit ∧ s.handle.versionHeld then portRefuse k p .versionHeld s
    else if t = .transmit ∧ s.thm.hold then portRefuse k p .thermalHold s
    else if t = .transmit ∧ (freshReading s k == some false ∨ (freshReading s k == none ∧ convertible s (thmIx k) = false)) then
      portRefuse k p .thermalHold s
    else
      let s := if t = .transmit ∧ freshReading s k == none then thmAsk (thmIx k) (.port k p) s else s
      portAdvance k p (s.modPort k p fun q =>
        { q with inProg := some t, duplex := dup, cycling := q.cycling && t == .transmit && dup, parked := false })
  | _, _ => s

/-- A reading that a port asked for, or a request that ended without one (R304). -/
def portReading (k : DieIx) (p : PortIx) (good : Bool) (s : State) : State :=
  if (s.port k p).inProg = some .transmit then
    if good then portAdvance k p s else portAdvance k p (portRefuse k p .thermalHold s)
  else s

/-- Ports of a die that the shutdown or the power-fail warning takes to Sleep (17_thermal.md R535): each keeps its TARGET. A
transition out of Transmit in progress goes to its end first. -/
def portPark (k : DieIx) (p : PortIx) (s : State) : State :=
  let s := s.modPort k p fun q =>
    { q with target := (match q.pend with | some c => c.1 | none => match q.inProg with | some t => t | none => q.target),
             duplex := (match q.pend with | some c => c.2 | none => q.duplex),
             inProg := none, pend := none, parked := true, cycling := false,
             moving := if q.st = .transmit then q.moving else none }
  portAdvance k p s

/-- Re-arming (17_thermal.md R536): each parked port moves towards its kept TARGET as by a command. -/
def portUnpark (k : DieIx) (p : PortIx) (s : State) : State :=
  s.modPort k p fun q =>
    if q.parked then
      { q with parked := false, target := .sleep, pend := match q.pend with | some c => some c | none => some (q.target, q.duplex) }
    else q

/-! ## The die PLL (R293, R305, R306) -/

/-- Whether some port of a die needs the die PLL. -/
def pllNeeded (s : State) (k : DieIx) : Bool :=
  allPorts.any fun p =>
    let q := s.port k p
    q.st.high || (match q.moving with | some t => t.high | none => false)

/-- Lock of the die PLL: ports that wait for it go on. -/
def pllLocked (k : DieIx) (s : State) : State :=
  let d := s.dies[k]
  if d.pllRun && !d.pllLock && !s.pwr.refLong then
    let s := lower (srcOfDie k 6) (s.modDie k fun d => { d with pllLock := true })
    s.each allPorts fun p s =>
      let q := s.port k p
      if q.moving = some .synthOn ∧ q.st = .standby then portDone k p s else portAdvance k p s
  else s

/-- A loss of lock (R306): ports in Transmit are in Synth-on, and a transition into Transmit is over. -/
def pllUnlock (k : DieIx) (s : State) : State :=
  if (s.dies[k]).pllLock then
    let s := s.modDie k fun d => { d with pllLock := false }
    let s := s.each allPorts fun p s =>
      s.movePort k p fun q =>
        if q.st = .transmit then
          { q with st := .synthOn, moving := none, inProg := none, paen := false, trsw := false, cycling := false,
                   unlocks := satInc 0xFFFF q.unlocks, hold31 := false, target := .synthOn,
                   pend := match q.pend with
                     | some c => some c
                     | none => some ((match q.inProg with | some t => t | none => q.target), q.duplex) }
        else if q.moving = some .transmit then { q with moving := none }
        else q
    let s := s.each allPorts fun p s => s.modConv k p fun c =>
      if (s.port k p).st = .synthOn then { c with adcReady := false, dacReady := false } else c
    raiseHold (srcOfDie k 6) 0 (skeinEvent (locOf (dieNum k) 0) 4 2 (pack [(1, dieNum k)]) s)
  else s

/-- No lock 2 ms after a command towards Transmit left the queue (R305). -/
def lockTimeout (k : DieIx) (p : PortIx) (s : State) : State :=
  let q := s.port k p
  if q.inProg = some .transmit ∧ (s.dies[k]).pllLock = false then
    let s := portRefuse k p .notLocked s
    portAdvance k p (s.modPort k p fun q =>
      { q with target := if q.st.num = 0 then .sleep else .standby,
               moving := if q.moving = some .synthOn then none else q.moving })
  else s

/-- The die PLL stops 1 µs after the last port left Synth-on or above (R293). -/
def pllStop (k : DieIx) (s : State) : State :=
  if pllNeeded s k then s else s.modDie k fun d => { d with pllRun := false, pllLock := false }

/-! ## TDD cycling (R194, R296) and duty (R197) -/

/-- A window edge (R194): a cycling port begins its switch; a port that is moving looks at its window at the move's end. -/
def tddSwitch (k : DieIx) (p : PortIx) (toTx : Bool) (s : State) : State :=
  if !tddReady s k then s
  else
    let q := s.port k p
    if q.cycling && q.moving.isNone && q.inProg.isNone then
      if toTx && q.st == .receive && !q.dutyHold then
        if coexBars s k p then (if q.coexHeld then s else coexDeny k p s) else switchToTx k p s
      else if !toTx && q.st == .transmit then switchToRx k p s.time.ft s
      else s
    else s

/-- The cycling ports of a die follow what has changed in the timing or the pattern (R296). -/
def cycleAll (k : DieIx) (s : State) : State := s.each allPorts (cycleSettle k)

/-- The timing does not stand any more: cycling ports go to Receive, those on their way to Transmit too (R296). -/
def cycleDown (k : DieIx) (s : State) : State :=
  if tddReady s k then cycleAll k s
  else s.each allPorts fun p s =>
    let q := s.port k p
    if q.cycling && q.inProg.isNone then leaveTx k p s.time.ft s else s

/-- The transmit time of the last 10 ms has reached the limit (R197): the port leaves Transmit, a cycling one by the switch,
any other by the port ramp-down (DESIGN CHOICE, notes/assumptions/137.md). -/
def dutyHit (k : DieIx) (p : PortIx) (s : State) : State :=
  let frac := ((s.dies[k]).duty[p]).frac s.time.ft
  if portDuty s k p ≤ frac ∧ ((s.dies[k]).duty[p]).hold = false then
    let s := s.modDuty k p fun d => { d with hits := satInc 0xFFFF d.hits, hold := true }
    let s := s.modPort k p fun q => { q with dutyHold := true }
    let q := s.port k p
    let s := if q.st = .transmit ∧ q.moving = none ∧ q.cycling = false then portMove k p .receive s
      else leaveTx k p s.time.ft s
    skeinEvent (locOf (dieNum k) (portUnit p)) 2 6 (pack [(2, frac)]) s
  else s

/-- The measured time has fallen below the limit (R197): the port goes on to Transmit. -/
def dutyRecover (k : DieIx) (p : PortIx) (s : State) : State :=
  if ((s.dies[k]).duty[p]).frac s.time.ft < portDuty s k p then
    portAdvance k p ((s.modDuty k p fun d => { d with hold := false }).modPort k p fun q => { q with dutyHold := false })
  else s

/-! ## Path changes and diversity (R316 to R321) -/

/-- A path change on a donor port (R321). -/
def pathChange (k : DieIx) (p : PortIx) (s : State) : State :=
  let touched := allStrands.filter fun i =>
    isRunning s k i && ((!inStream s k i && inPort s k i == p.val) || (outKind s k i == 1 && outPort s k i == p.val))
  s.each touched fun i s =>
    let g := groupOf s k i
    if closesLoop s k g then
      let gc := ((maxGapp s k (sendersOf s k g)).getD 0) - 20 * (fld (s.cfg2 .DIV_CFG k p) 28 24 : Nat)
      let gc := match groupGcap s k g with | some x => min x gc | none => gc
      let s := s.each g fun j s => s.modCanc k j fun q => { q with gcap := some gc, cap := q.cap.map (min gc) }
      s.each (receiversOf s k g) fun j s => soundRequest k j (s.modCanc k j fun q => { q with pathCap := true })
    else s

/-- The diversity reference of a donor port: the lowest presence list that names it (R316). -/
def divRef (s : State) (k : DieIx) (p : Fin 2) : Option (Fin 8) :=
  (List.finRange 8).find? fun e => b2n (bit (s.cfg2 .PRES_CFG k e) 30) == p.val

/-- DIV_EN and TUNE_EN of a donor port. -/
def divOn (s : State) (k : DieIx) (p : PortIx) : Bool := bit (s.cfg2 .PRC_CTRL k p) 9
def tuneOn (s : State) (k : DieIx) (p : PortIx) : Bool := bit (s.cfg2 .PRC_CTRL k p) 8

/-- DELTA of R318 in 0.01 dB. -/
def divDelta (q : Port) : Int := if q.bursts.isEmpty then 0 else roundDiv (q.bursts.foldl (· + ·) 0) q.bursts.length

/-- A detected burst offered to diversity (R316 to R318): the powers of its first and its second measurement symbol in
0.01 dBm. The symbol taken on the alternate antenna changes from burst to burst. -/
def divBurst (k : DieIx) (freq : Nat) (port : Fin 2) (first second : Int) (s : State) : State :=
  let p : PortIx := Fin.ofNat 4 port.val
  match divRef s k port with
  | none => s
  | some e =>
    if burstOf s k e freq port then
      let q := s.port k p
      let valid := match q.refSeen with
        | some t => decide (s.time.ft ≤ t + fld (s.cfg1 .TDD_SYNC k) 31 28 * 10 ^ 9)
        | none => false
      let s := s.modPort k p fun q => { q with refSeen := some s.time.ft }
      if divOn s k p && valid then
        let cfg := s.cfg2 .DIV_CFG k p
        let n := 2 ^ fld cfg 10 8
        let diff := if q.altSecond then second - first else first - second
        let s := s.modPort k p fun q => { q with bursts := (diff :: q.bursts).take n, altSecond := !q.altSecond }
        let q := s.port k p
        let rested := match q.lastSwitch with
          | some t => decide (t + fld cfg 23 16 * 10 ^ 9 ≤ s.time.ft)
          | none => true
        if decide (q.bursts.length = n) && decide (10 * (fld cfg 7 0 : Int) ≤ divDelta q) && rested then
          let d := divDelta q
          let s := s.modPort k p fun q =>
            { q with selected := !q.selected, switches := satInc 0xFF q.switches, bursts := [], lastSwitch := some s.time.ft }
          pathChange k p (skeinEvent (locOf (dieNum k) (portUnit p)) 4 3 (pack [(1, p.val), (2, enc 16 d)]) s)
        else s
      else s
    else s

/-! ## Tuners and RFFE (R319, R320, R322) -/

/-- The uplink strands that send to a port. -/
def uplinksOf (s : State) (k : DieIx) (p : PortIx) : List StrandIx :=
  allStrands.filter fun i => isUplink i && isRunning s k i && outKind s k i == 1 && outPort s k i == p.val

/-- Changing a die's scan receiver and its RFFE master. -/
def State.modScan (s : State) (k : DieIx) (f : Scan → Scan) : State := s.modDie k fun d => { d with scan := f d.scan }
def State.modRffe (s : State) (k : DieIx) (f : Rffe → Rffe) : State := s.modDie k fun d => { d with rffe := f d.rffe }

/-- Whether the scan receiver is at work on tuners: task 4 of R312, in Receive. -/
def tunerTask (s : State) (k : DieIx) : Bool :=
  let x := (s.dies[k]).scan
  x.task == 4 && x.st == .receive && x.moving.isNone

/-- The Extended Register Write of tuner state j (TUNE_SEQ_j). -/
def tuneOp (s : State) (k : DieIx) (p : PortIx) (j : Nat) : RffeOp :=
  let w := s.cfg3 .TUNE_SEQ k p j
  ⟨2, fld w 31 28, bit w 24, fld w 23 16, fld w 15 0⟩

/-- A tuner write of the device on the RFFE bus (R322): it waits for a transaction in progress. -/
def tunerWrite (k : DieIx) (p : PortIx) (j : Nat) (s : State) : State :=
  let x := tuneOp s k p j
  s.modRffe k fun r => if r.busy.isSome then { r with owed := r.owed ++ [x] } else { r with busy := some (false, x) }

/-- The measurement of once a second (R319), in task 4: the forward level of the band at CPLFWD and the powers measured, in
0.01 dBm. -/
def tunerMeasure (k : DieIx) (p : PortIx) (band fwd rev : Int) (s : State) : State :=
  let ups := uplinksOf s k p
  let made := !ups.isEmpty && (decide (-4500 ≤ band) || ups.all (ugClosed s k))
  if !tuneOn s k p || 2 ≤ p.val || !tunerTask s k then s
  else if !made then s.modPort k p fun q => { q with measValid := false }
  else
    let cfg := s.cfg2 .TUNE_CFG k p
    let rl := sat 16 (fwd - rev)
    s.modPort k p fun q =>
      let run := if rl < 10 * (fld cfg 23 16 : Int) then q.lowRun + 1 else 0
      { q with rl := rl, measValid := true, lowRun := run, wantSearch := q.wantSearch || decide (fld cfg 15 8 ≤ run) }

/-- Whether a search that is wanted may begin (R320, R325): every uplink strand is CLOSED, no diversity switch waits for its
estimate, and no search is in progress on the die. -/
def searchReady (s : State) (k : DieIx) (p : PortIx) : Bool :=
  (s.port k p).wantSearch && tuneOn s k p && (uplinksOf s k p).all (ugClosed s k) &&
    !(allStrands.any fun i => (s.canc k i).pathCap) && !(allPorts.any fun q => (s.port k q).search.isSome)

/-- The start of a search (R320), in task 4. -/
def tunerSearch (k : DieIx) (p : PortIx) (s : State) : State :=
  if searchReady s k p && tunerTask s k then
    tunerWrite k p 0 (s.modPort k p fun q => { q with search := some ⟨0, none, q.tuned⟩, wantSearch := false, lowRun := 0 })
  else s

/-- One measurement of a search, the return loss in 0.01 dB (R320, R326). -/
def tunerStep (k : DieIx) (p : PortIx) (rl : Int) (s : State) : State :=
  match (s.port k p).search with
  | none => s
  | some x =>
    let best := match x.best with
      | some (j, b) => if b < rl then (x.j, rl) else (j, b)
      | none => (x.j, rl)
    if x.j + 1 < fld (s.cfg2 .TUNE_CFG k p) 27 24 then
      tunerWrite k p (x.j + 1) (s.modPort k p fun q => { q with search := some ⟨x.j + 1, some best, x.old⟩ })
    else
      let s := tunerWrite k p best.1 (s.modPort k p fun q =>
        { q with search := none, tuned := best.1, rl := sat 16 best.2, searches := satInc 0xFF q.searches })
      let s := skeinEvent (locOf (dieNum k) (portUnit p)) 4 4 (pack [(1, x.old), (1, best.1), (2, enc 16 (sat 16 best.2))]) s
      if best.1 = x.old then s else pathChange k p s

/-- A strand that opens ends the searches of its output port at once, and the previous state comes back (R320, R326). -/
def tunerWatch (k : DieIx) (s : State) : State :=
  s.each allPorts fun p s =>
    match (s.port k p).search with
    | none => s
    | some x =>
      if (uplinksOf s k p).all (ugClosed s k) then s
      else
        let s := tunerWrite k p x.old (s.modPort k p fun q => { q with search := none })
        skeinEvent (locOf (dieNum k) (portUnit p)) 4 4 (pack [(1, x.old), (1, x.old), (2, enc 16 (s.port k p).rl)]) s

/-- GO of RFFE_CMD (R322): the transaction takes RFFE_DATA with it. -/
def rffeGo (k : DieIx) (s : State) : State :=
  if bit (s.cfg1 .RFFE_CFG k) 8 then
    let w := s.cfg1 .RFFE_CMD k
    s.modRffe k fun r =>
      { r with busy := some (true, ⟨fld w 26 24, fld w 23 20, bit w 16, fld w 7 0, r.data⟩) }
  else s

/-- The end of an RFFE transaction (R322): what a read gave, and whether its parity is good. The oldest tuner write that
waits follows. -/
def rffeDone (k : DieIx) (data : Nat) (good : Bool) (s : State) : State :=
  match (s.dies[k]).rffe.busy with
  | none => s
  | some (_, x) =>
    s.modRffe k fun r =>
      let r := { r with busy := (r.owed.head?).map fun y => (false, y), owed := r.owed.drop 1 }
      if x.ty = 3 ∨ x.ty = 4 then
        if good then { r with data := data % (if x.ty = 4 ∧ x.long then 65536 else 256) }
        else { r with parity := true, parErr := satInc 0xFFFF r.parErr }
      else r

/-! ## The scan receiver (R309 to R314) -/

/-- The lowest list whose presence check waits. -/
def presWaiting (s : State) (k : DieIx) : Option (Fin 8) :=
  (List.finRange 8).find? fun e => ((s.dies[k]).lists[e]).waiting.isSome

/-- The temperature of a die in 0.1 °C, none before its first reading. -/
def dieTemp (s : State) (k : DieIx) : Option Int := (s.thm.dies[thmIx k]).shown

/-- Whether image calibration is due (R314). -/
def calIsDue (s : State) (k : DieIx) : Bool :=
  let x := (s.dies[k]).scan
  x.calDue || (x.lock && !x.calOnce) ||
    (x.calOnce && (decide (x.calTime + 86400 * 10 ^ 9 ≤ s.time.ft) || (match dieTemp s k with | some t => decide (100 ≤ (t - x.calTemp).natAbs) | none => false)))

/-- Whether the tuners of a die ask for task 4: a measurement that has become due, or a search that may begin. -/
def tunerDue (s : State) (k : DieIx) : Bool :=
  ((s.dies[k]).scan.tuneDue && (tuneOn s k 0 || tuneOn s k 1)) || searchReady s k 0 || searchReady s k 1

/-- The task of the highest order that is due (R312), 0 for none. -/
def dueTask (s : State) (k : DieIx) : Nat :=
  let x := (s.dies[k]).scan
  if x.tddDue && (s.dies[k]).tdd.active.isSome then 1
  else if (presWaiting s k).isSome then 2
  else if x.divDue && (divOn s k 0 || divOn s k 1) then 3
  else if tunerDue s k then 4
  else if x.reqOn then 5
  else if calIsDue s k then 6
  else 0

/-- The frequency in kHz and the donor port of a presence list. -/
def listTune (s : State) (k : DieIx) (e : Fin 8) : Nat × Nat :=
  let w := s.cfg2 .PRES_CFG k e
  (fld w 22 0, 2 * b2n (bit w 30))

/-- The frequency in kHz that a task tunes to and its coupler input, coded as INPUT of SCAN_REQ (R312): the band's centre of
the lowest running uplink strand for a tuner (R319). Of several ports that want task 3 or 4 the lowest-numbered is served,
and calibration keeps the present tuning (R314). -/
def taskTune (s : State) (k : DieIx) (t : Nat) : Nat × Nat :=
  let x := (s.dies[k]).scan
  let first := fun (on : PortIx → Bool) => if on 0 then (0 : Fin 2) else 1
  match t with
  | 1 => match tddEntry s k with | some e => listTune s k e | none => (x.want, x.input)
  | 2 => match presWaiting s k with | some e => listTune s k e | none => (x.want, x.input)
  | 3 => match divRef s k (first (divOn s k)) with | some e => listTune s k e | none => (x.want, x.input)
  | 4 =>
    let p : PortIx := Fin.ofNat 4 (first (fun p => tuneOn s k p)).val
    match (uplinksOf s k p).head? with
    | some i => ((roundDiv ((s.rid k i).ftw * fS) (2 ^ 48)).toNat, 2 * p.val)
    | none => (x.want, 2 * p.val)
  | 5 => (fld (s.cfg1 .SCAN_REQ k) 22 0, fld (s.cfg1 .SCAN_REQ k) 27 26)
  | _ => (x.want, x.input)

/-- The state that a task needs, or the idle state. -/
def scanGoal (x : Scan) : PortState := if x.task = 0 then x.idle else if x.task = 6 then .transmit else .receive

/-- The next scan transition (R309): Receive and Transmit change over through Synth-on, and a receiver that is tuned to
another frequency than its task needs retunes in Synth-on. -/
def scanNext (a g : PortState) (tuned : Bool) : Option PortState :=
  if a = g ∧ (g ≠ .receive ∨ tuned) then none
  else if g = .sleep then some .sleep
  else match a with
    | .sleep => some .standby
    | .standby => some .synthOn
    | .synthOn => if g = .receive ∧ tuned = false then some .synthOn else some g
    | .receive | .transmit => some .synthOn

/-- Beginning the next scan transition. -/
def scanAdvance (k : DieIx) (s : State) : State :=
  s.modScan k fun x =>
    if x.moving.isSome then x else { x with moving := scanNext x.st (scanGoal x) (decide (x.tuned = x.want)) }

/-- The start of a task (R312): tasks 1, 3 and 4 that have become due are named with it; a host request yields to tasks
1 and 2. -/
def scanStart (k : DieIx) (tddD divD tuneD : Bool) (s : State) : State :=
  let s := s.modScan k fun x => { x with tddDue := x.tddDue || tddD, divDue := x.divDue || divD, tuneDue := x.tuneDue || tuneD }
  let now := (s.dies[k]).scan.task
  let t := dueTask s k
  if t = 0 ∨ ¬(now = 0 ∨ (now = 5 ∧ t ≤ 2)) then s
  else
    let tune := taskTune s k t
    let list := presWaiting s k
    let s := s.modScan k fun x =>
      { x with task := t, tddDue := x.tddDue && t != 1, divDue := x.divDue && t != 3, tuneDue := x.tuneDue && t != 4,
               calDue := x.calDue || t == 6, want := tune.1, input := tune.2,
               tddAt := if t = 1 then s.time.ft else x.tddAt, tuneAt := if t = 4 then s.time.ft else x.tuneAt }
    let s := match t, list with
      | 2, some e => s.modList k e fun l => { l with waiting := none, running := some s.time.ft }
      | _, _ => s
    scanAdvance k s

/-- The ns from now to the time at which a task is next due (R311, R312), as far as it is known; that of the next burst for
diversity is what the last task's end brought. -/
def nextDue (s : State) (k : DieIx) : Nat :=
  let x := (s.dies[k]).scan
  let now := s.time.ft
  let far := 86400 * 10 ^ 9
  if dueTask s k ≠ 0 then 0
  else
    let tdd := if (s.dies[k]).tdd.active.isSome then x.tddAt + 100 * 10 ^ 6 - now else far
    let lists := (List.finRange 8).foldl (fun a e =>
      match ((s.dies[k]).lists[e]).due with | some t => min a (t - now) | none => a) far
    let div := if (divOn s k 0 && (divRef s k 0).isSome) || (divOn s k 1 && (divRef s k 1).isSome) then x.divAt - now else far
    let tune := if tuneOn s k 0 || tuneOn s k 1 then x.tuneAt + 10 ^ 9 - now else far
    let cal := if x.calOnce then (if x.imgRej < 6000 then x.calTime + 60 * 10 ^ 9 - now else x.calTime + far - now) else far
    min (min (min tdd lists) (min div tune)) cal

/-- The idle state by the time in ns to the next task (R311). -/
def scanIdle (next : Nat) : PortState :=
  if next ≤ 5000000 then .synthOn else if next ≤ 2000000000 then .standby else .sleep

/-- A task has ended: the receiver takes its idle state by the time to the next task (R311). -/
def scanRest (k : DieIx) (s : State) : State :=
  let s := s.modScan k fun x => { x with task := 0 }
  let idle := scanIdle (nextDue s k)
  scanAdvance k (s.modScan k fun x => { x with idle := idle })

/-- The end of a task (R311, R312): the time to the next burst for diversity, and what a host request found. A tuner search in
progress is not at its end. -/
def scanDone (k : DieIx) (next : Nat) (power : Int) (cells : List ScanCell) (s : State) : State :=
  let x := (s.dies[k]).scan
  if x.task = 0 ∨ (x.task = 4 ∧ allPorts.any fun p => (s.port k p).search.isSome) then s
  else
    let ss := fld (s.cfg1 .SCAN_REQ k) 29 28
    let s := s.modScan k fun x =>
      if x.task = 5 then
        { x with reqOn := false, reqDone := true, reqCode := .ok,
                 power := if ss = 0 then sat 16 power else x.power,
                 cells := if ss = 1 then cells.take 8 else x.cells }
      else x
    scanRest k (s.modScan k fun x => { x with divAt := s.time.ft + next })

/-- The end of a scan transition (R309): in Synth-on, from below or by a retune, the synthesiser has its task's frequency. -/
def scanMoved (k : DieIx) (s : State) : State :=
  match (s.dies[k]).scan.moving with
  | none => s
  | some t => scanAdvance k (s.modScan k fun x =>
      { x with st := t, moving := none, lock := t.high,
               tuned := if t = .synthOn ∧ x.st ≠ .receive ∧ x.st ≠ .transmit then x.want else x.tuned })

/-- GO and ABORT of SCAN_REQ (R312). -/
def scanGo (k : DieIx) (s : State) : State :=
  s.modScan k fun x => if x.reqOn then x else { x with reqOn := true, reqDone := false }
def scanAbort (k : DieIx) (s : State) : State :=
  let x := (s.dies[k]).scan
  if x.reqOn then
    let s := s.modScan k fun x => { x with reqOn := false, reqDone := true, reqCode := .ok }
    if x.task = 5 then scanRest k s else s
  else s

/-- A step of image calibration (R310, R314): whether the scan synthesiser is locked, whether it is the last, and the
rejection measured in 0.01 dB. The step needs Transmit, which sends the tone; without lock the receiver returns to Standby with
its synthesiser stopped. The IQ correction that the step trims, and CAL_TEMP of a die that has had no reading, are free
values. -/
def calStep (k : DieIx) (locked last : Bool) (rej : Nat) (s : State) : State :=
  let x := (s.dies[k]).scan
  if x.task ≠ 6 ∨ x.st ≠ .transmit ∨ x.moving.isSome then s
  else if !locked then
    s.modScan k fun x =>
      { x with reqCode := .notLocked, task := 0, calDue := true, lock := false, st := .standby, idle := .standby }
  else
    let iq := (signed 16 (Config.free s.freeCtr), signed 16 (Config.free (s.freeCtr + 1)))
    let s := s.tick.tick.modScan k fun x => { x with iq := iq }
    if !last then
      if (dueTask s k) < 6 then scanRest k (s.modScan k fun x => { x with calDue := true }) else s
    else
      let bad := decide (rej < 6000)
      let temp := match dieTemp s k with | some t => t | none => 10 * signed 8 (Config.free s.freeCtr)
      let s := s.tick.modScan k fun x =>
        { x with calDue := false, calOnce := true, imgRej := min 0xFFFF rej, calTemp := temp, calTime := s.time.ft,
                 calFail := x.calFail || bad }
      let s := if bad then raiseHold (srcOfDie k 7) 0 (skeinEvent (locOf (dieNum k) 0) 4 5 (pack [(2, min 0xFFFF rej)]) s)
        else lower (srcOfDie k 7) s
      scanRest k s

/-- 60 s after a failed calibration (R314). -/
def calRetry (k : DieIx) (s : State) : State :=
  let x := (s.dies[k]).scan
  if x.calOnce && decide (x.imgRej < 6000 ∧ x.calTime + 60 * 10 ^ 9 ≤ s.time.ft) then
    s.modScan k fun x => { x with calDue := true }
  else s

/-! ## Coexistence (R323, R324) -/

/-- As requester, COEX_REQ rises LEAD before a switch into Transmit; PRI with it where the transmission of a masked port that
is due covers a burst window. -/
def coexAssert (s : State) : State :=
  if coexRole s = 1 then
    let burst := (coexPorts s).any fun x => coexNeed s x.1 x.2 && burstMeets s x.1 x.2 (txSpan s x.1 x.2)
    { s with coex := { s.coex with req := true, pri := bit (s.cfg0 .COEX_CFG) 29 && burst } }
  else s

/-- COEX_GNT falls: the requester's masked ports leave Transmit. With coexistence off the pins are inputs, whose levels
COEX_STAT shows. -/
def coexGntFall (s : State) : State :=
  if coexRole s = 0 then { s with coex := { s.coex with gnt := false } }
  else if coexRole s = 1 then
    let s := { s with coex := { s.coex with gnt := false } }
    s.each (coexPorts s) fun x s =>
      let q := s.port x.1 x.2
      if q.st = .transmit ∨ q.moving = some .transmit then
        leaveTx x.1 x.2 s.time.ft (s.modPort x.1 x.2 fun q => { q with coexHeld := q.goal == .transmit })
      else s
  else s

/-- A port held by coexistence goes on (R323, R324); a cycling port in its transmit window switches, and a switch into
Receive that has not begun does not take place. -/
def portResume (k : DieIx) (p : PortIx) (s : State) : State :=
  let s := s.movePort k p fun q =>
    { q with coexHeld := false, hold31 := false,
             moving := if q.mvSwitch && decide (s.time.ft < q.mvAt) then none else q.moving }
  cycleSettle k p (portAdvance k p s)

/-- Ports held by coexistence go on (R323, R324). -/
def coexResume (s : State) : State := s.each (coexPorts s) fun x s => portResume x.1 x.2 s

/-- COEX_GNT rises: the requester's masked ports go on. -/
def coexGntRise (s : State) : State :=
  if coexRole s = 0 && !s.coex.gnt then
    { s with coex := { s.coex with gnt := true, grants := satInc 0xFFFFFFFF s.coex.grants } }
  else if coexRole s = 1 && !s.coex.gnt then
    coexResume { s with coex := { s.coex with gnt := true, grants := satInc 0xFFFFFFFF s.coex.grants } }
  else s

/-- The time in ns that the gates of the masked ports' strands take to reach the pins: ramp and G_tx (R324). -/
def coexWait (s : State) : Nat :=
  (coexPorts s).foldl (fun m x =>
    (allStrands.filter fun i => isRunning s x.1 i && outKind s x.1 i == 1 && outPort s x.1 i == x.2.val).foldl
      (fun m i => max m ((rampTime (rdlH s x.1 i) + gTx (rdlH s x.1 i) (rdlTaps s x.1 i) + 9) / 10)) m) 0

/-- The decision to grant (R324): bit 31 on the strands of the masked ports, which switch to Receive once the gate ramps have
reached the pins. -/
def coexDecide (s : State) : State :=
  let at_ := s.time.ft + coexWait s
  let s := { s with coex := { s.coex with waiting := false, granting := true } }
  s.each (coexPorts s) fun x s =>
    leaveTx x.1 x.2 at_ (s.modPort x.1 x.2 fun q =>
      { q with hold31 := true, coexHeld := q.coexHeld || ((q.st == .transmit || q.moving == some .transmit) && q.goal == .transmit) })

/-- Whether a burst window is open on a masked port (R324). -/
def coexWindow (s : State) : Bool := (coexPorts s).any fun x => burstMeets s x.1 x.2 0

/-- COEX_REQ rises with COEX_PRI at a level: the grantor decides, or waits for the end of a burst window, which it counts as
a denial (R324, R326). -/
def coexReqRise (pri : Bool) (s : State) : State :=
  if coexRole s = 0 then { s with coex := { s.coex with req := true, pri := pri } }
  else if coexRole s = 2 then
    let s := { s with coex := { s.coex with req := true, pri := pri } }
    if pri || !coexWindow s then coexDecide s
    else skeinEvent (locOf 15 0) 4 6 0 { s with coex := { s.coex with waiting := true, denials := satInc 0xFFFF s.coex.denials } }
  else s

/-- The end of the burst window, or WAIT after COEX_REQ rose. -/
def coexDecision (s : State) : State := if coexRole s = 2 && s.coex.waiting && s.coex.req then coexDecide s else s

/-- The masked ports are in Receive, and COEX_GNT rises (R324). -/
def coexRaise (s : State) : State :=
  if coexRole s = 2 && s.coex.granting then
    let s := s.each (coexPorts s) fun x s =>
      if (s.port x.1 x.2).st = .transmit then portEnter x.1 x.2 .receive false s
      else s.modPort x.1 x.2 fun q => { q with hold31 := false }
    { s with coex := { s.coex with granting := false, gnt := true, grants := satInc 0xFFFFFFFF s.coex.grants } }
  else s

/-- COEX_REQ falls: the grantor takes its grant back. -/
def coexReqFall (s : State) : State :=
  if coexRole s = 0 then { s with coex := { s.coex with req := false, pri := false } }
  else if coexRole s = 2 then
    coexResume { s with coex := { s.coex with req := false, pri := false, waiting := false, granting := false, gnt := false } }
  else s

end Sys2Proof.Machine
end

