-- ==== Sys2Proof/Machine/ThermalOps.lean ====
section
/-!
DEFINITION. Machine/ThermalOps.lean: conversions, readings, the states of the dies, throttle, shutdown, re-arming and the
MRAM write window (17_thermal.md).
-/
namespace Sys2Proof.Machine
open Sys2Proof

/-- Changing a die of the thermal guard. -/
def State.modThm (s : State) (d : Fin 8) (f : ThmDie → ThmDie) : State :=
  { s with thm := { s.thm with dies := vmod s.thm.dies d f } }

/-- All eight dies. -/
def allThm : List (Fin 8) := List.finRange 8

/-- The band die of a sensor. -/
def thmDie (d : Fin 8) : Option DieIx := allDies.find? fun k => thmIx k == d

/-! ## Registers -/

/-- Whether the automatic re-arm is possible (R536). -/
def autoOk (s : State) : Bool := bit (s.cfg0 .THM_CTRL) 8 && decide (s.thm.rearms < 3)

/-- THM_STAT. -/
def thmStat (s : State) : Word :=
  mkWord [(31, 24, min 255 s.thm.rearms), (23, 20, s.thm.shutDie), (19, 16, s.thm.shutCause),
    (7, 7, b2n s.thm.mailbox.isSome), (6, 6, b2n (mramVerdict s == .allowed)), (5, 5, b2n (s.thm.hold && !autoOk s)),
    (4, 4, b2n s.thm.hold)]

/-- The address of THM_STAT. -/
def addrThmStat : Nat := keyAddr ⟨.THM_STAT, 0, 0, 0⟩

/-- TEMP and RATE of THM_DIE_k. -/
def tempField (d : ThmDie) : Nat := match d.shown with | some t => enc 16 t | none => 0x8000
def rateField (d : ThmDie) : Nat := enc 12 (sat 12 d.rate)

/-- THM_DIE_k. -/
def thmDieWord (d : ThmDie) : Word :=
  mkWord [(31, 16, tempField d), (15, 4, rateField d), (3, 3, b2n d.broken), (2, 0, d.st.num)]

/-- THM_CNT. -/
def thmCnt (s : State) : Word :=
  mkWord [(31, 24, s.thm.shutdowns), (23, 16, s.thm.mailboxLost), (15, 0, s.thm.throttles)]

/-- The values of an event of R539: temperature and rate, then the event's own. -/
def thmData (x : ThmDie) (more : List (Nat × Nat)) : Nat := pack ([(2, tempField x), (2, rateField x)] ++ more)

/-- An event of R539 of a die. -/
def thmEvent (d : Fin 8) (pos : Nat) (more : List (Nat × Nat)) (s : State) : State :=
  skeinEvent (locOf d.val 0) 0x0B pos (thmData s.thm.dies[d] more) s

/-! ## Shutdown and re-arming (R535, R536, R538) -/

/-- Whether a die is in SHUTDOWN. -/
def anyShut (s : State) : Bool := s.thm.dies.toList.any fun d => d.st == .shutdown

/-- Re-arming: HOLD ends and each port moves towards its kept TARGET. `by_` is the value of the event. -/
def rearm (by_ : Nat) (s : State) : State :=
  let before := thmStat s
  let s := { s with thm := { s.thm with hold := false, rearms := if by_ = 0 then s.thm.rearms + 1 else s.thm.rearms } }
  let s := s.each allDies fun k s => s.each allPorts (portUnpark k)
  tallyAuto addrThmStat before (thmStat s) (skeinEvent (locOf 15 0) 0x0B 7 (pack [(1, by_)]) s)

/-- The automatic re-arm, when its conditions hold. -/
def autoRearm (s : State) : State := if s.thm.hold && !anyShut s && autoOk s then rearm 0 s else s

/-- A write of REARM (R536). -/
def rearmWrite (o : Origin) (s : State) : Code × State :=
  if anyShut s then (.busy, s)
  else if !s.thm.hold then (.ok, s)
  else (.ok, rearm (originCode o + 1) s)

/-- What stops for a hold of the transmitters: every strand, every port, and every coil but the input coils at its next
boundary (R535, 18_clocks_power.md R550, R555). -/
def holdTransmit (classes : Nat → Bool) (s : State) : State :=
  let s := s.each allDies fun k s =>
    (s.each allStrands (strandStop k)).each allPorts (portPark k)
  s.each allCoils fun c s =>
    if classes (coilClass c) && (s.coils[c]).st != .stopped then s.modCoil c fun q => { q with stopWait := true } else s

/-- The shutdown's record, in the Skein or in the foot mailbox. -/
def shutRecord (d : Fin 8) (cause : Nat) (s : State) : State :=
  let data := thmData s.thm.dies[d] [(1, cause)]
  if hubFresh s && s.thm.win == .closed then
    let r : SkeinRec :=
      { seq := 0, epoch := s.time.epoch, rep := 0, time := s.wall, lastMs := 0, source := 1, st := 1, sev := 0,
        injected := false, mailbox := true, timeUnset := !s.time.wtSet, loc := locOf d.val 0, code := 0x0B06,
        data := data % 2 ^ 48 }
    { s with thm := { s.thm with
      mailbox := some r,
      mailboxLost := if s.thm.mailbox.isSome then satInc 0xFF s.thm.mailboxLost else s.thm.mailboxLost } }
  else skeinEvent (locOf d.val 0) 0x0B 6 data s

/-- Committing the foot mailbox (R538). -/
def mailboxCommit (s : State) : State :=
  match s.thm.mailbox with
  | none => s
  | some r =>
    let was := { s with thm := { s.thm with mailbox := none } }
    let s := skeinClose was
    if skeinPlace s.skein 0 then
      let r := { r with seq := s.skein.next }
      skeinFill (skeinEmit r { s with skein := { s.skein with next := seqNext s.skein.next, newest := some (r, false), lastAt := r.time } })
    else skeinLose was

/-- A die enters SHUTDOWN. -/
def shutdown (d : Fin 8) (s : State) : State :=
  let before := thmStat s
  let cause := if (s.thm.dies[d]).broken then 2 else 1
  let s := holdTransmit (fun c => c != 1) { s with thm := { s.thm with
    hold := true, shutDie := d.val, shutCause := cause, shutdowns := satInc 0xFF s.thm.shutdowns } }
  tallyAuto addrThmStat before (thmStat s) (shutRecord d (cause - 1) s)

/-! ## Throttle (R534) -/

/-- A die enters THROTTLE: the gains of its running strands are kept. -/
def throttle (d : Fin 8) (cause : Nat) (s : State) : State :=
  let s := s.each allDies fun k s =>
    if d = 0 ∨ thmIx k = d then
      s.each allStrands fun i s => s.modStrand k i fun t =>
        if t.st = .stopped then t
        else if d = 0 then { t with gEntHub := some t.gApp } else { t with gEntDie := some t.gApp }
    else s
  let s := s.modThm d fun x => { x with n := 1, stepAt := s.time.ft }
  thmEvent d 3 [(1, cause)] { s with thm := { s.thm with throttles := satInc 0xFFFF s.thm.throttles } }

/-- A later reading that would still enter THROTTLE. -/
def throttleStep (d : Fin 8) (s : State) : State :=
  let x := s.thm.dies[d]
  if x.stepAt + fld (s.cfg0 .THM_THR) 23 16 * 1000000000 ≤ s.time.ft then
    thmEvent d 4 [(1, x.n + 1)] (s.modThm d fun y => { y with n := y.n + 1, stepAt := s.time.ft })
  else s

/-! ## Crossings (R532) -/

/-- The level of a reading: a broken one counts as 125 °C. -/
def Reading.level (r : Reading) : Int := if r.broken then 1250 else r.temp

/-- Whether a reading meets the condition on which a state is entered. -/
def Reading.meets (r : Reading) : ThmState → Bool
  | .warn => decide (1050 ≤ r.level)
  | .throttle => decide (1150 ≤ r.level) || r.fast
  | .shutdown => decide (1250 ≤ r.level)
  | _ => false

/-- The highest state that a reading meets. -/
def Reading.up (r : Reading) : ThmState :=
  if r.meets .shutdown then .shutdown else if r.meets .throttle then .throttle else if r.meets .warn then .warn else .normal

/-- Where a reading would take a die in a state; the state itself when it meets no change. -/
def Reading.target (r : Reading) (x : ThmState) : ThmState :=
  if x.num < r.up.num then r.up
  else match x with
    | .shutdown => if r.level < 1000 then .normal else x
    | .throttle => if r.level < 1100 ∧ !r.fast then .warn else x
    | .warn => if r.level < 1000 then .normal else x
    | _ => x

/-- The state to which both readings of a crossing agree: a broken second reading confirms only SHUTDOWN (R540). -/
def agreed (x : ThmState) (a b : Reading) : ThmState :=
  let ta := a.target x
  let tb := b.target x
  if x.num < ta.num then
    let both := fun (y : ThmState) => decide (x.num < y.num) && a.meets y && b.meets y && (!b.broken || y == .shutdown)
    if b.broken && ta != .shutdown then x
    else if both .shutdown then .shutdown else if both .throttle then .throttle else if both .warn then .warn else x
  else if ta = tb then ta else x

/-- A die changes its state by a reading. -/
def thmEnter (d : Fin 8) (y : ThmState) (r : Reading) (s : State) : State :=
  let x := (s.thm.dies[d]).st
  let s := s.modThm d fun q => { q with st := y }
  if y = x then s
  else if x.num < y.num ∨ x = .off then
    match y with
    | .warn => thmEvent d 1 [] s
    | .throttle => throttle d (if 1150 ≤ r.level then 0 else 1) s
    | .shutdown => shutdown d s
    | _ => s
  else match x with
    | .warn => thmEvent d 2 [] s
    | .throttle => thmEvent d 5 [] s
    | _ => s

/-- Judging a reading for its own die. -/
def thmJudge (d : Fin 8) (r : Reading) (s : State) : State :=
  let q := s.thm.dies[d]
  if q.st = .off then thmEnter d r.up r (s.modThm d fun q => { q with again := true, first := none })
  else
    let s := if q.st = .throttle ∧ r.meets .throttle then throttleStep d s else s
    match q.first with
    | some a =>
      if r.t < a.t + 10000000 then s
      else
        let y := agreed q.st a r
        let s := s.modThm d fun q => { q with first := if r.target y = y then none else some r }
        thmEnter d y r s
    | none => s.modThm d fun x => { x with first := if r.target q.st = q.st then none else some r, again := false }

/-! ## The MRAM window (R537) -/

/-- The writes that waited for a hub reading, by what it made of the window. -/
def mramServe (s : State) : State := hmemServe (pwServe (ackServe (clearServe s)))

/-- What a hub reading does to the window: one outside closes it at once; a closed one reopens by a confirmation. -/
def thmWindow (r : Reading) (s : State) : State :=
  let ok := !r.broken && decide (-400 ≤ r.temp ∧ r.temp ≤ 1300)
  let was := s.thm.win
  let s := { s with thm := { s.thm with hubAt := r.t, stale := false } }
  if !ok then
    let s := { s with thm := { s.thm with win := .closed, winFirst := none } }
    if was = .closed then s else thmEvent 0 9 [] s
  else match was with
    | .opened => s
    | .neither => mailboxCommit { s with thm := { s.thm with win := .opened } }
    | .closed =>
      match s.thm.winFirst with
      | none => { s with thm := { s.thm with winFirst := some r.t } }
      | some a =>
        if r.t < a + 10000000 then s
        else thmEvent 0 10 [] (mailboxCommit { s with thm := { s.thm with win := .opened, winFirst := none } })

/-! ## Conversions (R528 to R531) -/

/-- The converter takes the request of highest priority, and with it every request for the same die. A request for a die
that may not be converted has ended. -/
def convStart (s : State) : State :=
  if s.thm.cur.isSome then s
  else
    let q := s.thm.queue.filter fun r => convertible s r.die
    let best := q.foldl (fun (a : Option ThmReq) r =>
      match a with | none => some r | some b => if r.who.prio < b.who.prio then some r else some b) none
    match best with
    | none => { s with thm := { s.thm with queue := q } }
    | some b => { s with thm := { s.thm with
        cur := some (b.die, s.time.ft, (q.filter fun r => r.die == b.die).map (·.who)),
        queue := q.filter fun r => r.die != b.die } }

/-- The older readings that a later rate can still need: up to the newest that is at least 0.5 s old. -/
def keepPast (now : Nat) : List Reading → List Reading
  | [] => []
  | r :: l => if r.t + 500000000 ≤ now then [r] else r :: keepPast now l

/-- A reading of a die, with its rate. -/
def mkReading (d : Fin 8) (broken : Bool) (temp : Int) (s : State) : Reading :=
  let t := s.time.ft
  match (s.thm.dies[d]).past.find? fun r => decide (r.t + 500000000 ≤ t) with
  | some m =>
    if broken then ⟨t, true, temp, 0, false⟩
    else
      let num := (temp - m.temp) * 1000000000
      ⟨t, false, temp, roundDiv num (t - m.t), decide ((fld (s.cfg0 .THM_THR) 31 24 * (t - m.t) : Nat) < num)⟩
  | none => ⟨t, broken, temp, 0, false⟩

/-- The source of a die follows its state and its reading (R533). -/
def thmSource (d : Fin 8) (s : State) : State :=
  let q := s.thm.dies[d]
  let n := match thmDie d with | some k => srcOfDie k 8 | none => srcOf 7
  let on := q.broken || q.st == .warn || q.st == .throttle || q.st == .shutdown
  if on == (s.lash.srcs[n]).active then s else if on then raiseHold n 0 s else lower n s

/-- Answering a requester. -/
def thmAnswer (r : Reading) (w : ThmWho) (s : State) : State :=
  match w with
  | .port k p => portReading k p (!r.broken && decide (r.temp < 1250)) s
  | _ => s

/-- A conversion ends: `what` is the case of R530, 0 for a reading that is not broken; `shown` the value measured. -/
def thmReading (what : Nat) (temp : Int) (shown : Option Int) (s : State) : State :=
  match s.thm.cur with
  | none => s
  | some (d, _, who) =>
    let r := mkReading d (what != 0) temp s
    let s := { s with thm := { s.thm with cur := none } }
    let s := s.modThm d fun q =>
      { q with shown := shown, rate := r.rate, broken := r.broken, lastAt := some r.t,
               past := if r.broken then q.past else r :: keepPast r.t q.past }
    let s := if r.broken then thmEvent d 8 [(1, what)] s else s
    let s := thmSource d (thmJudge d r s)
    let s := if d = 0 then mramServe (thmWindow r s) else s
    autoRearm (s.each who (thmAnswer r))

/-- A conversion that ends by itself: a value outside -60 to +175 °C or an open or shorted diode is broken. -/
def convDone (temp : Int) (diode : Bool) (s : State) : State :=
  if diode then thmReading 3 1250 none s
  else if temp < -600 ∨ 1750 < temp then thmReading 1 temp (some temp) s
  else thmReading 0 temp (some temp) s

/-- A conversion that has not ended 500 µs after it started. -/
def convTimeout (s : State) : State := thmReading 2 1250 none s

/-- 10 ms after a first reading the confirmation is requested. -/
def confirmDue (d : Fin 8) (s : State) : State :=
  let q := s.thm.dies[d]
  if q.first.isSome ∨ q.again ∨ (d = 0 ∧ s.thm.winFirst.isSome) then
    thmAsk d .confirm (s.modThm d fun q => { q with again := false })
  else s

/-- The foot guard timer requests every die. -/
def guardTimer (s : State) : State := s.each allThm fun d s => thmAsk d .timer s

/-- A CONV. -/
def thmConv (d : Fin 8) (s : State) : State := thmAsk d .host s

/-- CONV of THM_CTRL: a host conversion is pending. -/
def convPending (s : State) : Bool :=
  (s.thm.queue.any fun r => r.who == .host) || (match s.thm.cur with | some (_, _, w) => w.contains .host | none => false)

/-- The newest hub reading has become older than 2 s. -/
def readingStale (s : State) : State := { s with thm := { s.thm with stale := true } }

/-- An automatic re-arm leaves the 24 h window. -/
def rearmExpire (s : State) : State := autoRearm { s with thm := { s.thm with rearms := s.thm.rearms - 1 } }

/-- A die that may no longer be converted is OFF (R532): its requests end, its source falls. -/
def thmOff (d : Fin 8) (s : State) : State :=
  let s := { s with thm := { s.thm with
    queue := s.thm.queue.filter fun r => r.die != d,
    cur := match s.thm.cur with | some (e, t, w) => if e = d then none else some (e, t, w) | none => none } }
  let s := s.modThm d fun q => { q with st := .off, first := none, again := false, past := [], lastAt := none, n := 0 }
  autoRearm (thmSource d s)

end Sys2Proof.Machine
end

