-- ==== Sys2Proof/Machine/HandleOps.lean ====
section
/-!
DEFINITION. Machine/HandleOps.lean: packages, the choice of images, resets and boot, updates, the Handle restart and the
remote-feed telemetry (14_handle_boot_update.md).
-/
namespace Sys2Proof.Machine
open Sys2Proof

/-! ## Packages (R466 to R469) -/

/-- The MRAM offset of an image slot: B is true. -/
def slotBase (b : Bool) : Nat := if b then 0x00600000 else 0

/-- The MRAM offset of a half of the configuration store. -/
def halfBase (b : Bool) : Nat := 0x01600000 + if b then 0x00200000 else 0

/-- The largest package and the largest store image. -/
def slotMax : Nat := 0x00600000
def halfMax : Nat := 0x00200000

/-- The header of the package in a slot. -/
def pkgHeader (s : State) (b : Bool) : List Byte := readBytes .mram (slotBase b) 512 s

/-- Fields of a package header. -/
def pkgSections (l : List Byte) : Nat := field l 6 2
def pkgTotal (l : List Byte) : Nat := field l 8 4
def pkgSvn (l : List Byte) : Nat := field l 0x0C 4
def pkgHubVer (l : List Byte) : Nat := field l 0x10 4
def pkgMcVer (l : List Byte) : Nat := field l 0x1C 4
def pkgHasHub (l : List Byte) : Bool := pkgSections l % 2 == 1
def pkgHasMc (l : List Byte) : Bool := pkgSections l / 2 % 2 == 1

/-- Entry n of the manifest: hub version, microcode version, Withy format. -/
def manifestEntry (l : List Byte) (n : Nat) : Nat × Nat × Nat :=
  let e := (l.drop (0x30 + 12 * n)).take 12
  (field e 0 4, field e 4 4, field e 8 2)

/-- Whether a manifest lists a combination with Withy format 2. -/
def manifestLists (l : List Byte) (h m : Nat) : Bool :=
  (List.range (min 32 (field l 0x28 1))).any fun n => manifestEntry l n == (h, m, 2)

/-- Whether a section lies between the header and the signature. -/
def sectionIn (ofs len total : Nat) : Bool := decide (512 ≤ ofs ∧ ofs + len + 96 ≤ total)

/-- Whether a header follows R468, with its sections in place (R469). -/
def pkgHeaderOk (l : List Byte) : Bool :=
  field l 0 4 == 0x4B50565A && field l 4 2 == 1 && decide (1 ≤ pkgSections l ∧ pkgSections l ≤ 3) &&
    decide (608 ≤ pkgTotal l ∧ pkgTotal l ≤ slotMax) &&
    (!pkgHasHub l || sectionIn (field l 0x14 4) (field l 0x18 4) (pkgTotal l)) &&
    (!pkgHasMc l || sectionIn (field l 0x20 4) (field l 0x24 4) (pkgTotal l)) &&
    (!(pkgHasHub l && pkgHasMc l) || decide (field l 0x14 4 + field l 0x18 4 ≤ field l 0x20 4 ∨
      field l 0x20 4 + field l 0x24 4 ≤ field l 0x14 4)) &&
    decide (1 ≤ field l 0x28 1 ∧ field l 0x28 1 ≤ 32) && field l 0x29 7 == 0 && field l 0x1B0 80 == 0 &&
    (List.range (min 32 (field l 0x28 1))).all fun n => field l (0x30 + 12 * n + 10) 2 == 0

/-- The bytes that a package's signature covers. -/
def pkgBody (s : State) (b : Bool) : List Byte := readBytes .mram (slotBase b) (pkgTotal (pkgHeader s b) - 96) s

/-- Whether the signature of a slot's package verifies with the image key. -/
def pkgSigned (s : State) (b : Bool) : Bool :=
  let n := pkgTotal (pkgHeader s b)
  Config.verifies (Config.otpKey 0) (sha384 (pkgBody s b)) (beNat (readBytes .mram (slotBase b + n - 96) 96 s))

/-- Whether BEGIN or an ABORT left a slot invalid. -/
def slotBad (s : State) (b : Bool) : Bool := if b then s.handle.badB else s.handle.badA

/-- Whether the content of a slot is a good package (R469). -/
def pkgContentGood (s : State) (b : Bool) : Bool :=
  pkgHeaderOk (pkgHeader s b) && pkgSigned s b && decide (s.handle.svnMin ≤ pkgSvn (pkgHeader s b))

/-- Whether a slot holds a good package. -/
def pkgGood (s : State) (b : Bool) : Bool := !slotBad s b && pkgContentGood s b

/-! ## The choice of images (R470) -/

/-- What the choice comes to: the slots of the hub firmware and of the microcode, and the two marks. -/
structure Choice where
  hub : Option Bool
  mc : Option Bool
  held : Bool
  fallback : Bool
  deriving DecidableEq, Repr

/-- R470 for a selected slot and given good slots. -/
def bootChoice (s : State) (good : Bool → Bool) (sel : Bool) : Choice :=
  let hd := pkgHeader s
  match [sel, !sel].find? fun b => good b && pkgHasHub (hd b) with
  | none => ⟨none, none, false, false⟩
  | some h =>
    let o := !h
    let mc := if pkgHasMc (hd h) then some h else if good o && pkgHasMc (hd o) then some o else none
    let listed : Bool := match mc with
      | some m => manifestLists (hd h) (pkgHubVer (hd h)) (pkgMcVer (hd m))
      | none => false
    if listed then ⟨some h, mc, false, h != sel⟩
    else if good o && pkgHasHub (hd o) && pkgHasMc (hd o) && manifestLists (hd o) (pkgHubVer (hd o)) (pkgMcVer (hd o)) then
      ⟨some o, some o, false, true⟩
    else ⟨some h, mc, true, h != sel⟩

/-- The boot block in force (R467): the good copy with the higher SEQ; slot A without one. -/
def bootBlock (h : Handle) : Bool × BootCopy :=
  if h.copyA.good ∧ (¬ h.copyB.good ∨ h.copyB.seq < h.copyA.seq) then (false, h.copyA)
  else if h.copyB.good then (true, h.copyB) else (true, ⟨false, 0, false, false, 0⟩)

/-- Writing the copy that is not in force. -/
def bootWrite (sel trial : Bool) (tries : Nat) (h : Handle) : Handle :=
  let b := bootBlock h
  let n : BootCopy := ⟨true, b.2.seq + 1, sel, trial, tries⟩
  if b.1 then { h with copyA := n } else { h with copyB := n }

/-- BOOT_STAT. -/
def bootStat (h : Handle) : Word :=
  mkWord [(31, 16, h.svnMin), (7, 7, b2n h.ready), (6, 6, b2n h.recovery), (5, 5, b2n h.versionHeld),
    (4, 4, b2n h.fallback), (3, 2, h.tries), (1, 1, b2n h.trial), (0, 0, b2n h.slot)]

/-- An event of R480. -/
def hdlEvent (pos data : Nat) (s : State) : State := skeinEvent (locOf 15 0) 0x0A pos data s

/-- Running what the choice came to. -/
def runChoice (c : Choice) (sel trial : Bool) (tries : Nat) (s : State) : State :=
  let h := s.handle
  match c.hub with
  | none => { s with handle := { h with recovery := true, tries := tries } }
  | some b =>
    { s with handle := { h with
      slot := b, hubVer := pkgHubVer (pkgHeader s b), mcSlot := c.mc,
      mcVer := (match c.mc with | some m => pkgMcVer (pkgHeader s m) | none => 0),
      versionHeld := c.held, fallback := c.fallback, tries := tries, trial := trial && b == sel } }

/-- The choice at a boot, with the trial of R472: TRIES counts, and at the fourth, or when the boot block cannot be
written, the other slot boots. A slot that the boot block goes on selecting is not run then, which FALLBACK shows. -/
def chooseImages (s : State) : State :=
  let blk := (bootBlock s.handle).2
  let can := mramVerdict s == .allowed
  let spent := blk.trial && decide (4 ≤ blk.tries + 1)
  let s :=
    if !blk.trial then runChoice (bootChoice s (pkgGood s) blk.sel) blk.sel false 0 s
    else if spent ∨ !can then
      let h := if spent ∧ can then bootWrite (!blk.sel) false 0 s.handle else s.handle
      let c := bootChoice s (pkgGood s) (!blk.sel)
      runChoice { c with fallback := (c.fallback || !can) && c.hub.isSome } (!blk.sel) false
        (if spent ∧ can then 0 else blk.tries) { s with handle := h }
    else
      let h := bootWrite blk.sel true (blk.tries + 1) s.handle
      runChoice (bootChoice s (pkgGood s) blk.sel) blk.sel true (blk.tries + 1) { s with handle := h }
  let w := bootStat s.handle
  let s := if tallyRoom s.tally then tallyPut .replay (keyAddr ⟨.BOOT_STAT, 0, 0, 0⟩) 0 w s else s
  let ev := fun (b : Bool) (pos : Nat) (s : State) => if b then hdlEvent pos (pack [(4, w.toNat)]) s else s
  ev spent 6 (ev s.handle.recovery 5 (ev s.handle.versionHeld 4 (ev s.handle.fallback 3 s)))

/-! ## Resets (R473, R548; 00_scope.md R12) -/

/-- The cells of MRAM and of its markers. -/
def mramCells (m : List Host.Cell) : List Host.Cell :=
  m.filter fun c => decide (c.1 < Space.handleSram.base ∨ Space.marker.base ≤ c.1)

/-- The register words that the foot domain holds. -/
def footRegs (s : State) : List (RegKey × Word) :=
  let put := fun (r : Reg) (mask : Word) (m : List (RegKey × Word)) => regPut m ⟨r, 0, 0, 0⟩ (s.cfg0 r &&& mask)
  put .BASKET_ID 0xFFFFFFFF (put .WAKE_CFG 0xFFFFFFFF (put .SKN_CTRL 0xFFFF0000 (put .THM_CTRL 0x0000013F [])))

/-- What the MRAM and the OTP keep of the Handle. -/
def handleKept (h : Handle) : Handle :=
  { Handle.reset with
    copyA := h.copyA, copyB := h.copyB, badA := h.badA, badB := h.badB, half := h.half, svnMin := h.svnMin }

/-- What the recorder keeps through a device reset: its records, its counters and its ring; a flush in progress is
taken back. -/
def skeinKept (k : Skein) : Skein :=
  let back := match k.flushing with | some l => l | none => []
  let q := match k.newest with
    | some (r, true) => if back.any (fun (x : SkeinRec) => x.seq == r.seq) then (back.filter (fun (x : SkeinRec) => x.seq != r.seq), some (r, false))
        else (back, k.newest)
    | x => (back, x)
  { Skein.reset with
    next := k.next, newest := q.2, lastAt := k.lastAt, buffer := q.1 ++ k.buffer, ringPos := k.ringPos,
    clearMark := k.clearMark, unreported := k.unreported, wanted := k.wanted || k.flushing.isSome }

/-- The state after a device reset: every field at its reset value but those of the foot domain, of MRAM and of OTP. -/
def resetState (s : State) : State :=
  { State.reset with
    pending := s.pending, done := s.done, freeCtr := s.freeCtr, fitted := s.fitted, serial := s.serial,
    regs := footRegs s, mem := mramCells s.mem, time := { s.time with ftHi := 0, wtHi := 0 },
    skein := skeinKept s.skein,
    tally := { s.tally with sealing := false, sealWin := none, tailLost := 0, deniedLost := 0 },
    lid := { Lid.reset with
      fails := s.lid.fails, lockLeft := s.lid.lockLeft, lockAt := s.lid.lockAt, factorySeen := s.lid.factorySeen, recA := s.lid.recA,
      recB := s.lid.recB, pwInitial := s.lid.pwInitial, chalSeq := s.lid.chalSeq },
    tap := { s.tap with haltHandle := false, haltCores := 0, hmWait := none },
    cane := { Cane.reset with nudges := s.cane.nudges },
    plait := { Plait.reset with driven := s.plait.driven && s.pwr.st != .foot },
    handle := { handleKept s.handle with restarts := s.handle.restarts },
    thm := { Thermal.reset with rearms := s.thm.rearms, mailbox := s.thm.mailbox },
    pwr := { Power.reset with
      lastWake := s.pwr.lastWake, fromFoot := s.pwr.fromFoot || s.pwr.st == .foot, pfails := s.pwr.pfails,
      footEntries := s.pwr.footEntries, footRc := s.pwr.footRc, refLost := s.pwr.refLost, refLong := s.pwr.refLong,
      failLow := s.pwr.failLow } }

/-- The power-on reset in force: only MRAM and OTP keep what they hold; POWER_FAIL_N keeps its level. -/
def powerOnState (s : State) : State :=
  { State.reset with
    pending := s.pending, done := s.done, freeCtr := s.freeCtr, fitted := s.fitted, serial := s.serial,
    mem := mramCells s.mem, handle := handleKept s.handle,
    lid := { Lid.reset with recA := s.lid.recA, recB := s.lid.recB, pwInitial := s.lid.pwInitial },
    pwr := { Power.reset with inReset := true, failLow := s.pwr.failLow } }

/-- The boot up to the choice of images and the regulatory record (R473). `hub` is the boot's reading of the hub
sensor in 0.1 °C, absent for an open or shorted diode. -/
def boot (hub : Option Int) (s : State) : State :=
  let s := { s with pwr := { s.pwr with inReset := false } }
  let s := s.each allDies fun k s => s.modDie k fun d => { d with powered := s.isFitted k }
  let s := { s with thm := { s.thm with cur := some (0, s.time.ft, [.handle]) } }
  let s := match hub with | some t => convDone t false s | none => convDone 0 true s
  regBoot (chooseImages s)

/-- A device reset (R473): the Lid closes first, and the close is recorded (19_lid_security.md R576). -/
def deviceReset (hub : Option Int) (s : State) : State := boot hub (resetState (lidShutBy 2 5 s))

/-- The release of the power-on reset (R548, 15_skein_tally.md R485): none while POWER_FAIL_N is low
(21_electrical_package.md R590). -/
def powerOn (hub : Option Int) (s : State) : State :=
  if s.pwr.failLow then s else boot hub (restoreSeries (powerOnState s))

/-- A write to RST_CTRL: an accepted RESET is made after its completion. -/
def rstCtrl (w : Word) (s : State) : Code × State :=
  if fld w 15 8 ≠ 0xA5 then (.badProgram, s)
  else if bit w 0 then (.ok, { s with pwr := { s.pwr with resetDue := true } }) else (.ok, s)

/-- A replay begins (R478); with no store image in force it ends at once. -/
def replayStart (wake : Bool) (s : State) : State :=
  let h := { s.handle with cfgFault := false, cfgFirstSet := false, cfgFirst := 0 }
  { s with handle := if h.half.isNone then { h with cfgDone := true, replay := none }
                     else { h with cfgDone := false, replay := some ⟨0, wake, none⟩ } }

/-- READY (R473). -/
def bootReady (s : State) : State :=
  if s.handle.recovery ∨ s.handle.ready ∨ s.handle.st ≠ .boot ∨ s.handle.hubVer = 0 then s
  else replayStart false { s with handle := { s.handle with ready := true, st := .sleep } }

/-- The release of band die k (01_architecture.md R47; 18_clocks_power.md R552): once its microcode is loaded, in rising
order. -/
def canRelease (s : State) (k : DieIx) : Bool :=
  s.isFitted k && (s.dies[k]).powered && !(s.dies[k]).released && s.handle.mcSlot.isSome && !s.tap.haltHandle &&
    allDies.all fun j => !decide (j.val < k.val) || (s.dies[j]).released

/-! ## Updates (R474 to R476) -/

/-- The half of the store that is not in force. -/
def freeHalf (h : Handle) : Bool := match h.half with | some b => !b | none => false

/-- Whether a store image follows R477, apart from its digest. -/
def storeOk (l : List Byte) (size : Nat) : Bool :=
  let n := field l 12 4
  field l 0 4 == 0x4643565A && field l 4 2 == 1 && field l 6 2 == 0 && decide (n ≤ 131068 ∧ 64 + 16 * n ≤ size) &&
    (List.range n).all fun i =>
      decide (1 ≤ field l (16 + 16 * i) 1 ∧ field l (16 + 16 * i) 1 ≤ 3 ∧ field l (17 + 16 * i) 1 ≤ 1)

/-- The digest of a store image, as computed and as carried. -/
def storeDigest (l : List Byte) : Nat := sha384 (l.take (16 + 16 * field l 12 4))
def storeCarried (l : List Byte) : Nat := beNat ((l.drop (16 + 16 * field l 12 4)).take 48)

/-- What an OP comes to: CODE and FAULT with the new state, or a wait for the MRAM window. -/
abbrev UpdEnd := Option (Code × Nat × State)

/-- An effect that writes MRAM (R467). -/
def updWrite (s : State) (f : State → State) : UpdEnd :=
  match mramVerdict s with
  | .allowed => some (.ok, 0, f s)
  | .refused => some (.thermalHold, 9, s)
  | .waits => none

/-- Changing the update. -/
def State.modUpd (s : State) (f : Update → Update) : State :=
  { s with handle := { s.handle with upd := f s.handle.upd } }

/-- Marking a slot invalid or valid again. -/
def markSlot (t : Nat) (bad : Bool) (h : Handle) : Handle :=
  if t = 0 then { h with badA := bad } else if t = 1 then { h with badB := bad } else h

/-- BEGIN. -/
def updBegin (t : Nat) (s : State) : UpdEnd :=
  let n := (s.cfg0 .UPD_SIZE).toNat
  let h := s.handle
  if n = 0 ∨ (if t = 2 then halfMax else slotMax) < n then some (.badProgram, 1, s)
  else if t ≠ 2 ∧ (h.trial ∨ (!h.recovery ∧ t = b2n h.slot)) then some (.busy, 8, s)
  else updWrite s fun s =>
    let s := { s with handle := markSlot t true s.handle }
    let s := { s with handle := { s.handle with lent := s.handle.lent || (t != 2 && s.handle.mcSlot == some (t == 1)) } }
    s.modUpd fun u => { u with target := some t, chunks := [], verified := false }

/-- CHUNK. -/
def updChunk (t ix : Nat) (s : State) : UpdEnd :=
  let n := (s.cfg0 .UPD_SIZE).toNat
  if s.handle.upd.target ≠ some t then some (.badProgram, 7, s)
  else if n ≤ ix * 4096 then some (.badProgram, 2, s)
  else updWrite s fun s =>
    let base := (if t = 2 then halfBase (freeHalf s.handle) else slotBase (t == 1)) + ix * 4096
    let s := markBlock base (writeBytes .mram base (readBytes .chunk 0 (min 4096 (n - ix * 4096)) s) s)
    s.modUpd fun u => { u with chunks := if u.chunks.contains ix then u.chunks else ix :: u.chunks, verified := false }

/-- VERIFY of a package: the first check that fails. -/
def verifyPkg (b : Bool) (s : State) : Nat :=
  let l := pkgHeader s b
  if !(pkgHeaderOk l && decide (pkgTotal l ≤ (s.cfg0 .UPD_SIZE).toNat)) then 3
  else if !pkgSigned s b then 4
  else if pkgSvn l < s.handle.svnMin then 5
  else
    let c := bootChoice s (fun x => if x = b then pkgContentGood s b else pkgGood s x) b
    if pkgHasHub l && c.hub == some b && !c.held then 0 else 6

/-- VERIFY. -/
def updVerify (t : Nat) (s : State) : UpdEnd :=
  if s.handle.upd.target ≠ some t then some (.badProgram, 7, s)
  else if t = 2 then
    let n := (s.cfg0 .UPD_SIZE).toNat
    let l := readBytes .mram (halfBase (freeHalf s.handle)) (min n halfMax) s
    if !storeOk l n then some (.badProgram, 3, s)
    else if storeDigest l ≠ storeCarried l then some (.badProgram, 4, s)
    else some (.ok, 0, s.modUpd fun u => { u with verified := true, dig := BitVec.ofNat 32 (digestLead (storeCarried l)) })
  else
    let f := verifyPkg (t == 1) s
    if f ≠ 0 then some (.badProgram, f, s)
    else some (.ok, 0, s.modUpd fun u =>
      { u with verified := true, dig := BitVec.ofNat 32 (digestLead (sha384 (pkgBody s (t == 1)))) })

/-- ACTIVATE. -/
def updActivate (t : Nat) (s : State) : UpdEnd :=
  if s.handle.upd.target ≠ some t ∨ !s.handle.upd.verified then some (.badProgram, 7, s)
  else updWrite s fun s =>
    let s := s.modUpd fun u => { u with target := none }
    if t = 2 then { s with handle := { s.handle with half := some (freeHalf s.handle) } }
    else { s with handle := bootWrite (t == 1) true 0 (markSlot t false s.handle) }

/-- CONFIRM (R472). -/
def updConfirm (s : State) : UpdEnd :=
  let h := s.handle
  if !h.trial then some (.badProgram, 7, s)
  else updWrite s fun s =>
    let h := bootWrite h.slot false 0 s.handle
    { s with handle := { h with trial := false, svnMin := max h.svnMin (pkgSvn (pkgHeader s h.slot)) } }

/-- ABORT: the target stays invalid. -/
def updAbort (s : State) : UpdEnd :=
  some (.ok, 0, s.modUpd fun u => { u with target := none, verified := false })

/-- One OP. -/
def updRun (u : UpdOp) (s : State) : UpdEnd :=
  match u.op with
  | 1 => updBegin u.target s
  | 2 => updChunk u.target u.index s
  | 3 => updVerify u.target s
  | 4 => updActivate u.target s
  | 5 => updConfirm s
  | _ => updAbort s

/-- Taking an OP (R474): BUSY while one runs or during a Handle restart. -/
def updTake (w : Word) (o : Origin) (s : State) : Code × State :=
  if s.handle.upd.busy.isSome ∨ s.handle.st = .restart then (.busy, s)
  else (.ok, s.modUpd fun u => { u with busy := some ⟨fld w 2 0, fld w 9 8, fld w 31 16, w, o⟩ })

/-- The end of an OP (R475, R480). -/
def updDone (s : State) : State :=
  match s.handle.upd.busy with
  | none => s
  | some u =>
    match updRun u s with
    | none => thmAsk 0 .mram s
    | some (c, f, s) =>
      let s := s.modUpd fun x => { x with busy := none, code := c, fault := f }
      if c = .ok then tallyPut u.by_ (keyAddr ⟨.UPD_CTRL, 0, 0, 0⟩) u.word s.handle.upd.dig s
      else hdlEvent 1 (pack [(1, u.op), (1, f)]) s

/-- UPD_STAT. -/
def updStat (u : Update) : Word :=
  mkWord [(31, 31, b2n u.busy.isSome), (23, 16, u.code.num), (15, 12, u.fault), (11, 11, b2n u.verified),
    (10, 0, u.chunks.length)]

/-! ## Handle restarts (R465) -/

/-- Commands in progress end with TIMEOUT, those of the loaders and an update OP as failed ones with their records
(R480; 06_withy_model.md R251, 09_coil_engine.md R368), and the chunk buffer is cleared. -/
def restartEnds (s : State) : State :=
  let s := s.each allDies fun k s => match (s.dies[k]).loader.busy with
    | some c => skeinEvent (locOf (dieNum k) 0) 3 1 (pack [(1, c.op), (1, 0), (1, 0)]) (s.modLoader k fun _ => ⟨none, c.op, .timeout, 0, 0⟩)
    | none => s
  let s := match s.coilLdr.busy with
    | some c => skeinEvent (locOf 0 c.slot) 5 6 (pack [(1, c.op), (1, 0)]) { s with coilLdr := ⟨none, c.op, c.slot, 0, .timeout⟩ }
    | none => s
  let s := { s with reg := if s.reg.busy.isSome then { s.reg with busy := none, code := .timeout, fault := 0 } else s.reg }
  let s := match s.handle.upd.busy with
    | some u => hdlEvent 1 (pack [(1, u.op), (1, 0)]) (s.modUpd fun u => { u with busy := none, code := .timeout, fault := 0 })
    | none => s
  { s with mem := s.mem.filter fun c => decide (c.1 < Space.chunk.base ∨ Space.chunk.base + 4096 ≤ c.1) }

/-- A Handle restart begins, with its cause, while hub firmware runs; the Lid's halt of the Handle stops the watchdog. -/
def handleRestart (cause : Nat) (s : State) : State :=
  if s.handle.st = .restart ∨ s.handle.hubVer = 0 ∨ (cause = 1 ∧ s.tap.haltHandle) then s
  else
    let s := restartEnds { s with handle := { s.handle with st := .restart, restarts := satInc 0xFF s.handle.restarts } }
    hdlEvent 2 (pack [(1, cause)]) (raiseHold (srcOf 2) 0 s)

/-- Its end: the booted slot verifies again, or a device reset follows. -/
def restartDone (hub : Option Int) (s : State) : State :=
  if s.handle.st ≠ .restart then s
  else if pkgHeaderOk (pkgHeader s s.handle.slot) && pkgSigned s s.handle.slot then
    lower (srcOf 2) { s with handle := { s.handle with st := if s.handle.ready then .sleep else .boot } }
  else deviceReset hub s

/-- Whether the Handle can do its work: not while it restarts or the Lid halts it. -/
def handleWorks (s : State) : Bool := s.handle.st != .restart && !s.tap.haltHandle

/-- STATE of HDL_STAT: RUN while a task of R464 is in hand. -/
def handleState (s : State) : HandleState :=
  if s.handle.st = .boot ∨ s.handle.st = .restart then s.handle.st
  else if s.handle.replay.isSome ∨ s.handle.upd.busy.isSome ∨ s.reg.busy.isSome ∨ s.coilLdr.busy.isSome ∨
      s.skein.flushing.isSome ∨ (allDies.any fun k => (s.dies[k]).loader.busy.isSome) then .run
  else .sleep

/-- HDL_STAT. -/
def hdlStat (s : State) : Word :=
  let h := s.handle
  mkWord [(31, 24, h.restarts), (19, 19, b2n h.cfgDone), (18, 18, b2n h.cfgFault), (17, 16, (handleState s).num),
    (15, 0, h.cfgErrs)]

/-! ## Telemetry (R479) -/

/-- A reading of the line: the present values, their extremes, and the limits. -/
def telemetry (s : State) : State :=
  let c := s.cfg0 .TEL_CFG
  let at_ := fun (n : Nat) => if h : n < 48 then some (snsValue s n s.sns[n]) else none
  let v := at_ (fld c 5 0)
  let i := at_ (fld c 13 8)
  let vv := v.getD 0
  let ii := i.getD 0
  let p := if v.isSome ∧ i.isSome then some (q16 (roundDiv (vv * ii) 65536)) else none
  let high := decide (sfld (s.cfg0 .TEL_VMAX) 31 0 < vv ∧ v.isSome) || decide (sfld (s.cfg0 .TEL_IMAX) 31 0 < ii ∧ i.isSome)
  let n := if high then min 2 (s.handle.telOver + 1) else 0
  let h := s.handle
  let ext := fun (f : Int → Int → Int) (x a : Option Int) => x.map fun y => match a with | none => y | some z => f z y
  let s := { s with handle := { h with
    telV := vv, telI := ii, telP := p.getD 0, vMin := ext min v h.vMin, vMax := ext max v h.vMax,
    iMin := ext min i h.iMin, iMax := ext max i h.iMax, pMin := ext min p h.pMin, pMax := ext max p h.pMax,
    telOver := n, telOut := h.telOut || n == 2, telValid := h.telValid || v.isSome || i.isSome } }
  if n = 2 then (if (s.lash.srcs[srcOf 6]).active then s else raiseHold (srcOf 6) 0 s) else lower (srcOf 6) s

end Sys2Proof.Machine
end

