-- ==== Sys2Proof/Machine/PowerOps.lean ====
section
/-!
DEFINITION. Machine/PowerOps.lean: the power states, wakes, power failure, the reference inputs and the clock domains
(18_clocks_power.md).
-/
namespace Sys2Proof.Machine
open Sys2Proof

/-- An event of R558. -/
def pwrEvent (pos data : Nat) (s : State) : State := skeinEvent (locOf 15 0) 0x0D pos data s

/-! ## Power states (R549) -/

/-- Whether the conditions of Lean hold: an enabled lean group, every enabled one LEAN, and no uplink strand OPEN. -/
def isLean (s : State) : Bool :=
  let on := fun (k : DieIx) (g : Fin 4) => bit (s.cfg2 .LEAN_CFG k g) 31
  (allDies.any fun k => (List.finRange 4).any (on k)) &&
    (allDies.all fun k => (List.finRange 4).all fun g => !on k g || ((s.dies[k]).lean[g]).lean) &&
    !(allDies.any fun k => allStrands.any fun i => isRunning s k i && isUplink i && (s.prot k i).ug == .opened)

/-- STATE of PWR_STAT. -/
def pwrState (s : State) : Nat :=
  match s.pwr.st with | .active => b2n s.pwr.lean | .doze => 2 | .foot => 3

/-- A change of STATE, with its event. -/
def pwrMove (goal : PowerState) (s : State) : State :=
  let old := pwrState s
  let s := { s with pwr := { s.pwr with st := goal, lean := false } }
  pwrEvent 1 (pack [(1, old), (1, pwrState s), (1, s.pwr.lastWake)]) s

/-- The report of Lean follows its conditions. -/
def leanReport (s : State) : State :=
  let on := s.pwr.st == .active && isLean s
  if on = s.pwr.lean then s
  else
    let old := pwrState s
    let s := { s with pwr := { s.pwr with lean := on } }
    pwrEvent 1 (pack [(1, old), (1, pwrState s), (1, s.pwr.lastWake)]) s

/-- PWR_STAT. -/
def pwrStat (s : State) : Word :=
  mkWord [(23, 16, allDies.foldl (fun a k => a + b2n (s.dies[k]).powered * 2 ^ dieNum k) 0), (15, 12, s.pwr.lastWake),
    (5, 5, b2n s.pwr.fromFoot), (4, 4, b2n s.pwr.transit.isSome), (1, 0, pwrState s)]

/-- CLK_STAT. -/
def clkStat (s : State) : Word :=
  let up := s.handle.ready || s.handle.recovery
  let mask := fun (f : Die → Bool) => allDies.foldl (fun a k => a + b2n (f s.dies[k]) * 2 ^ dieNum k) 0
  mkWord [(23, 16, mask (·.powered)), (15, 8, mask (·.pllLock)), (4, 4, b2n s.pwr.footRc), (3, 3, b2n s.pwr.refLost),
    (2, 2, b2n (up && (List.range 8).any fun w => bit (s.cfg1 .PORT_CTRL w) 0)), (1, 1, b2n (s.cane.st != .quiet)),
    (0, 0, b2n up)]

/-- PWR_CNT. -/
def pwrCnt (s : State) : Word := mkWord [(31, 16, s.pwr.wakes), (15, 8, s.pwr.pfails), (7, 0, s.pwr.footEntries)]

/-! ## Entries (R550, R553) -/

/-- What gating a band die takes from it (R546): its state, its registers and its memories. -/
def dieOff (k : DieIx) (s : State) : State :=
  let lo := 0x01400000 + k.val * 0x00400000
  let inDie := fun (c : Host.Cell) => [Space.bank, .prog, .coef, .load].any fun sp =>
    decide (sp.base + k.val * 2 ^ 24 ≤ c.1 ∧ c.1 < sp.base + (k.val + 1) * 2 ^ 24)
  let s := { s with
    dies := vset s.dies k Die.reset,
    regs := s.regs.filter fun x => !decide (lo ≤ keyAddr x.1 ∧ keyAddr x.1 < lo + 0x00400000),
    mem := s.mem.filter fun c => !inDie c }
  let s := s.each (List.range 16) fun o s => s.modSrc (srcOfDie k o) fun x =>
    { x with active := false, wire := false, inj := false }
  thmOff (thmIx k) s

/-- Whether every strand is STOPPED and every port in Sleep. -/
def allQuiet (s : State) : Bool :=
  allDies.all fun k => (allStrands.all fun i => (s.strand k i).st == .stopped) &&
    allPorts.all fun p => (s.port k p).st == .sleep && (s.port k p).moving.isNone

/-- The start of an entry: the Lid closes (19_lid_security.md R563), strands, ports and supply coils stop. -/
def entryStart (t : Transit) (s : State) : State :=
  let s := lidShutBy 3 5 { s with pwr := { s.pwr with transit := some t } }
  if s.pwr.st = .active then holdTransmit (fun c => c == 0) s else s

/-- A refused DOZE or FOOT. -/
def entryRefused (c : Code) (s : State) : Code × State := (c, pwrEvent 2 (pack [(1, c.num)]) s)

/-- A write of DOZE (R550). -/
def dozeWrite (s : State) : Code × State :=
  if s.handle.lent ∨ s.pwr.transit.isSome then entryRefused .busy s
  else if s.pwr.st ≠ .active then (.ok, s) else (.ok, entryStart .toDoze s)

/-- A write of FOOT (R553). -/
def footWrite (s : State) : Code × State :=
  if s.handle.lent ∨ s.pwr.transit.isSome then entryRefused .busy s
  else match mramVerdict s with
    | .refused => entryRefused .thermalHold s
    | .waits => (.ok, thmAsk 0 .mram (entryStart .toFoot s))
    | .allowed => (.ok, entryStart .toFoot s)

/-! ## Wakes (R551, R552) -/

/-- The Cane wakes that waited are answered (13_cane_link.md R450). -/
def wakeAnswer (s : State) : State :=
  let s := s.each s.pwr.wakeTags fun t s =>
    { s with cane := { s.cane with tags := vmod s.cane.tags t fun g => { g with ready := some ⟨t.val, .ok, g.loc, s.wale.addr, []⟩ } } }
  { s with pwr := { s.pwr with wakeTags := [] } }

/-- STATE becomes Active at the release of the last fitted die, and PHASE 1 is replayed. -/
def wakeDone (s : State) : State :=
  if s.pwr.transit = some .wake ∧ (s.handle.mcSlot.isNone ∨ allDies.all fun k => !s.isFitted k || (s.dies[k]).released) then
    wakeAnswer (replayStart true (pwrMove .active { s with pwr := { s.pwr with transit := none } }))
  else s

/-- A wake source (R551): a wake from Doze closes the dies' switches, one from Foot-only raises MAIN_EN; one that comes
during an entry follows it. -/
def wake (code : Nat) (s : State) : State :=
  match s.pwr.transit with
  | some .toDoze | some .toFoot =>
    if s.pwr.wakePend.isSome then s else { s with pwr := { s.pwr with wakePend := some code } }
  | some _ => s
  | none =>
    match s.pwr.st with
    | .active => s
    | .doze =>
      let s := { s with pwr := { s.pwr with transit := some .wake, lastWake := code, wakes := satInc 0xFFFF s.pwr.wakes } }
      wakeDone (s.each allDies fun k s => s.modDie k fun d => { d with powered := s.isFitted k })
    | .foot =>
      if code = 1 ∨ code = 3 then
        { s with pwr := { s.pwr with transit := some .fromFoot, lastWake := code, mainEn := true } }
      else s

/-- The wake that came during an entry. -/
def wakeAfter (s : State) : State :=
  match s.pwr.wakePend with
  | none => s
  | some c => wake c { s with pwr := { s.pwr with wakePend := none } }

/-- A nudge that the foot domain detects. -/
def wakeNudge (s : State) : State := if bit (s.cfg0 .WAKE_CFG) 0 then wake 1 s else s

/-- TIMER seconds after the entry. -/
def wakeTimer (s : State) : State := if fld (s.cfg0 .WAKE_CFG) 31 16 = 0 ∨ s.pwr.st = .active then s else wake 3 s

/-- A rising edge of the coexistence input, in Doze only. -/
def wakeCoex (s : State) : State :=
  if bit (s.cfg0 .WAKE_CFG) 2 ∧ s.pwr.st = .doze ∧ (coexRole s = 1 ∨ coexRole s = 2) then wake 4 s else s

/-- Doze is reached: the band dies are switched off in falling order. -/
def dozeReached (s : State) : State :=
  if s.pwr.transit = some .toDoze ∧ allQuiet s then
    let s := s.each allDies.reverse dieOff
    wakeAfter (pwrMove .doze { s with pwr := { s.pwr with transit := none, entered := s.time.ft } })
  else s

/-- Foot-only is reached (R553): from Active the dies are switched off as for Doze; coils and pairs stop, the links go down,
the logs are written out, and every domain but the foot loses its state. -/
def footReached (s : State) : State :=
  if s.pwr.transit = some .toFoot ∧ (s.pwr.st ≠ .active ∨ allQuiet s) then
    match mramVerdict s with
    | .waits => thmAsk 0 .mram s
    | .refused => s
    | .allowed =>
      let s := if s.pwr.st = .active then pwrMove .doze (s.each allDies.reverse dieOff) else s
      let s := s.each allCoils coilHaltIf
      let s := s.each allPairs pairOff
      let s := s.each (List.finRange 8) fun w s => portDown w 6 s
      let s := s.each s.tally.staged fun _ s => tallyWriteOne s
      let s := flushDone (flushStart true s)
      let s := pwrMove .foot s
      let p := s.pwr
      let s := resetState s
      wakeAfter { s with pwr := { s.pwr with
        st := .foot, entered := s.time.ft, mainEn := false, footEntries := satInc 0xFF s.pwr.footEntries,
        wakePend := p.wakePend } }
  else s

/-- Every rail is in range after MAIN_EN rose (R554): a device reset, from which fabric time starts at 0
(11_wale_fabric.md R420). -/
def footExit (hub : Option Int) (s : State) : State :=
  if s.pwr.transit = some .fromFoot then
    let wall := s.wall
    let s := { s with
      time := { s.time with ft := 0, off := 0, wtFt := 0, wtBase := wall },
      lid := { s.lid with lockAt := s.lid.lockAt - s.time.ft } }
    deviceReset hub s
  else s

/-- Some rail is not in range 100 ms after MAIN_EN rose. -/
def mainEnTimeout (s : State) : State :=
  if s.pwr.transit = some .fromFoot then pwrEvent 7 0 { s with pwr := { s.pwr with transit := none, mainEn := false } }
  else s

/-- A write to PWR_CTRL. -/
def pwrCtrl (w : Word) (s : State) : Code × State :=
  if 1 < b2n (bit w 0) + b2n (bit w 1) + b2n (bit w 2) then (.badProgram, s)
  else if bit w 0 then dozeWrite s
  else if bit w 1 then (.ok, wake 2 s)
  else if bit w 2 then (if fld w 15 8 ≠ 0x5A then (.badProgram, s) else footWrite s)
  else (.ok, s)

/-- The release of a band die (01_architecture.md R47, R552). -/
def dieRelease (k : DieIx) (s : State) : State :=
  if canRelease s k ∧ !s.handle.recovery then wakeDone (s.modDie k fun d => { d with released := true }) else s

/-! ## Power failure and rails (R548, R555, R556; 21_electrical_package.md R589) -/

/-- POWER_FAIL_N falls. In the power-on reset its level is all that changes. -/
def powerFailFall (s : State) : State :=
  if s.pwr.inReset then { s with pwr := { s.pwr with failLow := true } } else
  let s := { s with pwr := { s.pwr with pfails := satInc 0xFF s.pwr.pfails, failLow := true } }
  let s := pwrEvent 3 0 s
  if s.pwr.st = .foot then s
  else
    let s := { s with pwr := { s.pwr with failWrites := true, transit := none } }
    let s := flushStart true s
    let s := s.each allDies fun k s => s.each allPorts (portPark k)
    s.each allCoils fun c s => if coilClass c = 1 then s else coilHaltIf c s

/-- The writes of R496 end: the staged Tally records, then the buffer. -/
def powerFailEnd (s : State) : State :=
  if !s.pwr.failWrites then s
  else
    let s := { s with pwr := { s.pwr with failWrites := false } }
    match mramVerdict s with
    | .allowed =>
      let s := s.each s.tally.staged fun _ s => tallyWriteOne s
      flushDone (flushStart true (flushDone s))
    | _ => s

/-- POWER_FAIL_N rises again with every rail in range: a device reset once the writes have ended (R556). -/
def powerFailRise (hub : Option Int) (s : State) : State :=
  if !s.pwr.failLow then s
  else if s.pwr.st = .foot ∨ s.pwr.inReset = true then { s with pwr := { s.pwr with failLow := false } }
  else
    let s := powerFailEnd s
    deviceReset hub (pwrEvent 4 0 { s with pwr := { s.pwr with failLow := false } })

/-- A rail leaves its window: the power-on reset (R548, R589). -/
def railOut (s : State) : State := powerOnState s

/-! ## Reference inputs (R542, R543) -/

/-- Whether the device takes its reference from an UP up port (R543). -/
def upPortUp (s : State) : Bool :=
  (List.finRange 8).any fun w => decide (w.val = s.wale.upPort) && (s.wport w).st == .up

/-- 10 µs without an edge. -/
def refLost (s : State) : State :=
  if upPortUp s ∨ s.pwr.refLost then s else pwrEvent 5 0 { s with pwr := { s.pwr with refLost := true } }

/-- 10 ms without the reference: every die PLL reports a loss of lock (R306). -/
def refExpired (s : State) : State :=
  if s.pwr.refLost ∧ !s.pwr.refLong then s.each allDies pllUnlock |> fun s => { s with pwr := { s.pwr with refLong := true } }
  else s

/-- The reference returns. -/
def refRestored (s : State) : State :=
  if s.pwr.refLost then pwrEvent 5 0 { s with pwr := { s.pwr with refLost := false, refLong := false } } else s

/-- 4 ms without an edge of the 32.768 kHz source, and its return. -/
def xtalSet (lost : Bool) (s : State) : State :=
  if s.pwr.footRc = lost then s else pwrEvent 6 0 { s with pwr := { s.pwr with footRc := lost } }

/-! ## Clock domains (R544, R545) -/

/-- Whether some consumer requests a domain. -/
def clockWanted (s : State) : ClockDom → Bool
  | .handle => handleState s != .sleep
  | .plait => allPairs.any fun n => (s.pairs[n]).en
  | .coil => allCoils.any fun c => (s.coils[c]).st != .stopped
  | .mram => s.skein.flushing.isSome || s.handle.upd.busy.isSome || s.reg.busy.isSome || !s.tally.staged.isEmpty
  | .therm => s.thm.cur.isSome
  | .scan k => (s.dies[k]).scan.task != 0 || (s.dies[k]).scan.moving.isSome

/-- Whether a domain runs: while it is requested, and after that until its stop. -/
def clockRuns (s : State) (d : ClockDom) : Bool := s.pwr.st != .foot && (clockWanted s d || !s.pwr.stopped.contains d)

/-- A domain stops 1 µs after its last request ended; one requested since counts as running again. -/
def clockStop (d : ClockDom) (s : State) : State :=
  let l := s.pwr.stopped.filter fun e => !clockWanted s e
  { s with pwr := { s.pwr with stopped := if clockWanted s d ∨ l.contains d then l else d :: l } }

end Sys2Proof.Machine
end

