-- ==== Sys2Proof/Machine/ReadRegs.lean ====
section
/-!
DEFINITION. Machine/ReadRegs.lean: what every register reads, field by field, and what a read of an RC field clears
(00_scope.md R12 to R19 and the register tables of the chapters).
-/
namespace Sys2Proof.Machine
open Sys2Proof

/-! ## Fields -/

/-- The bits of a field. -/
def Field.mask (f : Field) : Nat := (2 ^ (f.hi + 1 - f.lo) - 1) * 2 ^ f.lo

/-- The bits of the fields of a register that meet a condition. -/
def fieldMask (r : Reg) (p : Field → Bool) : Nat :=
  r.info.fields.foldl (fun (a : Nat) (f : Field) => if p f then a + f.mask else a) 0

/-- The bits whose value is kept in the stored word: the RW fields, but for those that `statusWord` shows from the
units. -/
def storedMask : Reg → Nat
  | .PAIR_PERIOD | .PAIR_DUTY | .PAIR_PHASE | .TAP | .COEF_RE | .COEF_IM | .RFFE_DATA | .ROUTE | .TLY_ACK
  | .LSH_SRC_CFG => 0
  | .PAIR_CTRL => 0x0F12
  | .PIN_ADDR => 0x8000003F
  | .PL_MASK1 => 0x0000FFFF
  | r => fieldMask r fun f => f.acc == .rw

/-- A signed 16-bit field. -/
def e16 (v : Int) : Nat := enc 16 (sat 16 v)

/-- A signed 32-bit word. -/
def e32 (v : Int) : Word := BitVec.ofNat 32 (enc 32 (sat 32 v))

/-- Bits [31:0] of a number. -/
def lo32 (n : Nat) : Word := BitVec.ofNat 32 n
/-- Bits [63:32]. -/
def hi32 (n : Nat) : Word := BitVec.ofNat 32 (n / 2 ^ 32)

/-- Bytes 4j to 4j + 3 of a list of bytes, the first in [7:0], with 0 beyond its end. -/
def wordOf (l : List Byte) (j : Nat) : Word := BitVec.ofNat 32 (leNat ((l.drop (4 * j)).take 4))

/-! ## Band dies -/

/-- Power of a lag of the shown profile in 0.01 dB, -200.00 for zero (PROF_WIN). -/
def profPower (p : Profile) (r : Bool) (j : Nat) : Int :=
  match (if r then p.c1 else p.c0)[j]? with
  | some z => if z.norm = 0 then -20000 else db100 z.norm (2 ^ (60 + 2 * p.exp))
  | none => -20000

/-- ISO_STAT: T_out + R_in - K of the strand's ports, 0 without a valid estimate (04_feedback_cancellation.md R146). T_out
is 0 where no licence entry covers the strand's band (DESIGN CHOICE, notes/assumptions/131.md). -/
def isoOf (s : State) (k : DieIx) (i : StrandIx) (kk : Int) : Nat :=
  let tOut : Int := match strandEntry s k i, levelPort s k i with | some (_, x), some p => x.cal p | _, _ => 0
  (clampI 0 65535 (tOut + sfld (s.cfg2 .RX_CAL k (inPort s k i)) 15 0 - kk)).toNat

/-- NO_REF of a donor port (R316). -/
def noRef (s : State) (k : DieIx) (p : PortIx) : Bool :=
  if h : p.val < 2 then divOn s k p && (divRef s k ⟨p.val, h⟩).isNone else false

/-- The peak of an ADC (02_converters_riddle.md): the largest overload code, or, from samples without overload, a free
value, since no command brings their codes. -/
def adcPeak (c : Conv) (ctr : Nat) : Nat :=
  if c.heard ∧ c.peak < 8191 then max c.peak (Config.free ctr % 8192) else c.peak

/-- Converters and the riddle chain (02_converters_riddle.md). -/
def statusRiddle (r : Reg) (k : DieIx) (j : Nat) (s : State) : Word :=
  let p : PortIx := Fin.ofNat 4 j
  let i : StrandIx := Fin.ofNat 16 j
  let c := s.conv k p
  let x := s.rid k i
  match r with
  | .CONV_STAT => mkWord [(3, 3, b2n c.dacClip), (2, 2, b2n c.adcOvr), (1, 1, b2n (dacLevel s k p)), (0, 0, b2n (adcLevel s k p))]
  | .ADC_OVR_COUNT => lo32 c.ovrCount
  | .ADC_PEAK => lo32 (adcPeak c s.freeCtr)
  | .NCO_CTRL => mkWord [(2, 2, b2n x.pending), (1, 1, b2n (zoneOf x.ftw)), (0, 0, b2n x.pending)]
  | .NCO_ACT_LO => lo32 x.ftw
  | .NCO_ACT_HI => mkWord [(15, 0, x.ftw / 2 ^ 32)]
  | .DELAY_CFG => mkWord [(31, 18, delayNow s k i)]
  | .BANK_STAT =>
    mkWord [(28, 16, fadePos s k i), (15, 12, match x.pend with | some q => q.2 | none => 0),
      (11, 11, match x.pend with | some q => q.1.val | none => 0), (10, 10, b2n x.pend.isSome), (9, 9, b2n x.replaced),
      (8, 5, match x.fade with | some f => f.k | none => 0), (4, 4, match x.fade with | some f => f.target.val | none => 0),
      (3, 3, b2n x.fade.isSome), (0, 0, x.active.val)]
  | .RDL_STAT =>
    mkWord [(27, 24, x.cfgFault), (17, 17, b2n x.discarded), (16, 16, b2n x.valid), (10, 0, fillLeft s k i)]
  | .RDL_SYNC_STAT =>
    let d := s.dies[k]
    mkWord [(17, 17, b2n d.missed), (16, 16, b2n d.armed.isSome), (15, 0, match d.armed with | some a => a.1 | none => 0)]
  | _ => 0

/-- Strands and limiters (03_strands.md). -/
def statusStrand (r : Reg) (k : DieIx) (j : Nat) (s : State) : Word :=
  let i : StrandIx := Fin.ofNat 16 j
  let p : PortIx := Fin.ofNat 4 j
  let x := s.strand k i
  let m := x.meter
  match r with
  | .STR_STAT => mkWord [(31, 24, muteBits s k i), (23, 20, x.startFault), (3, 3, b2n (decide (gateSteps (rdlH s k i) ≤ x.gate))), (2, 0, x.st.num)]
  | .STR_LAT => lo32 (strLat s k i)
  | .GAIN_STAT => mkWord [(27, 16, enc 12 x.gApp), (4, 0, x.limit)]
  | .ALC_STAT => mkWord [(27, 16, enc 12 (sat 12 (alcRound x.gAlc))), (15, 0, e16 x.pIn)]
  | .METER_IN => mkWord [(31, 16, e16 m.pkIn), (15, 0, e16 m.pwIn)]
  | .METER_OUT => mkWord [(31, 16, e16 m.pkOut), (15, 0, e16 m.pwOut)]
  | .METER_CREST => mkWord [(31, 16, m.crOut), (15, 0, m.crIn)]
  | .METER_STAT => mkWord [(26, 16, m.validBlocks), (15, 0, m.seq)]
  | .PAR_STAT => mkWord [(31, 16, x.parErr), (15, 0, x.invBlocks)]
  | .LIM_LEVEL => mkWord [(15, 0, e16 (pLim s k p))]
  | .LIM_RED => mkWord [(31, 16, min 0xFFFF ((s.dies[k]).lims[p]).maxRed), (15, 0, min 0xFFFF ((s.dies[k]).lims[p]).red)]
  | .LIM_COUNT => lo32 ((s.dies[k]).lims[p]).count
  | _ => 0

/-- Cancellers and guards (04_feedback_cancellation.md). -/
def statusCanc (r : Reg) (k : DieIx) (j l : Nat) (s : State) : Word :=
  let i : StrandIx := Fin.ofNat 16 j
  let t : Fin 128 := Fin.ofNat 128 l
  let c := s.canc k i
  let est := if estValid c then c.est else none
  match r with
  | .CNC_CTRL => mkWord [(4, 4, b2n c.reqPending), (3, 3, b2n (c.placeReq || c.place.isSome))]
  | .SOUND_STAT =>
    mkWord [(31, 23, c.poly), (19, 19, b2n ((s.dies[k]).released && (!isSender s k i || isSilent s k i))), (18, 18, b2n c.reqPending),
      (17, 17, b2n est.isSome), (16, 16, b2n c.lapsed), (15, 0, c.periods)]
  | .PLACE_STAT =>
    mkWord [(31, 16, c.placeCount), (15, 8, (activeTaps c.slots).length), (0, 0, b2n (c.placeReq || c.place.isSome))]
  | .LOOP_STAT => match est with
    | some e => mkWord [(31, 16, e16 e.kEff), (15, 0, e16 e.kPhys)]
    | none => mkWord [(31, 16, 0x7FFF), (15, 0, 0x7FFF)]
  | .ISO_STAT => match est with
    | some e => mkWord [(31, 16, isoOf s k i e.kEff), (15, 0, isoOf s k i e.kPhys)]
    | none => 0
  | .DEPTH_STAT => match est with
    | some e => mkWord [(31, 16, (clampI 0 65535 e.dr).toNat), (15, 0, (clampI 0 65535 e.depth).toNat)]
    | none => 0
  | .CAP_STAT =>
    let g := groupOf s k i
    let member := closesLoop s k g && g.contains i
    let cap := if member then groupCap s k g else none
    mkWord [(27, 16, match cap with | some v => enc 12 (sat 12 v) | none => 0x7FF), (3, 3, b2n (member && c.cold)),
      (2, 2, b2n (member && (groupGcap s k g).isSome)), (1, 1, b2n (member && c.broken)), (0, 0, b2n member)]
  | .TAP =>
    let x := c.slots[t]
    mkWord [(16, 16, b2n x.en), (11, 11, b2n x.ref), (10, 0, x.lag)]
  | .COEF_RE => lo32 (enc 24 (c.slots[t]).w.re)
  | .COEF_IM => lo32 (enc 24 (c.slots[t]).w.im)
  | .PROF_WIN =>
    let w := s.cfg2 .PROF_SEL k i
    let at_ := 256 * fld w 2 0 + 2 * t.val
    mkWord [(31, 16, e16 (profPower c.shown (bit w 3) (at_ + 1))), (15, 0, e16 (profPower c.shown (bit w 3) at_))]
  | .GRD_STAT => grdStat s k i
  | .GRD_COUNT => lo32 (s.guard k i).count
  | .GRD_MON => grdMon s k i
  | _ => 0

/-- Protection and the regulatory record's per-die registers (05_network_protection.md). -/
def statusProt (r : Reg) (k : DieIx) (j : Nat) (s : State) : Word :=
  let i : StrandIx := Fin.ofNat 16 j
  let e : Fin 8 := Fin.ofNat 8 j
  let p : PortIx := Fin.ofNat 4 j
  let x := s.prot k i
  let d := s.dies[k]
  match r with
  | .UG_STAT => mkWord [(31, 16, x.openings), (13, 4, min 1023 (holdLeft s k i)), (1, 0, x.ug.num)]
  | .BO_STAT => mkWord [(25, 16, x.bt), (9, 0, backoffTerm s k i x.b)]
  | .PROT_STAT =>
    mkWord [(27, 24, x.regFault), (8, 8, b2n (s.strand k i).m28), (3, 3, b2n (strandEntry s k i).isSome),
      (2, 0, match strandEntry s k i with | some q => q.1 | none => 0)]
  | .PRES_STAT =>
    let q := d.lists[e]
    mkWord [(31, 16, q.checks), (15, 8, q.lastId), (6, 4, q.misses), (2, 0, q.st.num)]
  | .TDD_STAT =>
    let t := d.tdd
    mkWord [(31, 16, syncAge s k), (15, 12, t.fault), (3, 3, b2n t.jump), (2, 2, b2n t.next.isSome), (1, 1, b2n t.valid),
      (0, 0, b2n t.active.isSome)]
  | .DUTY_STAT => mkWord [(31, 16, (d.duty[p]).hits), (15, 0, dutyMax d.duty[p] s.time.ft)]
  | .LEAN_MASK => mkWord [(17, 16, b2n (d.lean[p]).lean)]
  | _ => 0

/-- The program registers (06_withy_model.md). -/
def statusProg (r : Reg) (k : DieIx) (j : Nat) (s : State) : Word :=
  let i : StrandIx := Fin.ofNat 16 j
  let n : Fin 16 := Fin.ofNat 16 j
  let x := s.prog k i
  let d := s.dies[k]
  match r with
  | .PRG_RESULT =>
    let l := d.loader
    mkWord [(31, 31, b2n l.busy.isSome), (23, 16, l.code.num), (11, 8, l.strand), (7, 4, l.fault), (3, 0, l.op)]
  | .PRG_USE => prgUse s k
  | .PRG_WEAVE => mkWord [(4, 0, weaversUsed s k)]
  | .PRG_SLOT => match d.slots[n] with
    | some g =>
      mkWord [(31, 16, (boundTo s k n).foldl (fun (a : Nat) (i : StrandIx) => a + 2 ^ i.val) 0), (15, 15, 1), (14, 12, g.h),
        (11, 8, g.pipe), (1, 0, g.dir)]
    | none => 0
  | .PRG_DIG => match d.slots[n] with | some g => lo32 g.digest | none => 0
  | .LIB_DIG => lo32 (libDig s j)
  | .PRG_STAT => match boundImage s k i, x.slot with
    | some g, some n => mkWord [(31, 31, 1), (27, 24, n.val), (23, 20, g.pipe), (15, 0, g.cycles)]
    | _, _ => 0
  | .PRG_FLAGS =>
    mkWord [(4, 4, b2n x.fEcc), (3, 3, b2n x.fEvent), (2, 2, b2n x.fTrip), (1, 1, b2n x.fOclip), (0, 0, b2n x.fSat)]
  | .PRG_PCTRL => mkWord [(1, 1, b2n x.paramWait)]
  | _ => 0

/-- Radio control on a band die (08_radio_control.md). -/
def statusRadio (r : Reg) (k : DieIx) (j : Nat) (s : State) : Word :=
  let p : PortIx := Fin.ofNat 4 j
  let q := s.port k p
  let x := (s.dies[k]).scan
  let f := (s.dies[k]).rffe
  match r with
  | .PRC_STAT =>
    mkWord [(31, 24, q.result.num), (19, 19, b2n q.coexHeld), (18, 18, b2n (trswLevel s k p)), (17, 17, b2n (paenLevel s k p)),
      (16, 16, b2n (s.dies[k]).pllLock), (11, 11, b2n q.pend.isSome), (10, 8, match q.pend with | some c => c.1.num | none => 0),
      (3, 3, b2n (q.going s.time.ft).isSome), (2, 0, q.st.num)]
  | .PRC_COUNT => mkWord [(31, 16, q.unlocks), (15, 0, q.refused)]
  | .TUNE_STAT => mkWord [(31, 16, e16 q.rl), (15, 8, q.searches), (3, 3, b2n q.measValid),
      (2, 0, match q.search with | some x => x.j | none => q.tuned)]
  | .DIV_STAT =>
    mkWord [(31, 24, q.switches), (17, 17, b2n (noRef s k p)), (16, 16, b2n q.selected), (15, 0, e16 (divDelta q))]
  | .SCAN_STAT =>
    mkWord [(31, 24, x.reqCode.num), (20, 20, b2n x.reqDone), (19, 19, b2n x.calFail), (18, 18, b2n x.lock),
      (11, 8, x.task), (2, 0, x.st.num)]
  | .SCAN_CAL => mkWord [(31, 16, x.imgRej), (15, 8, enc 8 (sat 8 (roundDiv x.calTemp 10)))]
  | .SCAN_REQ => mkWord [(31, 31, b2n x.reqOn)]
  | .SCAN_RES => mkWord [(19, 16, min 8 x.cells.length), (15, 0, e16 x.power)]
  | .SCAN_CELL => match x.cells[j]? with
    | some c => mkWord [(31, 31, 1), (30, 30, b2n c.nr), (23, 16, enc 8 (sat 8 c.sinr)), (9, 0, c.pci)]
    | none => 0
  | .RFFE_DATA => mkWord [(15, 0, f.data)]
  | .RFFE_STAT => mkWord [(31, 16, f.parErr), (8, 8, b2n f.parity), (0, 0, b2n f.busy.isSome)]
  | _ => 0

/-! ## The hub die -/

/-- The coil engine (09_coil_engine.md). -/
def statusCoil (r : Reg) (i : Nat) (s : State) : Word :=
  let c : CoilIx := Fin.ofNat 24 i
  let q := s.coils[c]
  let l := q.loop
  match r with
  | .COIL_STAT =>
    mkWord [(31, 28, q.startFault), (26, 24, l.bank), (18, 18, b2n l.high), (17, 17, b2n q.laValid), (16, 16, b2n l.sec),
      (0, 0, b2n (q.st == .running))]
  | .COIL_CFG => mkWord [(31, 30, coilClass c)]
  | .COIL_FLAGS => mkWord [(7, 0, q.flags)]
  | .MON_Y => e32 l.y
  | .MON_SP => e32 l.sp
  | .MON_TRIM => e32 l.trim
  | .MON_LA => if coilClass c = 0 then e32 l.lam else e32 (dbQ16 (-20000))
  | .MON_RES => e32 l.res
  | .MON_DUTY => mkWord [(15, 0, enc 16 l.dAct)]
  | .TRACE_STAT => mkWord [(27, 16, trigIndex q.trace), (1, 0, match q.trace.st with
      | .idle => 0 | .armed => 1 | .triggered => 2 | .done => 3)]
  | .COIL_PCTRL => mkWord [(1, 1, b2n q.paramWait)]
  | .COIL_IMG => match q.image with | some g => lo32 g.digest | none => 0
  | .COIL_RESULT =>
    let d := s.coilLdr
    mkWord [(31, 31, b2n d.busy.isSome), (23, 16, d.code.num), (12, 8, d.coil), (7, 4, d.fault), (2, 0, d.op)]
  | .COIL_USE => mkWord [(13, 0, longestRun 0x2000 (coilRuns s none))]
  | .CORE_LOAD =>
    let cs := coreCoils s (Fin.ofNat 4 i)
    mkWord [(31, 16, min 0xFFFF (coreSum s cs)), (15, 0, coreWindow s cs)]
  | .SNS_OFS => mkWord [(31, 16, s.sns[(Fin.ofNat 48 i : Fin 48)])]
  | _ => 0

/-- Plait (10_plait.md). -/
def statusPlait (r : Reg) (i : Nat) (s : State) : Word :=
  let n : PairIx := Fin.ofNat 48 i
  let p := s.pairs[n]
  let x := s.plait
  match r with
  | .PAIR_CTRL => mkWord [(0, 0, b2n p.en)]
  | .PAIR_PERIOD => mkWord [(31, 16, p.period), (15, 0, p.shPeriod)]
  | .PAIR_DUTY => mkWord [(22, 0, p.shW)]
  | .PAIR_PHASE => mkWord [(16, 0, p.shPhase)]
  | .PAIR_STAT => pairStat s n
  | .PAIR_EVT => mkWord [(31, 16, p.trips), (15, 0, p.shorts)]
  | .PL_CMD => mkWord [(0, 0, b2n (x.hostReq != 0))]
  | .PL_TRIP_STAT => mkWord [(15, 8, x.seen), (7, 0, x.tripIn)]
  | .PL_CAL => mkWord [(31, 31, b2n x.calFail), (30, 30, b2n x.calValid), (23, 16, x.trim), (15, 0, x.cals)]
  | _ => 0

/-- The wale fabric and the guarantees (11_wale_fabric.md, 12_guarantees.md). -/
def statusWale (r : Reg) (i : Nat) (s : State) : Word :=
  let x := s.wale
  let w : WaleIx := Fin.ofNat 8 i
  let p := s.wport w
  match r with
  | .WALE_STAT =>
    mkWord [(31, 24, if isRoot s then min 64 (x.found.length + x.noAddr.length) else 0), (23, 16, x.level), (15, 12, x.upPort),
      (10, 10, b2n x.pinConflict), (9, 9, b2n x.unaddressed), (8, 8, b2n (x.root.serial != 0 && isRoot s)),
      (5, 0, x.addr)]
  | .FT_LO => lo32 s.fab
  | .FT_HI => lo32 s.time.ftHi
  | .TIME_STAT => mkWord [(31, 16, e16 x.offset), (15, 8, x.steps), (0, 0, b2n x.freqLock)]
  | .ROUTE =>
    let d : Fin 64 := Fin.ofNat 64 i
    mkWord [(3, 0, if bit (s.cfg0 .WALE_CTRL) 1 then x.hostRoutes[d] else x.routes[d])]
  | .ROUTE_CMD => mkWord [(31, 16, x.version)]
  | .PORT_STAT =>
    mkWord [(31, 24, slotsUsed s w), (23, 20, p.cause), (19, 17, p.peerPort % 8), (16, 16, b2n p.tree), (13, 8, p.peerAddr),
      (2, 0, p.st.num)]
  | .PORT_DELAY => e32 p.delay
  | .PORT_ERR => mkWord [(31, 16, p.tagFail), (15, 0, p.blkErr)]
  | .PORT_EVT => mkWord [(31, 16, p.resends), (15, 0, p.downs)]
  | .PEER_SER_LO => if p.st = .up then lo32 p.peerSerial else 0
  | .PEER_SER_HI => if p.st = .up then hi32 p.peerSerial else 0
  | .EP_CTRL =>
    let e := s.ep i
    mkWord [(31, 31, b2n (e.asked.isSome && !e.auto)), (23, 16, e.slots), (15, 12, e.fault), (9, 8, e.st.num),
      (5, 5, b2n e.lock.isSome), (4, 0, e.hops)]
  | .EP_MON =>
    let e := s.ep i
    mkWord [(31, 20, e.late), (19, 12, e.crcErr),
      (11, 0, if fld (s.cfg1 .EP_CFG i) 1 0 = 1 then min 0xFFF (roundDiv e.dRoute 1200).toNat
        else min 99 (roundDiv (1200 * e.offset) (blockTwelfths (fld (s.cfg1 .EP_CFG i) 10 8))).toNat)]
  | .GRT_STAT =>
    mkWord [(8, 8, b2n x.contend), (4, 4, b2n x.a5), (3, 3, b2n x.a4), (2, 2, b2n x.a3), (1, 1, b2n x.a2), (0, 0, b2n x.a1)]
  | .GRT_CNT0 => mkWord [(31, 16, x.txnTimeout), (15, 0, x.retries)]
  | .GRT_CNT1 => mkWord [(31, 16, x.contends), (15, 8, x.drainDrop), (7, 0, x.policed)]
  | _ => 0

/-- TAGS of CANE_TAGS. -/
def TagState.num : TagState → Nat
  | .free => 0 | .busy => 1 | .done _ => 2

/-- Coexistence, the regulatory view and the Cane link (08_radio_control.md, 05_network_protection.md,
13_cane_link.md). -/
def statusLink (r : Reg) (s : State) : Word :=
  let c := s.cane
  match r with
  | .COEX_STAT =>
    mkWord [(31, 16, s.coex.denials), (2, 2, b2n s.coex.pri), (1, 1, b2n s.coex.gnt), (0, 0, b2n s.coex.req)]
  | .COEX_GRANTS => lo32 s.coex.grants
  | .REG_EDIT =>
    mkWord [(23, 16, s.reg.code.num), (11, 8, s.reg.fault), (4, 4, b2n s.reg.busy.isSome), (3, 3, b2n s.reg.staged)]
  | .REG_SEQ => lo32 (regSeq s)
  | .REG_STAT => regStat s
  | .CANE_STAT =>
    mkWord [(31, 24, c.credits), (20, 16, (c.tags.toList.filter fun t => t.st.num == 1).length), (2, 0, c.st.num)]
  | .CANE_TAGS => lo32 (c.tags.toList.zipIdx.foldl (fun (a : Nat) (x : CaneTag × Nat) => a + x.1.st.num * 4 ^ x.2) 0)
  | .CANE_ERR => mkWord [(31, 16, c.crcErr), (15, 0, c.codeErr)]
  | .CANE_PROT => mkWord [(31, 24, c.tagErr), (23, 16, c.dups), (15, 8, c.gaps)]
  | .CANE_EVT => mkWord [(31, 16, c.evtSent), (15, 0, c.evtDrop)]
  | .CANE_LINK => mkWord [(31, 16, c.nudges), (15, 8, c.syncLoss), (7, 0, c.trainFail)]
  | _ => 0

/-- The Handle, telemetry and identity (14_handle_boot_update.md). -/
def statusHandle (r : Reg) (s : State) : Word :=
  let h := s.handle
  match r with
  | .HDL_STAT => hdlStat s
  | .CFG_FIRST => mkWord [(16, 0, h.cfgFirst)]
  | .UPD_STAT => updStat h.upd
  | .UPD_DIG => h.upd.dig
  | .TEL_V => if fld (s.cfg0 .TEL_CFG) 5 0 = 63 then 0 else e32 h.telV
  | .TEL_I => if fld (s.cfg0 .TEL_CFG) 13 8 = 63 then 0 else e32 h.telI
  | .TEL_P => if fld (s.cfg0 .TEL_CFG) 5 0 = 63 ∨ fld (s.cfg0 .TEL_CFG) 13 8 = 63 then 0 else e32 h.telP
  | .TEL_VMIN_SEEN => if fld (s.cfg0 .TEL_CFG) 5 0 = 63 then 0 else e32 (h.vMin.getD 0)
  | .TEL_VMAX_SEEN => if fld (s.cfg0 .TEL_CFG) 5 0 = 63 then 0 else e32 (h.vMax.getD 0)
  | .TEL_STAT => mkWord [(1, 1, b2n h.telOut), (0, 0, b2n h.telValid)]
  | .ID_PART =>
    mkWord [(31, 16, partCode s), (7, 0, (allDies.filter s.isFitted).foldl (fun (a : Nat) (k : DieIx) => a + 2 ^ dieNum k) 0)]
  | .ID_SER_LO => lo32 s.serial
  | .ID_SER_HI => hi32 s.serial
  | .VER_HUB => lo32 h.hubVer
  | .VER_MCODE => lo32 h.mcVer
  | .VER_WITHY => if h.mcSlot.isSome then 2 else 0
  | .BOOT_STAT => bootStat h
  | _ => 0

/-- The record that SKN_RD or TLY_RD selects. -/
def sknSelected (s : State) : Option (List Byte × Bool) := sknFind s (s.cfg0 .SKN_RD).toNat
def tlySelected (s : State) : Option (List Byte) := tlyFind s (s.cfg0 .TLY_RD).toNat

/-- The seal window: SEQ, LINK and the signature (15_skein_tally.md R503). -/
def sealBytes (x : Seal) : List Byte := leBytes 4 x.seq ++ beBytes 16 x.link ++ beBytes 96 x.sig

/-- The Skein, Tally and wall time (15_skein_tally.md). -/
def statusLog (r : Reg) (i : Nat) (s : State) : Word :=
  let k := s.skein
  let t := s.tally
  match r with
  | .SKN_STAT =>
    mkWord [(28, 16, skeinUsed k), (9, 9, b2n (sknSelected s).isSome),
      (8, 8, match sknSelected s with | some x => b2n x.2 | none => 0), (3, 3, b2n k.thawed), (2, 2, b2n k.frozen.isSome),
      (1, 1, b2n k.flushing.isSome), (0, 0, b2n k.newest.isSome)]
  | .SKN_SEQ => lo32 k.next
  | .SKN_FIRST => lo32 (sknFirst s)
  | .SKN_LOST => mkWord [(15, 0, k.lost)]
  | .SKN_WIN => match sknSelected s with | some x => wordOf x.1 i | none => 0
  | .TLY_ACK => lo32 t.ack
  | .TLY_NEXT => lo32 t.next
  | .TLY_STAT =>
    mkWord [(31, 31, b2n (tallyFull t)), (30, 30, b2n t.inTail), (29, 29, b2n (tlySelected s).isSome),
      (28, 18, t.staged.length), (17, 0, min 0x3FFFF (unharvested t))]
  | .TLY_LOST => mkWord [(31, 16, t.tailLost), (15, 0, t.deniedLost)]
  | .WT_LO => lo32 s.wall
  | .WT_HI => lo32 s.time.wtHi
  | .WT_CTRL => mkWord [(31, 16, s.time.epoch), (1, 1, b2n s.time.wtSet)]
  | .TLY_SEAL => mkWord [(1, 1, b2n t.sealWin.isSome)]
  | .TLY_WIN => match tlySelected s with | some x => wordOf x i | none => 0
  | .TLY_SEAL_WIN => match t.sealWin with | some x => wordOf (sealBytes x) i | none => 0
  | _ => 0

/-- The Lashing (16_lashing.md). -/
def statusLash (r : Reg) (i : Nat) (s : State) : Word :=
  let x := s.lash.srcs[(Fin.ofNat 256 i : Fin 256)]
  match r with
  | .LSH_STAT => lshStat s
  | .LSH_INJ => mkWord [(31, 31, b2n s.lash.inj.isSome)]
  | .LSH_SUM =>
    lo32 ((List.range 32).foldl (fun (a : Nat) (j : Nat) =>
      let y := s.lash.srcs[(Fin.ofNat 256 (32 * i + j) : Fin 256)]
      a + b2n (y.latched && decide (1 ≤ y.sev)) * 2 ^ j) 0)
  | .LSH_SRC_CFG => mkWord [(7, 7, b2n x.auto), (4, 4, b2n x.scope), (2, 0, x.sev)]
  | .LSH_SRC_STAT =>
    mkWord [(31, 16, x.count), (4, 4, b2n x.wire), (3, 3, b2n x.dry), (2, 2, b2n x.injected), (1, 1, b2n x.still),
      (0, 0, b2n x.latched)]
  | _ => 0

/-- LID_CERT: the device certificate and the device CA key (19_lid_security.md). -/
def lidCertBytes : List Byte := beBytes 256 (Config.otpKey 3) ++ beBytes 97 (Config.otpKey 2)

/-- The thermal guard, power and the Lid (17_thermal.md, 18_clocks_power.md, 19_lid_security.md). -/
def statusGuard (r : Reg) (i : Nat) (s : State) : Word :=
  match r with
  | .THM_CTRL => mkWord [(15, 15, b2n (convPending s))]
  | .THM_STAT => thmStat s
  | .THM_DIE => thmDieWord (s.thm.dies[(Fin.ofNat 8 i : Fin 8)])
  | .THM_CNT => thmCnt s
  | .PWR_STAT => pwrStat s
  | .CLK_STAT => clkStat s
  | .PWR_CNT => pwrCnt s
  | .LID_CTRL => mkWord [(0, 0, b2n s.lid.checking.isSome)]
  | .LID_STAT => lidStat s
  | .LID_LOCK => mkWord [(16, 0, lockRest s)]
  | .LID_EVAL => lidEval s
  | .LID_CERT => wordOf lidCertBytes i
  | .DENY_ADDR => s.lid.denyAddr
  | .DENY_CNT => mkWord [(23, 16, s.lid.denyOrigin), (15, 0, s.lid.denyCnt)]
  | _ => 0

/-- The blocks of the register tables, in their order. -/
inductive Chapter where
  | riddle | strand | canc | prot | prog | radio | coil | plait | wale | link | handle | log | lash | guard
  deriving DecidableEq, Repr

/-- The chapter of a register, from its place in the tables. -/
def Reg.chapter (r : Reg) : Chapter :=
  let n := r.rank
  if n < Reg.STR_CTRL.rank then .riddle
  else if n < Reg.CNC_CTRL.rank then .strand
  else if n < Reg.UG_CFG.rank then .canc
  else if n < Reg.REG_EDIT.rank then .prot
  else if n < Reg.PRG_CMD.rank then .link
  else if n < Reg.PRC_CTRL.rank then .prog
  else if n < Reg.COEX_CFG.rank then .radio
  else if n < Reg.COIL_CTRL.rank then .link
  else if n < Reg.PAIR_CTRL.rank then .coil
  else if n < Reg.WALE_CTRL.rank then .plait
  else if n < Reg.CANE_CTRL.rank then .wale
  else if n < Reg.HDL_STAT.rank then .link
  else if n < Reg.SKN_CTRL.rank then .handle
  else if n < Reg.LSH_CTRL.rank then .log
  else if n < Reg.THM_CTRL.rank then .lash
  else .guard

/-- What the units show in a register: its RO, W1C, W1S and RC fields and the RW fields that no word stores. -/
def statusWord (x : RegKey) (s : State) : Word :=
  let k : DieIx := Fin.ofNat 7 x.i
  match x.reg.chapter with
  | .riddle => statusRiddle x.reg k x.j s
  | .strand => statusStrand x.reg k x.j s
  | .canc => statusCanc x.reg k x.j x.l s
  | .prot => statusProt x.reg k x.j s
  | .prog => statusProg x.reg k x.j s
  | .radio => statusRadio x.reg k x.j s
  | .coil => statusCoil x.reg x.i s
  | .plait => statusPlait x.reg x.i s
  | .wale => statusWale x.reg x.i s
  | .link => statusLink x.reg s
  | .handle => statusHandle x.reg s
  | .log => statusLog x.reg x.i s
  | .lash => statusLash x.reg x.i s
  | .guard => statusGuard x.reg x.i s

/-- The value of a register, before a read has cleared anything. -/
def regValue (x : RegKey) (s : State) : Word :=
  (regGet s.regs x &&& BitVec.ofNat 32 (storedMask x.reg)) ||| statusWord x s

/-! ## What a read clears (R14) and latches -/

/-- The RC fields of the band-die registers. -/
def clearDie (r : Reg) (k : DieIx) (j : Nat) (s : State) : State :=
  let p : PortIx := Fin.ofNat 4 j
  let i : StrandIx := Fin.ofNat 16 j
  match r with
  | .ADC_OVR_COUNT => s.modConv k p fun c => { c with ovrCount := 0 }
  | .ADC_PEAK => (s.modConv k p fun c => { c with peak := 0, heard := adcLevel s k p }).tick
  | .PAR_STAT => s.modStrand k i fun x => { x with parErr := 0, invBlocks := 0 }
  | .LIM_RED => s.modLim k p fun x => { x with maxRed := 0 }
  | .LIM_COUNT => s.modLim k p fun x => { x with count := 0 }
  | .GRD_COUNT => s.modGuard k i fun x => { x with count := 0 }
  | .UG_STAT => s.modProt k i fun x => { x with openings := 0 }
  | .DUTY_STAT => s.modDuty k p fun x => { x with hits := 0, max := x.frac s.time.ft }
  | .PRC_COUNT => s.modPort k p fun x => { x with unlocks := 0, refused := 0 }
  | .TUNE_STAT => s.modPort k p fun x => { x with searches := 0 }
  | .DIV_STAT => s.modPort k p fun x => { x with switches := 0 }
  | .RFFE_STAT => s.modRffe k fun x => { x with parErr := 0 }
  | _ => s

/-- The RC fields of the hub's registers, and the latches of FT_HI and WT_HI (11_wale_fabric.md R420,
15_skein_tally.md R483). -/
def clearHub (r : Reg) (i : Nat) (s : State) : State :=
  match r with
  | .COEX_STAT => { s with coex := { s.coex with denials := 0 } }
  | .COEX_GRANTS => { s with coex := { s.coex with grants := 0 } }
  | .PAIR_EVT => s.modPair (Fin.ofNat 48 i) fun p => { p with trips := 0, shorts := 0 }
  | .FT_LO => { s with time := { s.time with ftHi := s.fab / 2 ^ 32 % 2 ^ 32 } }
  | .TIME_STAT => s.modWale fun x => { x with steps := 0 }
  | .PORT_ERR => s.modWport (Fin.ofNat 8 i) fun p => { p with tagFail := 0, blkErr := 0 }
  | .PORT_EVT => s.modWport (Fin.ofNat 8 i) fun p => { p with resends := 0, downs := 0 }
  | .EP_MON => s.modEp i fun e => { e with late := 0, crcErr := 0 }
  | .GRT_CNT0 => s.modWale fun x => { x with txnTimeout := 0, retries := 0 }
  | .GRT_CNT1 => s.modWale fun x => { x with contends := 0, drainDrop := 0, policed := 0 }
  | .CANE_ERR => { s with cane := { s.cane with crcErr := 0, codeErr := 0 } }
  | .CANE_PROT => { s with cane := { s.cane with tagErr := 0, dups := 0, gaps := 0 } }
  | .CANE_EVT => { s with cane := { s.cane with evtSent := 0, evtDrop := 0 } }
  | .CANE_LINK => { s with cane := { s.cane with nudges := 0, syncLoss := 0, trainFail := 0 } }
  | .HDL_STAT => { s with handle := { s.handle with restarts := 0, cfgErrs := 0 } }
  | .TEL_VMIN_SEEN => { s with handle := { s.handle with vMin := none } }
  | .TEL_VMAX_SEEN => { s with handle := { s.handle with vMax := none } }
  | .SKN_LOST => { s with skein := { s.skein with lost := 0 } }
  | .TLY_LOST => { s with tally := { s.tally with tailLost := 0, deniedLost := 0 } }
  | .WT_LO => { s with time := { s.time with wtHi := s.wall / 2 ^ 32 } }
  | .LSH_SRC_STAT => s.modSrc (Fin.ofNat 256 i) fun x => { x with count := 0 }
  | .THM_CNT => { s with thm := { s.thm with shutdowns := 0, mailboxLost := 0, throttles := 0 } }
  | .PWR_CNT => { s with pwr := { s.pwr with wakes := 0, pfails := 0, footEntries := 0 } }
  | .DENY_CNT => { s with lid := { s.lid with denyCnt := 0 } }
  | _ => s

/-- What a read of a register changes. -/
def afterRead (x : RegKey) (s : State) : State :=
  match x.reg.chapter with
  | .riddle | .strand | .canc | .prot | .radio => clearDie x.reg (Fin.ofNat 7 x.i) x.j s
  | _ => clearHub x.reg x.i s

end Sys2Proof.Machine
end

