-- ==== Sys2Proof/Machine/WriteRegs.lean ====
section
/-!
DEFINITION. Machine/WriteRegs.lean: what a write to each register is refused for, what it does, and what Tally records
of it (00_scope.md R14 to R17, 20_address_map.md R582, R583 and the rules of each chapter).
-/
namespace Sys2Proof.Machine
open Sys2Proof

/-! ## General rules of a write -/

/-- Whether a field's value in a word lies in its ranges (02_converters_riddle.md R91). -/
def Field.inRange (f : Field) (w : Word) : Bool :=
  let v : Int := if f.sgn then sfld w f.hi f.lo else (fld w f.hi f.lo : Int)
  f.rng.isEmpty || f.rng.any fun (x : Int × Int) => decide (x.1 ≤ v ∧ v ≤ x.2)

/-- Whether every writable field of a word lies in its ranges. -/
def rangesOk (r : Reg) (w : Word) : Bool :=
  r.info.fields.all fun (f : Field) => !(f.acc == .rw || f.acc == .wo) || f.inRange w

/-- Whether a write touches an LK field (R15): `old` is the register's value before it. -/
def touchesLk (r : Reg) (old w : Word) : Bool :=
  r.info.fields.any fun (f : Field) => f.lk && (match f.acc with
    | .rw => fld w f.hi f.lo != fld old f.hi f.lo
    | .wo | .w1s | .w1c => fld w f.hi f.lo != 0
    | .ro | .rc => false)

/-- A write to LSH_SRC_CFG that lowers SEV while the Lid is Closed is refused as an LK one (16_lashing.md). -/
def lowersSev (x : RegKey) (old w : Word) : Bool :=
  x.reg == .LSH_SRC_CFG && decide (fld w 2 0 < fld old 2 0)

/-- Whether a register has a field that a write can act on. -/
def writable (r : Reg) : Bool :=
  r.info.fields.any fun (f : Field) => !(f.acc == .ro || f.acc == .rc)

/-- The value after a write as a Tally record gives it: the RW and WO fields as written, the W1S bits written set and
the W1C bits written cleared. -/
def writtenValue (r : Reg) (old w : Word) : Word :=
  let m := BitVec.ofNat 32 (fieldMask r fun f => f.acc == .rw || f.acc == .wo)
  let s1 := BitVec.ofNat 32 (fieldMask r fun f => f.acc == .w1s)
  let c1 := BitVec.ofNat 32 (fieldMask r fun f => f.acc == .w1c)
  (((old &&& ~~~m) ||| (w &&& m)) ||| (w &&& s1)) &&& ~~~(w &&& c1)

/-- The bits of COEX_PORTS of the dies that are fitted; the others read 0. -/
def fittedPorts (s : State) : Word :=
  BitVec.ofNat 32 (allDies.foldl (fun (a : Nat) (k : DieIx) => a + b2n (s.isFitted k) * 15 * 2 ^ (4 * k.val)) 0)

/-- Storing the RW fields of a write. -/
def storeRw (x : RegKey) (w : Word) (s : State) : State :=
  match x.reg with
  | .TAP => s.putReg x (w &&& BitVec.ofNat 32 (fieldMask .TAP fun f => f.acc == .rw))
  | .COEX_PORTS => s.putReg x (w &&& BitVec.ofNat 32 (storedMask .COEX_PORTS) &&& fittedPorts s)
  | r => if storedMask r = 0 then s else s.putReg x (w &&& BitVec.ofNat 32 (storedMask r))

/-- A condition as a refusal with BUSY. -/
def busyIf (b : Bool) : Code := if b then .busy else .ok
/-- A condition as a refusal with BAD_PROGRAM. -/
def badIf (b : Bool) : Code := if b then .badProgram else .ok

/-! ## Refusals -/

/-- Whether a strand is STARTING or RUNNING, and whether it is STOPPED. -/
def upState (s : State) (k : DieIx) (i : StrandIx) : Bool :=
  (s.strand k i).st == .starting || (s.strand k i).st == .running

/-- The LR rule (00_scope.md R16; R106, R159, R175, R184): GAIN above MAX_GAIN, MARGIN below FLOOR, UG_EN or EN
cleared while the entry asks for it. -/
def lrRefuses (r : Reg) (k : DieIx) (j : Nat) (w : Word) (s : State) : Bool :=
  let i : StrandIx := Fin.ofNat 16 j
  match r with
  | .GAIN_CFG => match strandEntry s k i with | some (_, e) => decide (e.maxGain < sfld w 27 16) | none => false
  | .MARGIN_CFG => match strandEntry s k i with | some (_, e) => decide (fld w 9 0 < e.floor) | none => false
  | .UG_CFG => match strandEntry s k i with | some (_, e) => e.gateReq && !bit w 31 | none => false
  | .PRES_CFG => regValid s && (activeEntry s k j).valid && (activeEntry s k j).presReq && !bit w 31
  | _ => false

/-- The refusals of the band-die registers beyond ranges and LR. -/
def ruleDie (r : Reg) (k : DieIx) (j : Nat) (w : Word) (s : State) : Code :=
  let i : StrandIx := Fin.ofNat 16 j
  let p : PortIx := Fin.ofNat 4 j
  match r with
  | .CONV_CFG => busyIf (dacInUse s k j)
  | .NCO_FREQ_LO | .NCO_FREQ_HI | .NCO_PHASE => busyIf (s.rid k i).pending
  | .RDL_CFG | .STR_PLACE => busyIf (isRunning s k i)
  | .RDL_SYNC => busyIf ((s.dies[k]).armed.isSome && !bit w 17)
  | .STR_CTRL => badIf (bit w 0 && bit w 1)
  | .STR_GROUP => badIf (Nat.land (fld w 31 16) (fld w 15 0) != 0)
  | .CNC_CTRL => busyIf (bit w 2 != bit (s.cfg2 .CNC_CTRL k i) 2 && isRunning s k i)
  | .TAP => busyIf (!bit (s.cfg2 .CNC_CTRL k i) 2)
  | .COEF_RE | .COEF_IM => busyIf (!bit (s.cfg2 .CNC_CTRL k i) 1)
  | .PRG_MASK => busyIf (s.dies[k]).loader.busy.isSome
  | .PRG_PARAM => busyIf (s.prog k i).paramWait
  | .PRC_CTRL =>
    if decide (2 ≤ j) && (bit w 8 || bit w 9) then .badProgram else busyIf (duplexClash s k p w)
  | .RFFE_CMD => busyIf (bit w 31 && (s.dies[k]).rffe.busy.isSome)
  | _ => .ok

/-- Whether a coil is not STOPPED. -/
def coilOn (s : State) (c : CoilIx) : Bool := (s.coils[c]).st != .stopped

/-- The refusals of the coil and Plait registers (09_coil_engine.md R330, R338, R365; 10_plait.md R378, R383 to R388). -/
def ruleCoil (r : Reg) (i : Nat) (w : Word) (s : State) : Code :=
  let c : CoilIx := Fin.ofNat 24 i
  let n : PairIx := Fin.ofNat 48 i
  match r with
  | .COIL_CTRL => badIf (bit w 0 && bit w 1)
  | .COIL_CFG | .COIL_SENSE | .SP_MIN | .SP_MAX | .SLEW_UP | .SLEW_DN | .DUTY_LIM | .BANK_HYST | .NOTCH_B0 | .NOTCH_B1
  | .NOTCH_B2 | .NOTCH_A1 | .NOTCH_A2 | .PLAUS_CFG | .PLAUS_MG | .PLAUS_MO | .PLAUS_LIM | .BANK_EDGE | .BANK_DUTY
  | .BANK_BAND | .BANK_KI | .TRIM_MIN | .TRIM_MAX => busyIf (coilOn s c)
  | .COIL_PARAM => busyIf (s.coils[c]).paramWait
  | .PAIR_CTRL =>
    if bothOn w then .badProgram else busyIf (pairOwned s n && bit w 0 != (s.pairs[n]).en)
  | .PAIR_PERIOD | .PAIR_DUTY | .PAIR_PHASE => busyIf (pairPending s n || pairOwned s n)
  | .PAIR_TRIP => badIf (decide (fld w 31 16 < fld w 15 8))
  | .PL_CMD => badIf (bit w 0 && bit w 1)
  | _ => .ok

/-- The refusals of the other hub registers. -/
def ruleHub (r : Reg) (i : Nat) (w : Word) (s : State) : Code :=
  match r with
  | .REG_EDIT =>
    if 1 < b2n (bit w 0) + b2n (bit w 1) + b2n (bit w 2) then .badProgram
    else busyIf ((bit w 0 || bit w 2) && s.reg.busy.isSome)
  | .EP_CFG | .EP_PLAY => busyIf ((s.ep i).st == .admitted)
  | .UPD_SIZE => busyIf s.handle.upd.busy.isSome
  | .LSH_CTRL => badIf (bit w 0 && bit w 1)
  | .LSH_SRC_CFG => badIf (!srcSettable (Fin.ofNat 256 i))
  | _ => .ok

/-- Writes that a Handle restart makes BUSY (14_handle_boot_update.md R465). -/
def restartBusy (r : Reg) (s : State) : Bool :=
  s.handle.st == .restart && (match r with | .PRG_CMD | .COIL_CMD | .REG_EDIT | .UPD_CTRL => true | _ => false)

/-- The target register's own refusals, in the order of R583: ranges, LR, BUSY. -/
def regRule (x : RegKey) (w : Word) (s : State) : Code :=
  let k : DieIx := Fin.ofNat 7 x.i
  if !rangesOk x.reg w then .badProgram
  else if restartBusy x.reg s then .busy
  else match x.reg.chapter with
    | .riddle | .strand | .canc | .prot | .prog | .radio =>
      if lrRefuses x.reg k x.j w s then .lockedRegulatory else ruleDie x.reg k x.j w s
    | .coil | .plait => ruleCoil x.reg x.i w s
    | _ => ruleHub x.reg x.i w s

/-! ## Effects -/

/-- A write to STR_CTRL (03_strands.md R99 to R104). -/
def strCtrl (k : DieIx) (i : StrandIx) (w : Word) (s : State) : Code × State :=
  if bit w 0 then strandStart k i s else if bit w 1 then (.ok, strandStop k i s) else (.ok, s)

/-- A write to RDL_SYNC (02_converters_riddle.md R67, R72, R73). -/
def rdlSync (k : DieIx) (w : Word) (s : State) : State :=
  if bit w 17 then s.modDie k fun d => { d with armed := none }
  else if bit w 16 then syncArm k (fld w 15 0) s
  else syncNow k (fld w 15 0) s

/-- A write that changes ALC_EN from 0 to 1: g_alc takes the present g_app (03_strands.md R115). -/
def alcEnable (k : DieIx) (i : StrandIx) (w : Word) (s t : State) : State :=
  if bit w 31 && !bit (s.cfg2 .ALC_CFG k i) 31 then
    t.modStrand k i fun x => { x with gAlc := roundDiv (x.gApp * 65536) 20 }
  else t

/-- Effects of the converter, riddle and strand registers. `t` is the state with the RW fields stored. -/
def writeStrand (r : Reg) (k : DieIx) (j : Nat) (w : Word) (s t : State) : Code × State :=
  let i : StrandIx := Fin.ofNat 16 j
  let p : PortIx := Fin.ofNat 4 j
  match r with
  | .CONV_STAT => (.ok, t.modConv k p fun c => { c with dacClip := c.dacClip && !bit w 3, adcOvr := c.adcOvr && !bit w 2 })
  | .NCO_CTRL => if bit w 0 then ncoApply k i t else (.ok, t)
  | .DELAY_CFG => (.ok, delayWritten k i (delayNow s k i) (delayTarget s k i) t)
  | .BANK_STAT => (.ok, t.modRid k i fun x => { x with replaced := x.replaced && !bit w 9 })
  | .SWAP_REQ => (.ok, swapRequest k i (Fin.ofNat 2 (fld w 8 8)) (fld w 3 0) t)
  | .RDL_STAT => (.ok, t.modRid k i fun x => { x with discarded := x.discarded && !bit w 17 })
  | .RDL_SYNC => (.ok, presFollow k s (rdlSync k w t))
  | .RDL_SYNC_STAT => (.ok, t.modDie k fun d => { d with missed := d.missed && !bit w 17 })
  | .RDL_GROUP_SWAP => groupSwap k (fld w 15 0) (Fin.ofNat 2 (fld w 24 24)) (fld w 19 16) t
  | .RDL_CFG | .STR_PLACE => (.ok, unbind k i t)
  | .STR_CTRL => strCtrl k i w t
  | .ALC_CFG => (.ok, alcEnable k i w s t)
  | .STR_GROUP => strandGroup k (fld w 15 0) (fld w 31 16) t
  | _ => (.ok, t)

/-- Effects of the canceller and guard registers (04_feedback_cancellation.md). -/
def writeCanc (r : Reg) (k : DieIx) (j l : Nat) (w : Word) (t : State) : State :=
  let i : StrandIx := Fin.ofNat 16 j
  let n : Fin 128 := Fin.ofNat 128 l
  match r with
  | .CNC_CTRL =>
    let t := if bit w 4 then soundRequest k i t else t
    if bit w 3 then askPlacement k i t else t
  | .SOUND_STAT => t.modCanc k i fun c => { c with lapsed := c.lapsed && !bit w 16 }
  | .PROF_SEL => showProfile k i t
  | .COEF_RE => t.modCanc k i fun c => { c with slots := vmod c.slots n fun x => { x with w := ⟨sfld w 23 0, x.w.im⟩ } }
  | .COEF_IM => t.modCanc k i fun c => { c with slots := vmod c.slots n fun x => { x with w := ⟨x.w.re, sfld w 23 0⟩ } }
  | .GRD_STAT => t.modGuard k i fun g => { g with tripped := g.tripped && !bit w 2 }
  | _ => t

/-- A write that fails changes no field of its register (00_scope.md R17). -/
def keepRegs (s : State) (r : Code × State) : Code × State :=
  if r.1 = .ok then r else (r.1, { r.2 with regs := s.regs })

/-- Effects of the protection registers (05_network_protection.md). UG_EN set on a running strand puts its gate into CLOSED
with the keep-alive interval counted anew: R177 gives no gate state for it (DESIGN CHOICE, notes/assumptions/143.md). -/
def writeProt (r : Reg) (k : DieIx) (j : Nat) (w : Word) (s t : State) : Code × State :=
  let i : StrandIx := Fin.ofNat 16 j
  match r with
  | .UG_CFG =>
    if bit w 31 && !bit (s.cfg2 .UG_CFG k i) 31 && isRunning s k i then
      (.ok, t.modProt k i fun p => { p with ug := .closed, since := t.time.ft, keepPeriods := 0 })
    else (.ok, t)
  | .BO_CFG => (.ok, if bit w 31 then t else t.modProt k i fun p => { p with b := 0, bt := 0, hold := 0 })
  | .PRES_CFG => (.ok, presFollow k s t)
  | .TDD_ADV => if bit w 31 then keepRegs s ((tddApply k t).1, cycleAll k (tddApply k t).2) else (.ok, t)
  | .TDD_STAT => (.ok, t.modTdd k fun x => { x with jump := x.jump && !bit w 3 })
  | _ => (.ok, t)

/-- Effects of the program and radio registers of a die (06_withy_model.md, 08_radio_control.md). -/
def writeProg (r : Reg) (o : Origin) (k : DieIx) (j : Nat) (w : Word) (t : State) : Code × State :=
  let i : StrandIx := Fin.ofNat 16 j
  let p : PortIx := Fin.ofNat 4 j
  match r with
  | .PRG_CMD => loaderTake k w o t
  | .PRG_FLAGS => (.ok, t.modProg k i fun x =>
      { x with fEcc := x.fEcc && !bit w 4, fEvent := x.fEvent && !bit w 3, fTrip := x.fTrip && !bit w 2,
               fOclip := x.fOclip && !bit w 1, fSat := x.fSat && !bit w 0 })
  | .PRG_PCTRL => (.ok, if bit w 0 then stageParams k i t else t)
  | .PRC_CTRL => (.ok, portDequeue k p (portCommand k p (portStateOf (fld w 2 0)) (bit w 4) t))
  | .SCAN_STAT => (.ok, t.modScan k fun x => { x with calFail := x.calFail && !bit w 19 })
  | .SCAN_REQ =>
    let t := if bit w 31 then scanGo k t else t
    (.ok, if bit w 30 then scanAbort k t else t)
  | .RFFE_CMD => (.ok, if bit w 31 then rffeGo k t else t)
  | .RFFE_DATA => (.ok, t.modRffe k fun x => { x with data := fld w 15 0 })
  | .RFFE_STAT => (.ok, t.modRffe k fun x => { x with parity := x.parity && !bit w 8 })
  | _ => (.ok, t)

/-- A write to COIL_CTRL (09_coil_engine.md R361, R363): `t` has HOST_SEC stored. -/
def coilCtrl (c : CoilIx) (w : Word) (s t : State) : Code × State :=
  if bit w 0 then
    match coilStart c s with
    | (.ok, _) => coilStart c t
    | x => x
  else if bit w 1 then
    match coilStop c s with
    | (.ok, _) => coilStop c t
    | x => x
  else (.ok, t)

/-- Effects of the coil registers. -/
def writeCoil (r : Reg) (o : Origin) (i : Nat) (w : Word) (s t : State) : Code × State :=
  let c : CoilIx := Fin.ofNat 24 i
  match r with
  | .COIL_CTRL => coilCtrl c w s t
  | .COIL_FLAGS => (.ok, t.modCoil c fun q => { q with flags := q.flags - Nat.land q.flags (fld w 7 0) })
  | .TRACE_CFG =>
    let t := if bit w 31 then traceArm c t else t
    (.ok, if bit w 30 then traceForce c t else t)
  | .COIL_PCTRL => (.ok, if bit w 0 then coilParams c t else t)
  | .COIL_CMD => coilLoaderTake w o t
  | _ => (.ok, t)

/-- A write to PAIR_CTRL (10_plait.md R377, R385, R389): a CLEAR that is refused refuses the write. New safe levels of a
pair that is at them keep the dead time of R379. -/
def pairCtrl (n : PairIx) (w : Word) (s t : State) : Code × State :=
  let r := if bit w 16 then pairClear n s else (.ok, s)
  if r.1 = .ok then
    let t := if bit w 16 then (pairClear n t).2 else t
    let t := if atSafe s n then t.modPair n fun p => { p with safeFrom := pairFroms s n (plaitFine s) } else t
    (.ok, if bit w 0 then pairEnable n t else pairOff n t)
  else r

/-- Effects of the Plait registers. -/
def writePlait (r : Reg) (i : Nat) (w : Word) (s t : State) : Code × State :=
  let n : PairIx := Fin.ofNat 48 i
  match r with
  | .PAIR_CTRL => pairCtrl n w s t
  | .PAIR_PERIOD => (.ok, t.modPair n fun p => { p with shPeriod := fld w 15 0 })
  | .PAIR_DUTY => (.ok, t.modPair n fun p => { p with shW := fld w 22 0 })
  | .PAIR_PHASE => (.ok, t.modPair n fun p => { p with shPhase := fld w 16 0 })
  | .PAIR_TRIP => (.ok, tripSet n t)
  | .PAIR_STAT => (.ok, t.modPair n fun p => { p with clamp := p.clamp && !bit w 6, short := p.short && !bit w 5 })
  | .PL_CMD => if bit w 0 then plLoadAll t else if bit w 1 then plSync t else (.ok, t)
  | .PL_TRIP_STAT => (.ok, { t with plait := { t.plait with seen := t.plait.seen - Nat.land t.plait.seen (fld w 15 8) } })
  | .PL_CAL => (.ok, { t with plait := { t.plait with calFail := t.plait.calFail && !bit w 31 } })
  | _ => (.ok, t)

/-- Effects of the wale and guarantee registers (11_wale_fabric.md, 12_guarantees.md). -/
def writeWale (r : Reg) (i : Nat) (w : Word) (t : State) : Code × State :=
  match r with
  | .WALE_CTRL => (.ok, if bit w 0 then rediscover (clearSent t) else t)
  | .WALE_STAT => (.ok, t.modWale fun x => { x with pinConflict := x.pinConflict && !bit w 10 })
  | .PORT_CTRL =>
    let p : WaleIx := Fin.ofNat 8 i
    (.ok, if bit w 0 then (if noHoldDown t p then startTrain p (clearSent t) else t)
      else if (t.wport p).st = .down then t else afterDown (portDisable p (clearSent t)))
  | .ROUTE =>
    (.ok, if bit (t.cfg0 .WALE_CTRL) 1 then
        t.modWale fun x => { x with hostRoutes := vset x.hostRoutes (Fin.ofNat 64 i) (fld w 3 0) }
      else t)
  | .ROUTE_CMD => if bit w 0 then routeCommit t else (.ok, t)
  | .EP_CTRL =>
    let t := if bit w 30 then releaseStart i (clearSent t) else t
    (.ok, if bit w 31 then admitStart i false (clearSent t) else t)
  | .GRT_STAT => (.ok, t.modWale fun x =>
      { x with contend := x.contend && !bit w 8, a5 := x.a5 && !bit w 4, a4 := x.a4 && !bit w 3, a3 := x.a3 && !bit w 2,
               a2 := x.a2 && !bit w 1, a1 := x.a1 && !bit w 0 })
  | _ => (.ok, t)

/-- A write to REG_EDIT (05_network_protection.md R209, R210, R613). -/
def regEdit (o : Origin) (w : Word) (t : State) : Code × State :=
  if bit w 0 then regOpen t else if bit w 1 then regCommit o t else if bit w 2 then regDiscard t else (.ok, t)

/-- A write to LSH_SRC_CFG (16_lashing.md): the reaction follows the new severity, and SCOPE of a hub source stays 1. -/
def srcCfg (n : SrcIx) (w : Word) (s : State) : State :=
  let before := lshStat s
  let was := s
  let old := s.lash.srcs[n]
  let s := s.modSrc n fun x =>
    { x with auto := bit w 7, scope := bit w 4 || (srcDie n).isNone, sev := fld w 2 0 }
  let s := muteEnds was (lashReact n before old.mutes s)
  if old.mutes && old.sev == 3 && !(s.lash.srcs[n]).mutes then tallyAuto addrLshStat before (lshStat s) s else s

/-- A write to LSH_CTRL (R519, R520). -/
def lshCtrl (o : Origin) (w : Word) (s : State) : Code × State :=
  if bit w 1 then (.ok, raiseSafeRequest s) else if bit w 0 then safeExit o s else (.ok, s)

/-- A write to LSH_INJ (R522): GO with the fields as written, then STOP. -/
def lshInj (w : Word) (s t : State) : Code × State :=
  let go := fun (x : State) => injectGo (Fin.ofNat 256 (fld w 7 0)) (bit w 29) (bit w 28) (fld w 23 8) x
  if bit w 31 then
    if (go s).1 = .ok then (.ok, if bit w 30 then injectEnd (go t).2 else (go t).2) else go s
  else (.ok, if bit w 30 then injectEnd t else t)

/-- A write to THM_CTRL (17_thermal.md R529, R536): a REARM that is refused refuses the write. -/
def thmCtrl (o : Origin) (w : Word) (s t : State) : Code × State :=
  if bit w 16 && (rearmWrite o s).1 != .ok then rearmWrite o s
  else
    let t := autoRearm t
    let t := if bit w 16 then (rearmWrite o t).2 else t
    (.ok, if bit w 15 then thmConv (Fin.ofNat 8 (fld w 14 12)) t else t)

/-- Effects of the other hub registers. -/
def writeHub (r : Reg) (o : Origin) (i : Nat) (w : Word) (s t : State) : Code × State :=
  match r with
  | .REG_EDIT => regEdit o w t
  | .RST_CTRL => rstCtrl w t
  | .UPD_CTRL => updTake w o t
  | .TEL_STAT => (.ok, { t with handle := { t.handle with telOut := t.handle.telOut && !bit w 1 } })
  | .SKN_CTRL => sknCtrlWrite o w s
  | .SKN_STAT => (.ok, { t with skein := { t.skein with thawed := t.skein.thawed && !bit w 3 } })
  | .TLY_ACK => tlyAckWrite w t
  | .WT_CTRL => (.ok, if bit w 0 then wtApply t else t)
  | .TLY_SEAL => if bit w 0 then sealStart t else (.ok, t)
  | .LSH_CTRL => lshCtrl o w t
  | .LSH_INJ => lshInj w s t
  | .LSH_SRC_CFG => (.ok, srcCfg (Fin.ofNat 256 i) w t)
  | .LSH_SRC_STAT => if bit w 0 then clearLatched (Fin.ofNat 256 i) t else (.ok, t)
  | .THM_CTRL => thmCtrl o w s t
  | .PWR_CTRL => pwrCtrl w t
  | .LID_CTRL => lidCtrl w t
  | .LID_PW => (.ok, { t with lid := { t.lid with pw := vset t.lid.pw (Fin.ofNat 8 i) w } })
  | _ => (.ok, t)

/-- A START of a stopped strand by the host or the Handle re-enables the transmitters that a band die muted by itself,
once its lane and its broadcast pair stand again (01_architecture.md R33, 16_lashing.md R515; a START of a running strand changes nothing by R104). PAEN rises with the DAC input
held at zero for 8 µs (08_radio_control.md R300). -/
def reenable (o : Origin) (k : DieIx) (l : List StrandIx) (s : State) : State :=
  if (originLetter o = Letter.h ∨ originLetter o = Letter.n) ∧ !(s.dies[k]).selfMute ∧ !(s.dies[k]).bcastBroken then
    s.each l fun i s => match gatePort s k i with
      | some p => s.modPort k p fun q =>
          { q with selfMuted := false, zeroUntil := if q.selfMuted then s.time.ft + 8000 else q.zeroUntil }
      | none => s
  else s

/-- The strands that an accepted write starts. -/
def startedBy (x : RegKey) (w : Word) : List StrandIx :=
  match x.reg with
  | .STR_CTRL => if bit w 0 then [Fin.ofNat 16 x.j] else []
  | .STR_GROUP => maskStrands (fld w 15 0)
  | _ => []

/-- What a write that no rule refuses does. -/
def regEffect (o : Origin) (x : RegKey) (w : Word) (s : State) : Code × State :=
  let t := storeRw x w s
  let k : DieIx := Fin.ofNat 7 x.i
  match x.reg.chapter with
  | .riddle | .strand =>
    let r := writeStrand x.reg k x.j w s t
    if r.1 = .ok then (.ok, reenable o k ((startedBy x w).filter fun i => (s.strand k i).st == .stopped) r.2) else r
  | .canc => (.ok, writeCanc x.reg k x.j x.l w t)
  | .prot => writeProt x.reg k x.j w s t
  | .prog | .radio => writeProg x.reg o k x.j w t
  | .coil => writeCoil x.reg o x.i w s t
  | .plait => writePlait x.reg x.i w s t
  | .wale => writeWale x.reg x.i w t
  | .link | .handle | .log | .lash | .guard => writeHub x.reg o x.i w s t

/-! ## What Tally records (R92, R128, R171, R213, R251, R326, R367, R394, R429, R480, R510, R526, R539, R558, R576,
R615) -/

/-- A write that R104 lets change nothing. -/
def strIdle (k : DieIx) (i : StrandIx) (start stop : Bool) (s : State) : Bool :=
  (start && upState s k i) || (stop && !start && (s.strand k i).st == .stopped)

/-- Whether a write to a band-die register is recorded. -/
def tallyDie (r : Reg) (k : DieIx) (j : Nat) (w : Word) (s : State) : Bool :=
  let i : StrandIx := Fin.ofNat 16 j
  match r with
  | .CONV_CFG | .RDL_CFG | .DELAY_CFG | .SWAP_REQ | .SNAP_CFG | .RDL_SYNC | .RDL_GROUP_SWAP | .STR_PLACE | .GAIN_CFG
  | .ALC_CFG | .METER_CFG | .CNC_CTRL | .CNC_ADAPT | .SOUND_CFG | .PLACE_CFG | .MARGIN_CFG | .TAP | .RX_CAL | .GRD_CFG
  | .GRD_RECOV | .UG_CFG | .BO_CFG | .PRES_CFG | .PRES_ID | .TDD_CFG | .TDD_SLOTS | .TDD_SYNC | .TDD_ADV | .LEAN_CFG
  | .LEAN_MASK | .PRC_CTRL | .TUNE_CFG | .TUNE_SEQ | .DIV_CFG | .RFFE_CFG | .RFFE_CMD => true
  | .NCO_CTRL => bit w 0 && !(s.rid k i).pending
  | .STR_CTRL => !strIdle k i (bit w 0) (bit w 1) s
  | .STR_GROUP =>
    let a := maskStrands (fld w 15 0)
    let b := maskStrands (fld w 31 16)
    !((a.all fun i => strIdle k i true false s) && (b.all fun i => strIdle k i false true s)) || (a.isEmpty && b.isEmpty)
  | .PRG_PCTRL => bit w 0
  | _ => false

/-- Whether a write to a hub register is recorded when it completes. -/
def tallyHub (r : Reg) (i : Nat) (w : Word) (s : State) : Bool :=
  match r with
  | .COEX_CFG | .COEX_PORTS | .COIL_CTRL | .COIL_CFG | .COIL_SENSE | .SP_MIN | .SP_MAX | .SLEW_UP | .SLEW_DN | .FIXED_SP
  | .SP_HOST | .BANK_HYST | .DUTY_LIM | .NOTCH_B0 | .NOTCH_B1 | .NOTCH_B2 | .NOTCH_A1 | .NOTCH_A2 | .PLAUS_CFG
  | .PLAUS_MG | .PLAUS_MO | .PLAUS_LIM | .SNS_GAIN | .SNS_OFS | .PAIR_CTRL | .PAIR_PHASE | .PAIR_DT | .PAIR_TRIP
  | .PL_CMD | .PL_TRIP_CFG | .PL_TRIP_POL | .WALE_CTRL | .BASKET_ID | .PORT_CTRL | .ROUTE | .EP_CFG | .EP_PLAY | .EP_CTRL
  | .PIN_SER_LO | .PIN_SER_HI | .PIN_ADDR | .CANE_CTRL | .RST_CTRL | .TEL_CFG | .LSH_CTRL | .LSH_INJ | .LSH_SRC_CFG
  | .THM_CTRL | .THM_THR | .PWR_CTRL | .WAKE_CFG | .LID_CTRL | .LID_CFG => true
  | .REG_EDIT => !bit w 1
  | .COIL_PCTRL | .ROUTE_CMD | .WT_CTRL | .TLY_SEAL => bit w 0
  | .LSH_SRC_STAT => bit w 0 && (s.lash.srcs[(Fin.ofNat 256 i : Fin 256)]).latched
  | _ => false

/-- Whether a write is recorded when it completes. -/
def tallyNow (x : RegKey) (w : Word) (s : State) : Bool :=
  match x.reg.chapter with
  | .riddle | .strand | .canc | .prot | .prog | .radio => tallyDie x.reg (Fin.ofNat 7 x.i) x.j w s
  | _ => tallyHub x.reg x.i w s

/-- Whether a write reserves a record that a later end makes, or that its own operation makes (R39). -/
def tallyLater (x : RegKey) (w : Word) (s : State) : Bool :=
  match x.reg with
  | .PRG_CMD | .COIL_CMD | .UPD_CTRL => true
  | .REG_EDIT => bit w 1
  | .SKN_CTRL => bit w 1 || fld w 31 16 != fld (s.cfg0 .SKN_CTRL) 31 16
  | _ => false

/-- Records reserved by commands in progress. -/
def reservedNow (s : State) : Nat :=
  (allDies.filter fun k => (s.dies[k]).loader.busy.isSome).length + b2n s.coilLdr.busy.isSome +
    b2n s.handle.upd.busy.isSome + b2n s.reg.busy.isSome + s.skein.clearWait.length

/-- Whether a record can be reserved beside them (R39, R505, R507). -/
def canReserve (s : State) : Bool :=
  decide (nearStaged s.tally + reservedNow s < 512) &&
    decide (unharvested s.tally + s.tally.staged.length + reservedNow s < 130048)

/-- The coefficient words of a strand in rising address order (R171). -/
def coefBytes (s : State) (k : DieIx) (i : StrandIx) : List Byte :=
  (s.canc k i).slots.toList.flatMap fun t => leBytes 4 (enc 24 t.w.re) ++ leBytes 4 (enc 24 t.w.im)

/-- The staged parameter words of a strand or a coil, as an APPLY records them (R251, R367). -/
def paramBytes (l : List Word) : List Byte := l.flatMap wordBytes

/-- OLD and NEW of the record of a write: the register's value before and after, or what its rule names (R92, R171,
R251, R367, R394). `t` is the state after the write. -/
def tallyValues (x : RegKey) (w : Word) (s t : State) : Word × Word :=
  let k : DieIx := Fin.ofNat 7 x.i
  let i : StrandIx := Fin.ofNat 16 x.j
  let old := regValue x s
  let new := writtenValue x.reg old w
  let crc := fun (l : List Byte) => BitVec.ofNat 32 (crc32 l)
  match x.reg with
  | .SWAP_REQ => (old, crc (bankBytes s k i (Fin.ofNat 2 (fld w 8 8))))
  | .RDL_GROUP_SWAP =>
    (old, crc ((maskStrands (fld w 15 0)).flatMap fun i => bankBytes s k i (Fin.ofNat 2 (fld w 24 24))))
  | .CNC_CTRL => (old, if bit old 1 && !bit w 1 then crc (coefBytes t k i) else new)
  | .PRG_PCTRL => (old, crc (paramBytes ((List.range 8).map fun n => s.cfg3 .PRG_PARAM k i n)))
  | .COIL_PCTRL => (old, new)
  | .COIL_CTRL => (old, if bit w 0 then crc (coilBytes t (Fin.ofNat 24 x.i)) else new)
  | .PL_CMD => (mkWord [(17, 16, fld w 1 0), (15, 0, fld (s.cfg0 .PL_MASK1) 15 0)], s.cfg0 .PL_MASK0)
  | .WT_CTRL => (old, regValue x t)
  | _ => (old, new)

end Sys2Proof.Machine
end

