-- ==== Sys2Proof/Machine/Access.lean ====
section
/-!
DEFINITION. Machine/Access.lean: one register access of any origin: the checks of 20_address_map.md R582 in their
order, then the read or the write, its Tally record and its completion.
-/
namespace Sys2Proof.Machine
open Sys2Proof

/-- Whether an image of a slot with bound strands holds a coefficient row (07_withy_reference.md; R249). -/
def coefBound (s : State) (k : DieIx) (row : Nat) : Bool :=
  (List.finRange 16).any fun (n : Fin 16) => match (s.dies[k]).slots[n] with
    | some g => decide (g.cbase ≤ row ∧ row < g.cbase + g.rows) && !(boundTo s k n).isEmpty
    | none => false

/-- The coil that TAB_SEL names, none beyond the last. -/
def tabCoil (s : State) : Option CoilIx :=
  let c := fld (s.cfg0 .TAB_SEL) 4 0
  if h : c < 24 then some ⟨c, h⟩ else none

/-- Whether a word of the table window belongs to a table of the coil's class (09_coil_engine.md R327). -/
def tabHas (c : CoilIx) (off : Nat) : Bool := xtabOk (coilClass c) (off / 0x400)

/-- Whether an offset of the MRAM window lies in the boot block (14_handle_boot_update.md R466). -/
def inBootBlock (off : Nat) : Bool := inWin off 0x01E10000 0x200

/-- The word that a read returns. -/
def placeRead (p : Place) (s : State) : Word :=
  match p with
  | .reg x => regValue x s
  | .bank k off => readWord .bank (k.val * 2 ^ 24 + off) s
  | .progMem k off => readWord .prog (k.val * 2 ^ 24 + off) s
  | .loadBuf k off => readWord .load (k.val * 2 ^ 24 + off) s
  | .coefMem k off => readWord .coef (k.val * 2 ^ 24 + off) s
  | .coilTab off => match tabCoil s with
    | some c => if tabHas c off then readWord .coilTab (c.val * 2 ^ 16 + off) s else 0
    | none => 0
  | .coilTrace off => traceWord s (off / 4)
  | .coilLoad off => readWord .coilLoad off s
  | .regCopy off => readWord .mram (copyBase s.reg.actB + off) s
  | .staging off => if s.reg.staged then readWord .staging off s else 0
  | .chunk off => readWord .chunk off s
  | .mram off => if inBootBlock off then BitVec.ofNat 32 (Config.free s.freeCtr) else readWord .mram off s

/-- What a read leaves (00_scope.md R14, R19). -/
def placeAfter (p : Place) (s : State) : State :=
  match p with
  | .reg x => afterRead x s
  | .mram off => if inBootBlock off then s.tick else s
  | _ => s

/-- The target's own rules for a write. -/
def placeRule (p : Place) (w : Word) (s : State) : Code :=
  match p with
  | .reg x => if writable x.reg then regRule x w s else .ok
  | .bank k off => busyIf (bankInUse (s.rid k (Fin.ofNat 16 (off / 0x800))) (Fin.ofNat 2 (off / 0x400)))
  | .loadBuf k _ => busyIf (s.dies[k]).loader.busy.isSome
  | .coefMem k off => busyIf (coefBound s k (off / 64))
  | .coilTab _ => match tabCoil s with | some c => busyIf (coilOn s c) | none => .ok
  | .coilLoad _ => busyIf s.coilLdr.busy.isSome
  | .staging _ => busyIf (!s.reg.staged || s.reg.busy.isSome)
  | .chunk _ => busyIf s.handle.upd.busy.isSome
  | .progMem _ _ | .coilTrace _ | .regCopy _ | .mram _ => .ok

/-- The effect of a write that no rule refuses, and the completion that its own operation gives. -/
def placeWrite (o : Origin) (p : Place) (w : Word) (s : State) : Code × State :=
  match p with
  | .reg x => if writable x.reg then regEffect o x w s else (.ok, s)
  | .bank k off =>
    (.ok, bankMend k (Fin.ofNat 16 (off / 0x800)) (Fin.ofNat 2 (off / 0x400)) (off % 0x400 / 4)
      (writeWord .bank (k.val * 2 ^ 24 + off) w s))
  | .loadBuf k off => (.ok, writeWord .load (k.val * 2 ^ 24 + off) w s)
  | .coefMem k off => (.ok, writeWord .coef (k.val * 2 ^ 24 + off) w s)
  | .coilTab off => match tabCoil s with
    | some c => (.ok, if tabHas c off then writeWord .coilTab (c.val * 2 ^ 16 + off) w s else s)
    | none => (.ok, s)
  | .coilLoad off => (.ok, writeWord .coilLoad off w s)
  | .staging off => (.ok, writeWord .staging off w s)
  | .chunk off => (.ok, writeWord .chunk off w s)
  | .progMem _ _ | .coilTrace _ | .regCopy _ | .mram _ => (.ok, s)

/-- The band die of a place. -/
def placeDie (a : Nat) : Option DieIx := dieOfAddr a

/-- Check 1: what lies at the address of a whole aligned word, on a fitted die (R5, R11, R577 to R579). -/
def placeAt (bytes : Nat) (a : Word) (s : State) : Option Place :=
  if bytes ≠ 4 ∨ a.toNat % 4 ≠ 0 then none
  else match dieOfAddr a.toNat with
    | some k => if s.isFitted k then addrDecode a.toNat else none
    | none => addrDecode a.toNat

/-- Check 3: an LK field touched while the Lid is Closed (R15). -/
def lidRefuses (p : Place) (w : Word) (s : State) : Bool :=
  s.lid.st == .closed && match p with
    | .reg x => touchesLk x.reg (regValue x s) w || lowersSev x (regValue x s) w
    | .staging _ => placeRead p s != w
    | _ => false

/-- Whether a write is recorded when it completes, and whether it reserves a record at all (R39). -/
def recordedNow (p : Place) (w : Word) (s : State) : Bool :=
  match p with | .reg x => tallyNow x w s | _ => false
def recorded (p : Place) (w : Word) (s : State) : Bool :=
  match p with | .reg x => tallyNow x w s || tallyLater x w s | _ => false

/-- What is served in RECOVERY: the identity block and the registers of an update, and the reset that ends it
(14_handle_boot_update.md R471, R474). -/
def inRecovery (a : Nat) (p : Place) : Bool :=
  match p with
  | .chunk _ => true
  | .reg ⟨.UPD_CTRL, _, _, _⟩ | .reg ⟨.UPD_STAT, _, _, _⟩ | .reg ⟨.UPD_SIZE, _, _, _⟩ | .reg ⟨.UPD_DIG, _, _, _⟩
  | .reg ⟨.RST_CTRL, _, _, _⟩ => true
  | _ => hubBlock a == 0xE

/-- Check 5: the state of the target (R32, R40, R41, R471, R555, R580). -/
def targetCode (o : Origin) (write : Bool) (a : Nat) (p : Place) (s : State) : Code :=
  if s.pwr.inReset ∨ s.pwr.st = .foot then .busy
  else if s.handle.recovery ∧ !inRecovery a p then .busy
  else if write ∧ s.pwr.failLow ∧ (originLetter o = Letter.h ∨ originLetter o = Letter.f) then .busy
  else match placeDie a with
    | none => .ok
    | some k =>
      if !(s.dies[k]).powered ∨ !(s.dies[k]).released then .busy
      else if (s.dies[k]).laneLost then .timeout
      else if write ∧ s.held then .busy
      else .ok

/-- A read of an origin: the completion, the word, and the state after it. -/
def readAt (o : Origin) (bytes : Nat) (a : Word) (s : State) : Code × Word × State :=
  match placeAt bytes a s with
  | none => (.noSuchAddress, 0, s)
  | some p =>
    if !mayRead (originLetter o) p then (.accessDenied, 0, denyAccess o a s)
    else match targetCode o false a.toNat p s with
      | .ok => (.ok, placeRead p s, placeAfter p s)
      | c => (c, 0, s)

/-- The record of an accepted write to a register. -/
def tallyWrite (o : Origin) (a : Word) (p : Place) (w : Word) (s t : State) : State :=
  match p with
  | .reg x => let v := tallyValues x w s t; tallyPut o a.toNat v.1 v.2 t
  | _ => t

/-- A write that passed checks 1 to 5. -/
def writeServed (o : Origin) (a : Word) (p : Place) (w : Word) (s : State) : Code × State :=
  match placeRule p w s with
  | .ok =>
    let r := placeWrite o p w s
    if r.1 = .ok ∧ recordedNow p w s then (.ok, tallyWrite o a p w s r.2) else r
  | c => (c, s)

/-- A START of a STOPPED coil that check 1 of R361 refuses is recorded as refused, with START_FAULT as it stands (R368). -/
def startRefused (p : Place) (w : Word) (s : State) : State :=
  match p with
  | .reg ⟨.COIL_CTRL, i, _, _⟩ =>
    let q := s.coils[(Fin.ofNat 24 i : CoilIx)]
    if bit w 0 && q.st == .stopped then skeinEvent (locOf 0 i) 5 5 q.startFault s else s
  | _ => s

/-- A write of an origin. -/
def writeAt (o : Origin) (bytes : Nat) (a w : Word) (s : State) : Code × State :=
  match placeAt bytes a s with
  | none => (.noSuchAddress, s)
  | some p =>
    if !mayWrite (originLetter o) a.toNat p then (.accessDenied, startRefused p w (denyAccess o a s))
    else if lidRefuses p w s then (.lidClosed, s)
    else if recorded p w s ∧ !canReserve s then (.auditFull, startRefused p w s)
    else match targetCode o true a.toNat p s with
      | .ok => writeServed o a p w s
      | c => (c, s)

/-- A register access as a command: its completion goes to `done`. -/
def access (o : Origin) (write : Bool) (bytes : Nat) (a w : Word) (s : State) : State :=
  if write then
    let r := writeAt o bytes a w s
    (leanReport r.2).finish r.1 0
  else
    let r := readAt o bytes a s
    r.2.2.finish r.1 r.2.1

/-- A write to a register instance by its name. -/
def writeReg (o : Origin) (x : RegKey) (w : Word) (s : State) : State :=
  access o true 4 (BitVec.ofNat 32 (keyAddr x)) w s

/-- The RW fields of a register as they stand, so that a command can be written beside them. -/
def rwValue (x : RegKey) (s : State) : Word :=
  regValue x s &&& BitVec.ofNat 32 (fieldMask x.reg fun (f : Field) => f.acc == .rw)

/-- A write that sets and clears bits beside the RW fields as they stand. -/
def writeBits (o : Origin) (x : RegKey) (set clr : Word) (s : State) : State :=
  writeReg o x ((rwValue x s &&& ~~~clr) ||| set) s

/-- A read of one. -/
def readReg (o : Origin) (x : RegKey) (s : State) : State :=
  access o false 4 (BitVec.ofNat 32 (keyAddr x)) 0 s

end Sys2Proof.Machine
end

