-- ==== Sys2Proof/Machine/AccessCmds.lean ====
section
/-!
DEFINITION. Machine/AccessCmds.lean: the commands of register accesses and of the stake link
(20_address_map.md, 01_architecture.md R31 to R33, R47).
-/
namespace Sys2Proof.Machine
open Sys2Proof

/-- REGISTER_WRITE (20_address_map.md R582). -/
def execRegisterWrite (o : Origin) (bytes : Nat) (addr w : Word) (s : State) : Host.Outcome State Fault Refusal :=
  .next (access o true bytes addr w s)

/-- FT_LO_READ (11_wale_fabric.md R420). -/
def execFtLoRead (o : Origin) (s : State) : Host.Outcome State Fault Refusal := .next (readReg o ⟨.FT_LO, 0, 0, 0⟩ s)

/-- WT_LO_READ (15_skein_tally.md R483). -/
def execWtLoRead (o : Origin) (s : State) : Host.Outcome State Fault Refusal := .next (readReg o ⟨.WT_LO, 0, 0, 0⟩ s)

/-- CONTROL_PACKET_RETRY (R32): at most four retries. -/
def execControlPacketRetry (k : DieIx) (s : State) : Host.Outcome State Fault Refusal :=
  .next (s.modDie k fun d => { d with retries := satInc 4 d.retries })

/-- The control lane of a die is declared lost (R32): the Lashing source of its stake link rises. -/
def laneLost (k : DieIx) (s : State) : State :=
  if (s.dies[k]).powered ∧ !(s.dies[k]).laneLost then
    raiseHold (srcOfDie k 0) 0 (s.modDie k fun d => { d with laneLost := true, retries := 0 })
  else s

/-- CONTROL_LANE_LOST (R32). -/
def execControlLaneLost (k : DieIx) (s : State) : Host.Outcome State Fault Refusal := .next (laneLost k s)

/-- BAND_DIE_SELF_MUTE (R33): every transmitter on the die's ports mutes. -/
def execBandDieSelfMute (k : DieIx) (s : State) : Host.Outcome State Fault Refusal :=
  .next (s.modDie k fun d => { d with selfMute := true, ports := d.ports.map fun q => { q with selfMuted := true } })

/-- CONTROL_LANE_REESTABLISHED (R33): the mutes stay until the strands are enabled again. -/
def execControlLaneReestablished (k : DieIx) (s : State) : Host.Outcome State Fault Refusal :=
  .next (lower (srcOfDie k 0) (s.modDie k fun d => { d with laneLost := false, selfMute := false, retries := 0 }))

/-- BAND_DIE_RELEASE (R47; 18_clocks_power.md R552). -/
def execBandDieRelease (k : DieIx) (s : State) : Host.Outcome State Fault Refusal := .next (leanReport (dieRelease k s))

end Sys2Proof.Machine
end

