-- ==== Sys2Proof/Machine/CancelCmds.lean ====
section
/-!
DEFINITION. Machine/CancelCmds.lean: the commands of the feedback cancellers and the oscillation guard
(04_feedback_cancellation.md).
-/
namespace Sys2Proof.Machine
open Sys2Proof

/-- BLOCK_AT_POINT_IN (R134, R151, R176, R180): the samples, the ADC overloads and the references of the block. -/
def execBlockAtPointIn (k : DieIx) (i : StrandIx) (valid : Bool) (xs : List Cx) (ovr : Nat) (r0 r1 : List Cx)
    (refsValid : Bool) (s : State) : Host.Outcome State Fault Refusal :=
  .next (leanReport (tunerWatch k (blockAtIn k i valid xs ovr r0 r1 refsValid s)))

/-- PROBE_PERIOD_END (R141). -/
def execProbePeriodEnd (k : DieIx) (i : StrandIx) (_chips _pref _c0 _c1 _floor : Computed) (s : State) :
    Host.Outcome State Fault Refusal :=
  .next (keepPeriod k i (probePeriodEnd k i s))

/-- ESTIMATE_LAPSE (R144). -/
def execEstimateLapse (k : DieIx) (i : StrandIx) (s : State) : Host.Outcome State Fault Refusal :=
  .next (estimateLapse k i s)

/-- SOUND_REQ (R143): a write of SOUND_REQ to CNC_CTRL. -/
def execSoundReq (o : Origin) (k : DieIx) (i : StrandIx) (s : State) : Host.Outcome State Fault Refusal :=
  .next (writeBits o ⟨.CNC_CTRL, k.val, i.val, 0⟩ 0x10 0 s)

/-- PLACE_REQ (R150): a write of PLACE_REQ to CNC_CTRL. -/
def execPlaceReq (o : Origin) (k : DieIx) (i : StrandIx) (s : State) : Host.Outcome State Fault Refusal :=
  .next (writeBits o ⟨.CNC_CTRL, k.val, i.val, 0⟩ 0x08 0 s)

/-- PLACEMENT_COMMIT (R148). -/
def execPlacementCommit (k : DieIx) (i : StrandIx) (s : State) : Host.Outcome State Fault Refusal :=
  .next (placementCommit k i s)

/-- POLYNOMIAL_CHANGE (R136). -/
def execPolynomialChange (k : DieIx) (i : StrandIx) (s : State) : Host.Outcome State Fault Refusal :=
  .next (polynomialChange k i s)

/-- GUARD_WINDOW_END (R162). -/
def execGuardWindowEnd (k : DieIx) (i : StrandIx) (s : State) : Host.Outcome State Fault Refusal :=
  .next (guardWindowEnd k i s)

/-- CHECKPOINT_RESTORE (R164). -/
def execCheckpointRestore (k : DieIx) (i : StrandIx) (s : State) : Host.Outcome State Fault Refusal :=
  .next (checkpointRestore k i s)

/-- GUARD_HOLD_END (R165). -/
def execGuardHoldEnd (k : DieIx) (i : StrandIx) (s : State) : Host.Outcome State Fault Refusal :=
  .next (guardHoldEnd k i s)

/-- WIN_TRIPS_EXPIRY (R166). -/
def execWinTripsExpiry (k : DieIx) (i : StrandIx) (s : State) : Host.Outcome State Fault Refusal :=
  .next (winTripsExpire k i s)

end Sys2Proof.Machine
end

