-- ==== Sys2Proof/Machine/FabricOps.lean ====
section
/-!
DEFINITION. Machine/FabricOps.lean: requests that reach this device over the wale fabric, responses, and the
transactions that it originates (11_wale_fabric.md R402 to R404; 12_guarantees.md R433 to R435).
-/
namespace Sys2Proof.Machine
open Sys2Proof

/-- The frame of a header. -/
def frameOf (h : WaleHdr) (resp : Bool) (payload : List Byte) : Frame :=
  { resp := resp, dst := h.dst.val, src := h.src.val, host := h.host, hops := h.hops.val, dstEp := h.dstEp.val,
    srcEp := h.srcEp.val, txn := h.txn.val, payload := payload, from_ := 8 }

/-- A received frame: what the last command sent is forgotten, and the link checks the frame. -/
def frameRx (w : WaleIx) (h : WaleHdr) (resp : Bool) (payload : List Byte) (k : Frame → State → State) (s : State) :
    State :=
  let f := frameOf h resp payload
  linkRx w f h.seq.val (frameFits f h.zeros) (frameOk s w f h.seq.val h.tag) k (clearSent s)

/-- Whether a request claims to act for the host of the root and does not come from the root (R404). -/
def Frame.denied (f : Frame) : Bool := f.host && f.src != 0

/-- A request that this device acts on by itself, by hop or as a neighbour: one that R404 denies is answered with
ACCESS_DENIED. -/
def unlessDenied (work : Frame → State → State) (f : Frame) (s : State) : State :=
  if f.denied then answer f (codeBytes .accessDenied []) s else work f s

/-- The origin of a fabric request (R404). -/
def frameOrigin (f : Frame) : Origin := if f.host then .root (Fin.ofNat 64 f.src) else .fabric (Fin.ofNat 64 f.src)

/-- A request whose target this device is, or may be (R402, R418): one for another device goes on. A broadcast goes on
and is served too; it is no transaction, so it has no response. HOST = 1 from a device that is not the root is answered
with ACCESS_DENIED (R404). -/
def targetRx (work : Frame → State → List Byte × State) (f : Frame) (s : State) : State :=
  if f.dst = 63 then
    let s := forwardTree f s
    if f.denied then answer f (codeBytes .accessDenied []) s else giveCredit f.from_ false (work f s).2
  else if f.dst = s.wale.addr then
    once f (fun s =>
      if f.denied then reply f (codeBytes .accessDenied []) s
      else let r := work f s; reply f r.1 r.2) s
  else forward f s

/-- OP 0x01. -/
def fabRead (a : Word) (f : Frame) (s : State) : List Byte × State :=
  let r := readAt (frameOrigin f) 4 a s
  let s := r.2.2.finish r.1 r.2.1
  if r.1 = .ok then (codeBytes .ok (wordBytes r.2.1), s) else (codeBytes r.1 [], s)

/-- OP 0x02. -/
def fabWrite (a w : Word) (f : Frame) (s : State) : List Byte × State :=
  let r := writeAt (frameOrigin f) 4 a w s
  (codeBytes r.1 [], (leanReport r.2).finish r.1 0)

/-- OP 0x03. -/
def fabMessage (data : List Byte) (f : Frame) (s : State) : List Byte × State :=
  (codeBytes .ok [], deliverMessage f.dstEp data s)

/-- The words of a bulk write from an address upwards (13_cane_link.md R449): the code of the first that fails and the
number written before it. A last part shorter than a word is no whole word (00_scope.md R11). -/
def bulkWrite (o : Origin) (a : Nat) : List Byte → Nat → State → Code × Nat × State
  | b0 :: b1 :: b2 :: b3 :: l, n, s =>
    let r := writeAt o 4 (BitVec.ofNat 32 a) (BitVec.ofNat 32 (leNat [b0, b1, b2, b3])) s
    if r.1 = .ok then bulkWrite o (a + 4) l (n + 1) r.2 else (r.1, n, r.2)
  | [], n, s => (.ok, n, s)
  | l, n, s => ((writeAt o l.length (BitVec.ofNat 32 a) 0 s).1, n, s)

/-- OP 0x04. -/
def fabBulk (a : Word) (data : List Byte) (f : Frame) (s : State) : List Byte × State :=
  let r := bulkWrite (frameOrigin f) a.toNat data 0 s
  (codeBytes r.1 [], (leanReport r.2.2).finish r.1 0)

/-! ## The originator (R433) -/

/-- Taking a transaction out of the list. -/
def dropTxn (t : Txn) (s : State) : State := s.modWale fun x => { x with txns := x.txns.filter fun u => u != t }

/-- Changing one in place. -/
def modTxn (t u : Txn) (s : State) : State := s.modWale fun x => { x with txns := x.txns.map fun v => if v = t then u else v }

/-- The response of a Cane tag becomes ready (13_cane_link.md R448, R455). A forwarded bulk write that fails has no
count in the wale response: the count is open. -/
def caneForwarded (tag : Fin 16) (f : Frame) (c : Code) (data : List Byte) (s : State) : State :=
  let put := fun (d : List Byte) (s : State) => { s with cane := { s.cane with
    tags := vmod s.cane.tags tag fun g => { g with ready := some ⟨tag.val, c, g.loc, f.dst, d⟩ } } }
  match field f.payload 0 1 with
  | 1 => put (if c = .ok then data.take 4 else []) s
  | 4 => if c = .ok then put (leBytes 2 ((f.payload.length - 8) / 4)) s else put (leBytes 2 (Config.free s.freeCtr)) s.tick
  | _ => put [] s

/-- The hops of a route by its D_route (11_wale_fabric.md R411). -/
def hopsOf (h : Nat) (half : Bool) (dr : Nat) : Nat := (dr - dRoute h 0 half) / (dRoute h 1 half - dRoute h 0 half)

/-- The device's own requests: an admission and a probe act on their answer. -/
def deviceTxnEnd (f : Frame) (c : Code) (data : List Byte) (s : State) : State :=
  match field f.payload 0 1 with
  | 0x10 =>
    let half := field f.payload 1 1 == 1
    let dr := field data 1 4
    if c = .ok then admitAnswer f.srcEp (field data 0 1) dr (hopsOf (field f.payload 2 1) half dr) s
    else if c = .timeout then s
    else admitAnswer f.srcEp 4 0 0 s
  | 0x21 =>
    if field f.payload 1 1 ≠ 63 then s
    else if c = .ok then probeAnswer (field data 0 8) (field data 8 1) s
    else probeNext s
  | _ => s

/-- The end of a transaction. -/
def txnEnd (t : Txn) (c : Code) (data : List Byte) (s : State) : State :=
  let s := dropTxn t s
  match t.owner with
  | .cane tag => caneForwarded tag t.f c data s
  | .strand _ _ => s
  | .device => deviceTxnEnd t.f c data s

/-- An attempt has failed: the backoff begins, or after the eighth retry the transaction ends. A request that is sent
once ends there. -/
def attemptFails (t : Txn) (s : State) : State :=
  if !isTransaction t.f then txnEnd t .timeout [] s
  else if 9 ≤ t.attempts then
    txnEnd t .timeout [] (s.modWale fun x => { x with txnTimeout := satInc 0xFFFF x.txnTimeout })
  else modTxn t { t with waiting := true, since := s.time.ft } s

/-- The transaction of a TXN and destination. -/
def findTxn (s : State) (txn dst : Nat) : Option Txn :=
  s.wale.txns.find? fun t => t.f.txn == txn && (t.f.dst == dst || t.f.dst == 63)

/-- 5 ms without a response. -/
def attemptTimeout (txn dst : Nat) (s : State) : State :=
  match findTxn s txn dst with
  | some t => if t.waiting then s else attemptFails t s
  | none => s

/-- The end of a backoff: the request goes out again with the same TXN. -/
def txnRetry (txn dst : Nat) (s : State) : State :=
  match findTxn s txn dst with
  | some t =>
    if t.waiting then
      let u := { t with waiting := false, attempts := t.attempts + 1, since := s.time.ft }
      let s := modTxn t u (s.modWale fun x => { x with retries := satInc 0xFFFF x.retries })
      let r := sendFrame t.f s
      if r.1 then r.2 else attemptFails u s
    else s
  | none => s

/-- A response frame (R418, R433): it ends its transaction here or goes on. -/
def responseRx (f : Frame) (s : State) : State :=
  if f.dst ≠ s.wale.addr then forward f (admitPass f s)
  else
    let s := giveCredit f.from_ true s
    match findTxn s f.txn f.src with
    | none => s
    | some t =>
      match codeOf (field f.payload 0 1) with
      | .timeout => if t.waiting then s else attemptFails t s
      | c => txnEnd t c (f.payload.drop 1) s

end Sys2Proof.Machine
end

