-- ==== Sys2Proof/Machine/CaneOps.lean ====
section
/-!
DEFINITION. Machine/CaneOps.lean: the Cane host link: its states, its frames, the tag table, requests, quiet and event
streams (13_cane_link.md).
-/
namespace Sys2Proof.Machine
open Sys2Proof

/-- Changing the link, and one tag. -/
def State.modCane (s : State) (f : Cane → Cane) : State := { s with cane := f s.cane }
def State.modTag (s : State) (t : Fin 16) (f : CaneTag → CaneTag) : State :=
  s.modCane fun c => { c with tags := vmod c.tags t f }

/-- Forgetting the frames of the last command. -/
def caneClear (s : State) : State := clearSent (s.modCane fun c => { c with sent := [] })

/-- Whether the hub die is powered, so that the link can run. -/
def hubOn (s : State) : Bool := !s.pwr.inReset && s.pwr.st != .foot

/-! ## Sending (R446) -/

/-- Sending a frame of a TYPE with its TAG, byte 1, byte 2 and payload. -/
def caneSend (ty tag op b2 : Nat) (payload : List Byte) (s : State) : State :=
  let h := [BitVec.ofNat 8 (ty * 16 + tag), BitVec.ofNat 8 op, BitVec.ofNat 8 b2, 0] ++ leBytes 2 payload.length ++
    leBytes 2 s.cane.seqTx
  let l := h ++ payload
  s.modCane fun c =>
    { c with sent := c.sent ++ [l ++ leBytes 4 (crc32 l)], seqTx := (c.seqTx + 1) % 65536, idle := s.time.ft }

/-- A response frame. -/
def sendResp (r : CaneResp) (s : State) : State :=
  caneSend 2 r.tag r.code.num (b2n r.loc * 128 + r.src % 64) r.data s

/-- A response for the transmit queue of 16 (R455): it leaves at once while the link is UP. -/
def caneQueue (r : CaneResp) (s : State) : State :=
  if s.cane.st = .up then sendResp r s
  else if s.cane.txQ.length < 16 then s.modCane fun c => { c with txQ := c.txQ ++ [r] }
  else s.modCane fun c => { c with waitQ := c.waitQ ++ [(s.time.ft, r)] }

/-- A link-control frame HELLO. -/
def sendHello (s : State) : State :=
  let seen := s.cane.helloSeen
  let s := caneSend 4 0 1 0 [1, 16, BitVec.ofNat 8 (b2n seen), 0, 0, 0, 0, 0] s
  s.modCane fun c => { c with helloSent := c.helloSent || seen }

/-! ## States (R452 to R454) -/

/-- A change of state, with what UP means for the choice of the root (11_wale_fabric.md R415). -/
def caneMove (t : CaneState) (s : State) : State :=
  let was := s.cane.st
  let s := s.modCane fun c => { c with st := t, quietSent := false, quietAsked := false }
  if (was == .up) == (t == .up) then s else caneViewChanged s

/-- Entry to UP: frame numbers restart, and what waited leaves. -/
def caneUp (s : State) : State :=
  if s.cane.st = .hello ∧ s.cane.helloBoth ∧ s.cane.helloSent then
    let s := caneMove .up (s.modCane fun c => { c with seqTx := 0, seqRx := 0, idle := s.time.ft })
    let l := s.cane.txQ ++ s.cane.waitQ.map fun (x : Nat × CaneResp) => x.2
    s.each l sendResp |>.modCane fun c => { c with txQ := [], waitQ := [] }
  else s

/-- Entry to ALIGN. -/
def caneAlign (s : State) : State := caneMove .align (s.modCane fun c => { c with since := s.time.ft })

/-- A host nudge that the foot domain detects (R452; 18_clocks_power.md R551). -/
def caneNudge (s : State) : State :=
  if s.pwr.inReset then s
  else
    let s := s.modCane fun c => { c with nudges := satInc 0xFFFF c.nudges }
    wakeNudge (if s.cane.st = .quiet ∧ hubOn s then caneAlign s else s)

/-- Synchronisation: HELLO, and the first HELLO is sent. -/
def caneSync (s : State) : State :=
  if s.cane.st = .align then
    sendHello (caneMove .hello (s.modCane fun c => { c with helloSeen := false, helloSent := false, helloBoth := false }))
  else s

/-- Loss of synchronisation (R452, R454, R615). -/
def caneSyncLoss (s : State) : State :=
  if s.cane.st = .hello ∨ s.cane.st = .up then
    skeinEvent (locOf 0 0) 9 1 0 (caneAlign (s.modCane fun c => { c with syncLoss := satInc 0xFF c.syncLoss }))
  else s

/-- 10 ms after ALIGN without UP (R453). -/
def caneTrainFail (s : State) : State :=
  if s.cane.st = .align ∨ s.cane.st = .hello then
    skeinEvent (locOf 0 0) 9 2 0 (caneMove .quiet (s.modCane fun c => { c with trainFail := satInc 0xFF c.trainFail }))
  else s

/-- The HELLO slot, every 100 µs in HELLO. -/
def caneHelloTimer (s : State) : State := if s.cane.st = .hello then caneUp (sendHello s) else s

/-! ## Received frames (R446, R447, R460) -/

/-- What every good frame does: its SEQ, its event credits, and that something has passed. -/
def caneGood (seq ecredit : Nat) (s : State) : State :=
  let gap := s.cane.st == .up && seq != s.cane.seqRx
  s.modCane fun c => { c with
    gaps := if gap then satInc 0xFF c.gaps else c.gaps, seqRx := (seq + 1) % 65536,
    credits := min 255 (c.credits + ecredit), idle := s.time.ft }

/-- A received HELLO (R452, R454). -/
def caneHello (seen : Bool) (ecredit seq : Nat) (s : State) : State :=
  if s.cane.st = .hello then
    let s := caneGood seq ecredit s
    caneUp (s.modCane fun c => { c with helloSeen := true, helloBoth := c.helloBoth || seen })
  else if s.cane.st = .up then
    let s := skeinEvent (locOf 0 0) 9 3 0 (caneGood seq ecredit s)
    caneMove .hello (s.modCane fun c =>
      { c with credits := 0, helloSeen := true, helloSent := false, helloBoth := seen })
  else s

/-- A frame that is discarded (R444, R446). -/
def caneBad (code : Bool) (s : State) : State :=
  if s.cane.st = .quiet then s
  else s.modCane fun c =>
    if code then { c with codeErr := satInc 0xFFFF c.codeErr } else { c with crcErr := satInc 0xFFFF c.crcErr }

/-! ## Requests (R448 to R451, R455) -/

/-- The response to the request of a tag, made ready. -/
def caneReady (t : Fin 16) (code : Code) (data : List Byte) (s : State) : State :=
  s.modTag t fun g => { g with ready := some ⟨t.val, code, g.loc, s.wale.addr, data⟩ }

/-- Whether the device serves a request itself (R451): a device without an address serves only LOCAL ones. -/
def caneLocal (s : State) (h : CaneHdr) : Bool := h.loc || (h.dst.val == s.wale.addr && s.wale.addr != 63)

/-- A request under the tag table (R455): a new one makes its tag BUSY and is carried out. -/
def caneRequest (h : CaneHdr) (work : State → State) (s : State) : State :=
  let s := caneClear s
  if s.cane.st ≠ .up then s
  else
    let s := caneGood h.seq.val h.ecredit.val s
    let s := s.modCane fun c => { c with quietSent := false, quietAsked := false }
    let new := fun (s : State) => work (s.modTag h.tag fun g => ⟨.busy, (g.n + 1) % 4096, h.loc, none⟩)
    match s.cane.tags[h.tag].st with
    | .busy =>
      if h.retry then s.modCane fun c => { c with dups := satInc 0xFF c.dups }
      else s.modCane fun c => { c with tagErr := satInc 0xFF c.tagErr }
    | .done r => if h.retry then caneQueue r s else new s
    | .free => new s

/-- Forwarding a request as a wale transaction (R451). -/
def caneForward (h : CaneHdr) (payload : List Byte) (s : State) : State :=
  if h.dst.val = 63 ∨ 8 ≤ s.wale.routes[h.dst] then caneReady h.tag .noSuchAddress [] s
  else
    let n := (s.cane.tags[h.tag]).n
    let f : Frame :=
      { resp := false, dst := h.dst.val, src := s.wale.addr, host := isRoot s, hops := 63, dstEp := 0, srcEp := 0,
        txn := (h.tag.val + 16 * n) % 65536, payload := payload, from_ := 8 }
    startTxn f (.cane h.tag) s

/-- OP 0x01. -/
def caneRead (h : CaneHdr) (a : Word) (s : State) : State :=
  caneRequest h (fun s =>
    if caneLocal s h then
      let r := readAt .host 4 a s
      caneReady h.tag r.1 (if r.1 = .ok then wordBytes r.2.1 else []) (r.2.2.finish r.1 r.2.1)
    else caneForward h ([1, 0, 0, 0] ++ wordBytes a) s) s

/-- OP 0x02. -/
def caneWrite (h : CaneHdr) (a w : Word) (s : State) : State :=
  caneRequest h (fun s =>
    if caneLocal s h then
      let r := writeAt .host 4 a w s
      caneReady h.tag r.1 [] ((leanReport r.2).finish r.1 0)
    else caneForward h ([2, 0, 0, 0] ++ wordBytes a ++ wordBytes w) s) s

/-- OP 0x04 (R449): the response always carries the number of words written. -/
def caneBulkWrite (h : CaneHdr) (a : Word) (data : List Byte) (s : State) : State :=
  caneRequest h (fun s =>
    if caneLocal s h then
      let r := bulkWrite .host a.toNat data 0 s
      caneReady h.tag r.1 (leBytes 2 r.2.1) ((leanReport r.2.2).finish r.1 0)
    else caneForward h ([4, 0, 0, 0] ++ wordBytes a ++ data) s) s

/-- The words of a bulk read; it ends at the first failure. -/
def bulkRead (o : Origin) (a : Nat) : Nat → List Byte → State → Code × List Byte × State
  | 0, l, s => (.ok, l, s)
  | n + 1, l, s =>
    let r := readAt o 4 (BitVec.ofNat 32 a) s
    if r.1 = .ok then bulkRead o (a + 4) n (l ++ wordBytes r.2.1) r.2.2 else (r.1, [], r.2.2)

/-- OP 0x05, which reaches this device only. -/
def caneBulkRead (h : CaneHdr) (a : Word) (n : Nat) (s : State) : State :=
  caneRequest h (fun s =>
    if caneLocal s h then
      let r := bulkRead .host a.toNat n [] s
      caneReady h.tag r.1 r.2.1 (r.2.2.finish r.1 0)
    else caneReady h.tag .noSuchAddress [] s) s

/-- A write of WAKE to PWR_CTRL. -/
def wakeAddr : Word := BitVec.ofNat 32 (keyAddr ⟨.PWR_CTRL, 0, 0, 0⟩)

/-- OP 0x06 (R450): an Active device answers at once, any other once the last fitted die is released. -/
def caneWake (h : CaneHdr) (s : State) : State :=
  caneRequest h (fun s =>
    if caneLocal s h then
      if s.pwr.st = .active ∧ s.pwr.transit.isNone then caneReady h.tag .ok [] s
      else
        let r := writeAt .host 4 wakeAddr 2 s
        let s := r.2.finish r.1 0
        if r.1 = .ok ∧ ¬(s.pwr.st = .active ∧ s.pwr.transit.isNone) then
          { s with pwr := { s.pwr with wakeTags := h.tag :: s.pwr.wakeTags } }
        else caneReady h.tag r.1 [] s
    else caneForward h ([2, 0, 0, 0] ++ wordBytes wakeAddr ++ wordBytes 2) s) s

/-- A response is ready (R455): its tag becomes DONE, and it enters the transmit queue. -/
def caneRespond (t : Fin 16) (s : State) : State :=
  let s := caneClear s
  match (s.cane.tags[t]).ready with
  | some r => caneQueue r (s.modTag t fun g => { g with st := .done r, ready := none })
  | none => s

/-- A response that has waited 1 ms is discarded (12_guarantees.md R432; R463); its tag keeps it. -/
def caneDrop (t : Fin 16) (s : State) : State :=
  let is_ := fun (r : CaneResp) => r.tag == t.val
  let count := fun (s : State) => grtSet 3 (s.modWale fun x => { x with drainDrop := satInc 0xFF x.drainDrop })
  if s.cane.waitQ.any fun (x : Nat × CaneResp) => is_ x.2 then
    count (s.modCane fun c => { c with waitQ := c.waitQ.filter fun (x : Nat × CaneResp) => !is_ x.2 })
  else if s.cane.txQ.any is_ then
    let s := s.modCane fun c => { c with txQ := c.txQ.filter fun r => !is_ r }
    count (match s.cane.waitQ with
      | x :: l => s.modCane fun c => { c with txQ := c.txQ ++ [x.2], waitQ := l }
      | [] => s)
  else s

/-! ## Quiet (R457, R458) -/

/-- Whether no tag is BUSY and no response waits. -/
def caneIdle (s : State) : Bool := (s.cane.tags.toList.all fun g => g.st != .busy) && s.cane.txQ.isEmpty && s.cane.waitQ.isEmpty

/-- Whether an event waits to be sent (R459). -/
def caneEventWaits (s : State) : Bool := bit (s.cfg0 .CANE_CTRL) 16 && (!s.cane.evtQ.isEmpty || s.cane.evtMissed != 0)

/-- QUIET_AFTER ms idle. -/
def caneQuietAfter (s : State) : State :=
  if s.cane.st = .up ∧ fld (s.cfg0 .CANE_CTRL) 7 0 ≠ 0 ∧ caneIdle s ∧ ¬(caneEventWaits s ∧ 0 < s.cane.credits) ∧
      !s.cane.quietSent then
    (caneSend 4 0 2 0 [] s).modCane fun c => { c with quietSent := true }
  else s

/-- A QUIET of the GHA-1. -/
def caneQuiet (ecredit seq : Nat) (s : State) : State :=
  if s.cane.st = .up then (caneGood seq ecredit s).modCane fun c => { c with quietSent := false, quietAsked := true } else s

/-- A QUIET_ACK: after a QUIET that stands, the link enters QUIET. -/
def caneQuietAck (ecredit seq : Nat) (s : State) : State :=
  if s.cane.st = .up then
    let s := caneGood seq ecredit s
    if s.cane.quietSent then caneMove .quiet s else s
  else s

/-- The device's QUIET_ACK, once no tag is BUSY and the queue is empty. -/
def caneQuietAckSend (s : State) : State :=
  if s.cane.st = .up ∧ s.cane.quietAsked ∧ caneIdle s then caneMove .quiet (caneSend 4 0 3 0 [] s) else s

/-! ## Event streams (R459 to R461) -/

/-- An event frame, which spends one credit: the count of lost records first, then 1 to 8 records. -/
def caneEvent (s : State) : State :=
  if s.cane.st = .up ∧ bit (s.cfg0 .CANE_CTRL) 16 ∧ 0 < s.cane.credits ∧ caneEventWaits s then
    let c := s.cane
    if c.evtMissed ≠ 0 then
      (caneSend 3 0 2 (s.wale.addr % 64) (leBytes 4 c.evtMissed) s).modCane fun c =>
        { c with credits := c.credits - 1, evtMissed := 0 }
    else
      let l := c.evtQ.take 8
      (caneSend 3 0 1 (s.wale.addr % 64) (l.flatMap skeinBytes) s).modCane fun c =>
        { c with credits := c.credits - 1, evtQ := c.evtQ.drop 8, evtSent := satAdd 0xFFFF l.length c.evtSent }
  else s

/-- The device's own nudge. -/
def caneSelfNudge (s : State) : State :=
  if s.cane.st = .quiet ∧ hubOn s ∧ caneEventWaits s ∧ 0 < s.cane.credits then caneAlign s else s

end Sys2Proof.Machine
end

