-- ==== Sys2Proof/Machine/CaneCmds.lean ====
section
/-!
DEFINITION. Machine/CaneCmds.lean: the commands of the Cane host link (13_cane_link.md).
-/
namespace Sys2Proof.Machine
open Sys2Proof

/-- CANE_RESPONSE_DROP (12_guarantees.md R432). -/
def execCaneResponseDrop (t : Fin 16) (s : State) : Host.Outcome State Fault Refusal :=
  .next (caneDrop t (caneClear s))

/-- CANE_NUDGE_DETECTED (R452). -/
def execCaneNudgeDetected (s : State) : Host.Outcome State Fault Refusal := .next (caneNudge (caneClear s))

/-- CANE_SYNC_ACQUIRED (R452). -/
def execCaneSyncAcquired (s : State) : Host.Outcome State Fault Refusal := .next (caneSync (caneClear s))

/-- CANE_SYNC_LOSS (R452). -/
def execCaneSyncLoss (s : State) : Host.Outcome State Fault Refusal := .next (caneSyncLoss (caneClear s))

/-- HELLO (R452, R454). -/
def execHello (seen : Bool) (ecredit : Fin 256) (seq : Fin 65536) (s : State) : Host.Outcome State Fault Refusal :=
  .next (caneHello seen ecredit.val seq.val (caneClear s))

/-- HELLO_TIMER (R452). -/
def execHelloTimer (s : State) : Host.Outcome State Fault Refusal := .next (caneHelloTimer (caneClear s))

/-- CANE_TRAIN_FAIL (R453). -/
def execCaneTrainFail (s : State) : Host.Outcome State Fault Refusal := .next (caneTrainFail (caneClear s))

/-- QUIET (R458). -/
def execQuiet (ecredit : Fin 256) (seq : Fin 65536) (s : State) : Host.Outcome State Fault Refusal :=
  .next (caneQuiet ecredit.val seq.val (caneClear s))

/-- QUIET_ACK (R457). -/
def execQuietAck (ecredit : Fin 256) (seq : Fin 65536) (s : State) : Host.Outcome State Fault Refusal :=
  .next (caneQuietAck ecredit.val seq.val (caneClear s))

/-- QUIET_ACK_SEND (R458). -/
def execQuietAckSend (s : State) : Host.Outcome State Fault Refusal := .next (caneQuietAckSend (caneClear s))

/-- QUIET_AFTER_EXPIRY (R457). -/
def execQuietAfterExpiry (s : State) : Host.Outcome State Fault Refusal := .next (caneQuietAfter (caneClear s))

/-- CANE_BAD_FRAME (R444, R446): whether a code group was invalid. -/
def execCaneBadFrame (code : Bool) (s : State) : Host.Outcome State Fault Refusal :=
  .next (caneBad code (caneClear s))

/-- CANE_REGISTER_READ (R448). -/
def execCaneRegisterRead (h : CaneHdr) (addr : Word) (s : State) : Host.Outcome State Fault Refusal :=
  .next (caneRead h addr s)

/-- CANE_REGISTER_WRITE (R448). -/
def execCaneRegisterWrite (h : CaneHdr) (addr w : Word) (s : State) : Host.Outcome State Fault Refusal :=
  .next (caneWrite h addr w s)

/-- CANE_BULK_WRITE (R449). -/
def execCaneBulkWrite (h : CaneHdr) (addr : Word) (data : List Byte) (s : State) : Host.Outcome State Fault Refusal :=
  .next (caneBulkWrite h addr data s)

/-- CANE_BULK_READ (R449). -/
def execCaneBulkRead (h : CaneHdr) (addr : Word) (n : Fin 63) (s : State) : Host.Outcome State Fault Refusal :=
  .next (caneBulkRead h addr n.val s)

/-- CANE_WAKE (R450). -/
def execCaneWake (h : CaneHdr) (s : State) : Host.Outcome State Fault Refusal := .next (caneWake h s)

/-- CANE_RESPONSE_READY (R455). -/
def execCaneResponseReady (t : Fin 16) (s : State) : Host.Outcome State Fault Refusal := .next (caneRespond t s)

/-- CANE_EVENT_SEND (R460). -/
def execCaneEventSend (s : State) : Host.Outcome State Fault Refusal := .next (caneEvent (caneClear s))

/-- CANE_SELF_NUDGE (R461). -/
def execCaneSelfNudge (s : State) : Host.Outcome State Fault Refusal := .next (caneSelfNudge (caneClear s))

end Sys2Proof.Machine
end

