-- ==== Sys2Proof/Machine/CoilCmds.lean ====
section
/-!
DEFINITION. Machine/CoilCmds.lean: the commands of the coil engine, its loader and its traces (09_coil_engine.md).
-/
namespace Sys2Proof.Machine
open Sys2Proof

/-- A command written to COIL_CMD: OP, COIL and LIB. -/
def coilCmd (o : Origin) (op c lib : Nat) (s : State) : State :=
  writeReg o ⟨.COIL_CMD, 0, 0, 0⟩ (mkWord [(20, 16, lib), (12, 8, c), (2, 0, op)]) s

/-- COIL_LOAD (R359). -/
def execCoilLoad (o : Origin) (c : CoilIx) (s : State) : Host.Outcome State Fault Refusal :=
  .next (coilCmd o 1 c.val 0 s)

/-- COIL_FETCH (R359). -/
def execCoilFetch (o : Origin) (c : CoilIx) (lib : Fin 32) (s : State) : Host.Outcome State Fault Refusal :=
  .next (coilCmd o 2 c.val lib.val s)

/-- COIL_STORE (R359). -/
def execCoilStore (o : Origin) (lib : Fin 32) (s : State) : Host.Outcome State Fault Refusal :=
  .next (coilCmd o 3 0 lib.val s)

/-- COIL_FREE (R359). -/
def execCoilFree (o : Origin) (c : CoilIx) (s : State) : Host.Outcome State Fault Refusal :=
  .next (coilCmd o 4 c.val 0 s)

/-- COIL_CMD_DONE (R359, R360): the loader runs on the Handle. -/
def execCoilCmdDone (s : State) : Host.Outcome State Fault Refusal :=
  .next (if handleWorks s then coilLoaderDone s else s)

/-- COIL_START (R361): a write of START to COIL_CTRL. -/
def execCoilStart (o : Origin) (c : CoilIx) (s : State) : Host.Outcome State Fault Refusal :=
  .next (writeBits o ⟨.COIL_CTRL, c.val, 0, 0⟩ 1 0 s)

/-- COIL_STOP (R363): a write of STOP to COIL_CTRL. -/
def execCoilStop (o : Origin) (c : CoilIx) (s : State) : Host.Outcome State Fault Refusal :=
  .next (writeBits o ⟨.COIL_CTRL, c.val, 0, 0⟩ 2 0 s)

/-- COIL_PARAM_APPLY (R365): a write of APPLY to COIL_PCTRL. -/
def execCoilParamApply (o : Origin) (c : CoilIx) (s : State) : Host.Outcome State Fault Refusal :=
  .next (writeReg o ⟨.COIL_PCTRL, c.val, 0, 0⟩ 1 s)

/-- COIL_BOUNDARY (R332, R333): the codes of the coil's sense channels. -/
def execCoilBoundary (c : CoilIx) (fb cur aux : Fin 16384) (s : State) : Host.Outcome State Fault Refusal :=
  .next (coilBoundary c fb.val cur.val aux.val s)

/-- COIL_JOB_RELEASE (R332, R333). -/
def execCoilJobRelease (c : CoilIx) (s : State) : Host.Outcome State Fault Refusal := .next (coilRelease c s)

/-- COIL_OVERRUN (R334). -/
def execCoilOverrun (c : CoilIx) (s : State) : Host.Outcome State Fault Refusal := .next (coilOverrun c s)

/-- TRACE_ARM (R366): a write of ARM to TRACE_CFG. -/
def execTraceArm (o : Origin) (c : CoilIx) (s : State) : Host.Outcome State Fault Refusal :=
  .next (writeBits o ⟨.TRACE_CFG, c.val, 0, 0⟩ 0x80000000 0 s)

/-- TRACE_FORCE (R366): a write of FORCE to TRACE_CFG. -/
def execTraceForce (o : Origin) (c : CoilIx) (s : State) : Host.Outcome State Fault Refusal :=
  .next (writeBits o ⟨.TRACE_CFG, c.val, 0, 0⟩ 0x40000000 0 s)

end Sys2Proof.Machine
end

