-- ==== Sys2Proof/Machine/Replay.lean ====
section
/-!
DEFINITION. Machine/Replay.lean: the replay of the configuration store (14_handle_boot_update.md R477, R478).
-/
namespace Sys2Proof.Machine
open Sys2Proof

/-- The bytes of entry i of the store half in force. -/
def replayEntry (s : State) (b : Bool) (i : Nat) : List Byte := readBytes .mram (halfBase b + 16 + 16 * i) 16 s

/-- COUNT of the half. -/
def replayCount (s : State) (b : Bool) : Nat := leNat (readBytes .mram (halfBase b + 12) 4 s)

/-- Moving the replay to an entry. -/
def replayAt (i : Nat) (since : Option Nat) (s : State) : State :=
  { s with handle := { s.handle with replay := s.handle.replay.map fun r => { r with entry := i, since := since } } }

/-- The end of a replay; at a WAIT, CFG_FIRST names its entry. -/
def replayEnd (fault : Option Nat) (s : State) : State :=
  let h := { s.handle with replay := none, cfgDone := true }
  { s with handle := match fault with
    | some i => { h with cfgFault := true, cfgFirst := i, cfgFirstSet := true }
    | none => h }

/-- A WRITE entry. -/
def replayWrite (i : Nat) (a w : Word) (s : State) : State :=
  let r := writeAt .replay 4 a w s
  if r.1 = .ok then r.2
  else
    let h := r.2.handle
    { r.2 with handle := { h with
      cfgErrs := satInc 0xFFFF h.cfgErrs, cfgFirst := if h.cfgFirstSet then h.cfgFirst else i, cfgFirstSet := true } }

/-- The entries from the present one up to a WAIT without its match, a DELAY or the end. -/
def replayRun : Nat → State → State
  | 0, s => s
  | fuel + 1, s =>
    match s.handle.replay, s.handle.half with
    | some r, some b =>
      if replayCount s b ≤ r.entry then replayEnd none s
      else
        let e := replayEntry s b r.entry
        let a : Word := BitVec.ofNat 32 (field e 4 4)
        let v : Word := BitVec.ofNat 32 (field e 8 4)
        if r.wake ∧ field e 1 1 = 0 then replayRun fuel (replayAt (r.entry + 1) none s)
        else match field e 0 1 with
        | 1 => replayRun fuel (replayAt (r.entry + 1) none (replayWrite r.entry a v s))
        | 2 =>
          let q := readAt .replay 4 a s
          if q.1 = .ok ∧ q.2.1 &&& BitVec.ofNat 32 (field e 12 4) = v then
            replayRun fuel (replayAt (r.entry + 1) none q.2.2)
          else replayAt r.entry (some (r.since.getD s.time.ft)) q.2.2
        | _ => if r.since.isSome then s else replayAt r.entry (some s.time.ft) s
    | _, _ => s

/-- The number of entries left, with the end. -/
def replayLeft (s : State) : Nat :=
  match s.handle.replay, s.handle.half with
  | some r, some b => replayCount s b - r.entry + 1
  | _, _ => 0

/-- The Handle works on the replay. -/
def replayGo (s : State) : State := if handleWorks s then leanReport (replayRun (replayLeft s) s) else s

/-- TYPE of the entry at which the replay waits. -/
def replayWaits (s : State) (ty : Nat) : Option Nat :=
  match s.handle.replay, s.handle.half with
  | some r, some b => if r.since.isSome ∧ field (replayEntry s b r.entry) 0 1 = ty then some r.entry else none
  | _, _ => none

/-- TIMEOUT ms of a WAIT pass without a match. -/
def replayTimeoutWait (s : State) : State := match replayWaits s 2 with | some i => replayEnd (some i) s | none => s

/-- TIMEOUT ms of a DELAY pass. -/
def replayDelayEnd (s : State) : State :=
  match replayWaits s 3 with
  | some i => replayGo (replayAt (i + 1) none s)
  | none => s

end Sys2Proof.Machine
end

