-- ==== Sys2Proof/Machine/HandleCmds.lean ====
section
/-!
DEFINITION. Machine/HandleCmds.lean: the commands of resets, boot, updates, the configuration replay and telemetry
(14_handle_boot_update.md, 18_clocks_power.md R548).
-/
namespace Sys2Proof.Machine
open Sys2Proof

/-- A write of RESET with its key, and the reset after its completion (14_handle_boot_update.md R473). A reset that an
earlier write has asked for is made. -/
def resetRow (o : Origin) (hub : Option Int) (s : State) : State :=
  if s.pwr.resetDue then deviceReset hub s
  else
    let t := writeReg o ⟨.RST_CTRL, 0, 0, 0⟩ 0xA501 s
    if t.pwr.resetDue then deviceReset hub t else t

/-- An OP written to UPD_CTRL: INDEX, TARGET and OP (R474). -/
def updCmd (o : Origin) (op target index : Nat) (s : State) : State :=
  writeReg o ⟨.UPD_CTRL, 0, 0, 0⟩ (mkWord [(31, 16, index), (9, 8, target), (2, 0, op)]) s

/-- POWER_ON_RESET_RELEASE (18_clocks_power.md R548): the boot's reading of the hub sensor. -/
def execPowerOnResetRelease (hub : Option Int) (s : State) : Host.Outcome State Fault Refusal :=
  .next (leanReport (powerOn hub s))

/-- DEVICE_RESET (R473): the boot's reading of the hub sensor. -/
def execDeviceReset (o : Origin) (hub : Option Int) (s : State) : Host.Outcome State Fault Refusal :=
  .next (leanReport (resetRow o hub s))

/-- BOOT_READY (R473). -/
def execBootReady (s : State) : Host.Outcome State Fault Refusal := .next (bootReady s)

/-- WATCHDOG_EXPIRY (R465). -/
def execWatchdogExpiry (s : State) : Host.Outcome State Fault Refusal := .next (handleRestart 1 s)

/-- HANDLE_SRAM_ECC (R465). -/
def execHandleSramEcc (s : State) : Host.Outcome State Fault Refusal := .next (handleRestart 2 s)

/-- HANDLE_RESTART_DONE (R465): the boot's reading, should a device reset follow. -/
def execHandleRestartDone (hub : Option Int) (s : State) : Host.Outcome State Fault Refusal :=
  .next (leanReport (restartDone hub s))

/-- UPD_BEGIN (R474). -/
def execUpdBegin (o : Origin) (target : Fin 4) (s : State) : Host.Outcome State Fault Refusal :=
  .next (updCmd o 1 target.val 0 s)

/-- UPD_CHUNK (R474). -/
def execUpdChunk (o : Origin) (target : Fin 4) (index : Fin 65536) (s : State) : Host.Outcome State Fault Refusal :=
  .next (updCmd o 2 target.val index.val s)

/-- UPD_VERIFY (R475). -/
def execUpdVerify (o : Origin) (target : Fin 4) (s : State) : Host.Outcome State Fault Refusal :=
  .next (updCmd o 3 target.val 0 s)

/-- UPD_ACTIVATE (R474). -/
def execUpdActivate (o : Origin) (target : Fin 4) (s : State) : Host.Outcome State Fault Refusal :=
  .next (updCmd o 4 target.val 0 s)

/-- UPD_CONFIRM (R472). -/
def execUpdConfirm (o : Origin) (s : State) : Host.Outcome State Fault Refusal := .next (updCmd o 5 0 0 s)

/-- UPD_ABORT (R474). -/
def execUpdAbort (o : Origin) (target : Fin 4) (s : State) : Host.Outcome State Fault Refusal :=
  .next (updCmd o 6 target.val 0 s)

/-- UPD_OP_DONE (R475). -/
def execUpdOpDone (s : State) : Host.Outcome State Fault Refusal := .next (if handleWorks s then updDone s else s)

/-- CONFIG_REPLAY (R478). -/
def execConfigReplay (s : State) : Host.Outcome State Fault Refusal := .next (replayGo s)

/-- REPLAY_WAIT_TIMEOUT (R478). -/
def execReplayWaitTimeout (s : State) : Host.Outcome State Fault Refusal :=
  .next (if handleWorks s then replayTimeoutWait s else s)

/-- REPLAY_DELAY_END (R478). -/
def execReplayDelayEnd (s : State) : Host.Outcome State Fault Refusal :=
  .next (if handleWorks s then replayDelayEnd s else s)

/-- TELEMETRY_READING (R479). -/
def execTelemetryReading (s : State) : Host.Outcome State Fault Refusal :=
  .next (if handleWorks s then telemetry s else s)

end Sys2Proof.Machine
end

