-- ==== Sys2Proof/Machine/LashCmds.lean ====
section
/-!
DEFINITION. Machine/LashCmds.lean: the commands of the Lashing (16_lashing.md).
-/
namespace Sys2Proof.Machine
open Sys2Proof

/-- A unit asserts a source, and holds it or not (R512). A double-bit error of program memory also marks the strand's
invocation (06_withy_model.md R248); `unit` is the strand there. -/
def sourceActive (n : SrcIx) (unit : Nat) (hold : Bool) (s : State) : State :=
  let s := match srcDie n with
    | some k =>
      if n.val % 16 = 5 ∧ srcSeen n s then
        s.modProg k (Fin.ofNat 16 unit) fun x => { x with eccNow := true, fEcc := true }
      else s
    | none => s
  if hold then raiseHold n unit s else raisePulse n unit s

/-- A broadcast pair is broken (R515): a band die mutes its transmitters and drives its wire source, or the hub raises
source 8. -/
def broadcastBroken (die : Option DieIx) (s : State) : State :=
  match die with
  | some k =>
    if s.isFitted k && (s.dies[k]).powered then
      raiseHold (srcOfDie k 1) 0 (s.modDie k fun d =>
        { d with bcastBroken := true, ports := d.ports.map fun q => { q with selfMuted := true } })
    else s
  | none => raiseHold (srcOf 8) 0 s

/-- The end of an injection of LEN µs; with LEN 0 only STOP ends it (R522). -/
def injectionOver (s : State) : State :=
  match s.lash.inj with
  | some j => if j.len = 0 then s else injectEnd s
  | none => s

/-- LASHING_SOURCE_ACTIVE (R512): the unit, and whether it goes on asserting. -/
def execLashingSourceActive (n : SrcIx) (unit : Fin 4096) (hold : Bool) (s : State) :
    Host.Outcome State Fault Refusal :=
  .next (sourceActive n unit.val hold s)

/-- MUTE_AUTO_END (R520). -/
def execMuteAutoEnd (n : SrcIx) (s : State) : Host.Outcome State Fault Refusal := .next (autoEnd n s)

/-- FAULT_PAIR_BROKEN (R514): the source whose pair is broken. -/
def execFaultPairBroken (n : SrcIx) (s : State) : Host.Outcome State Fault Refusal :=
  .next (if srcSeen n s then breakPair n s else s)

/-- BROADCAST_PAIR_BROKEN (R515): the band die that sees it, or the hub. -/
def execBroadcastPairBroken (die : Option DieIx) (s : State) : Host.Outcome State Fault Refusal :=
  .next (broadcastBroken die s)

/-- COLLECTOR_SELF_FAULT (R516). -/
def execCollectorSelfFault (s : State) : Host.Outcome State Fault Refusal := .next (collectorFault s)

/-- ENTER_SAFE (R617): a write of ENTER_SAFE to LSH_CTRL. -/
def execEnterSafe (o : Origin) (s : State) : Host.Outcome State Fault Refusal :=
  .next (writeReg o ⟨.LSH_CTRL, 0, 0, 0⟩ 2 s)

/-- SAFE_EXIT (R520): a write of SAFE_EXIT to LSH_CTRL. -/
def execSafeExit (o : Origin) (s : State) : Host.Outcome State Fault Refusal :=
  .next (writeReg o ⟨.LSH_CTRL, 0, 0, 0⟩ 1 s)

/-- LATCHED_CLEAR (R512): a write of 1 to LATCHED. -/
def execLatchedClear (o : Origin) (n : SrcIx) (s : State) : Host.Outcome State Fault Refusal :=
  .next (writeReg o ⟨.LSH_SRC_STAT, n.val, 0, 0⟩ 1 s)

/-- INJECTION_GO (R522): a write of GO to LSH_INJ. -/
def execInjectionGo (o : Origin) (src : SrcIx) (dry atSource : Bool) (len : Fin 65536) (s : State) :
    Host.Outcome State Fault Refusal :=
  .next (writeReg o ⟨.LSH_INJ, 0, 0, 0⟩ (mkWord [(31, 31, 1), (29, 29, b2n dry), (28, 28, b2n atSource),
    (23, 8, len.val), (7, 0, src.val)]) s)

/-- INJECTION_STOP (R522): a write of STOP to LSH_INJ. -/
def execInjectionStop (o : Origin) (s : State) : Host.Outcome State Fault Refusal :=
  .next (writeBits o ⟨.LSH_INJ, 0, 0, 0⟩ 0x40000000 0 s)

/-- INJECTION_END (R522). -/
def execInjectionEnd (s : State) : Host.Outcome State Fault Refusal := .next (injectionOver s)

/-- LASHING_SOURCE_INACTIVE (R512). -/
def execLashingSourceInactive (n : SrcIx) (s : State) : Host.Outcome State Fault Refusal := .next (sourceInactive n s)

end Sys2Proof.Machine
end

