-- ==== Sys2Proof/Machine/LidCmds.lean ====
section
/-!
DEFINITION. Machine/LidCmds.lean: the commands of the Lid, the TAP and the random generator (19_lid_security.md).
-/
namespace Sys2Proof.Machine
open Sys2Proof

/-- REGACC (R566): an access of origin Lid, whose result the next shift returns. -/
def tapRegacc (addr w : Word) (write : Bool) (s : State) : State :=
  let r := tapLoad .regacc s
  if !r.1 then r.2
  else if r.2.tap.hmWait.isSome then { r.2 with tap := { r.2.tap with resCode := .busy } }
  else
    let s := access .lid write 4 addr w r.2
    tapResult s.done.code (if write then 0 else s.done.value) s

/-- LIDCLOSE (R563). -/
def tapClose (s : State) : State :=
  let r := tapLoad .lidclose s
  if r.1 then lidShutBy 1 3 r.2 else r.2

/-- LID_OPEN (R560): a write of OPEN to LID_CTRL. -/
def execLidOpen (o : Origin) (len : Fin 64) (s : State) : Host.Outcome State Fault Refusal :=
  .next (writeReg o ⟨.LID_CTRL, 0, 0, 0⟩ (mkWord [(13, 8, len.val), (0, 0, 1)]) s)

/-- LID_CLOSE (R563): a write of CLOSE to LID_CTRL. -/
def execLidClose (o : Origin) (s : State) : Host.Outcome State Fault Refusal :=
  .next (writeReg o ⟨.LID_CTRL, 0, 0, 0⟩ 2 s)

/-- SET_PW (R561): a write of SET_PW to LID_CTRL. -/
def execSetPw (o : Origin) (len : Fin 64) (s : State) : Host.Outcome State Fault Refusal :=
  .next (writeReg o ⟨.LID_CTRL, 0, 0, 0⟩ (mkWord [(13, 8, len.val), (2, 2, 1)]) s)

/-- PASSWORD_CHECK_DONE (R560). -/
def execPasswordCheckDone (s : State) : Host.Outcome State Fault Refusal := .next (lidChecked s)

/-- LOCKOUT_END (R564). -/
def execLockoutEnd (s : State) : Host.Outcome State Fault Refusal := .next (lockoutEnd s)

/-- LID_IDLE_EXPIRY (R563). -/
def execLidIdleExpiry (s : State) : Host.Outcome State Fault Refusal := .next (lidIdle s)

/-- TAP_RESET (R565). -/
def execTapReset (s : State) : Host.Outcome State Fault Refusal := .next (tapReset s)

/-- EXTEST (R565, R567): what is shifted into the boundary scan register. -/
def execExtest (bits : Nat) (s : State) : Host.Outcome State Fault Refusal := .next (tapExtest bits s)

/-- IDCODE (R565). -/
def execIdcode (s : State) : Host.Outcome State Fault Refusal := .next (tapIdcode s)

/-- SAMPLE_PRELOAD (R565): what is shifted into the boundary scan register. -/
def execSamplePreload (bits : Nat) (s : State) : Host.Outcome State Fault Refusal := .next (tapSample bits s)

/-- CLAMP (R567). -/
def execClamp (s : State) : Host.Outcome State Fault Refusal := .next (tapDrive .clamp s)

/-- HIGHZ (R567). -/
def execHighz (s : State) : Host.Outcome State Fault Refusal := .next (tapDrive .highz s)

/-- LIDCHAL (R562). -/
def execLidchal (s : State) : Host.Outcome State Fault Refusal := .next (lidChal s)

/-- LIDRESP (R562): the signature shifted in. -/
def execLidresp (sig : Nat) (s : State) : Host.Outcome State Fault Refusal := .next (lidResp sig s)

/-- LIDPW (R560): the length and the password shifted in. -/
def execLidpw (len : Fin 64) (pw : Nat) (s : State) : Host.Outcome State Fault Refusal :=
  .next (lidPw len.val pw (tapLoad .lidpw s).2)

/-- LIDCLOSE (R563). -/
def execLidclose (s : State) : Host.Outcome State Fault Refusal := .next (tapClose s)

/-- REGACC (R566). -/
def execRegacc (addr w : Word) (write : Bool) (s : State) : Host.Outcome State Fault Refusal :=
  .next (tapRegacc addr w write s)

/-- TAP_HALT (R565, R566). -/
def execTapHalt (bits : Nat) (s : State) : Host.Outcome State Fault Refusal := .next (tapHalt bits s)

/-- HMEM (R565). -/
def execHmem (addr w : Word) (write : Bool) (s : State) : Host.Outcome State Fault Refusal :=
  .next (tapHmem addr w write s)

/-- BYPASS (R565). -/
def execBypass (s : State) : Host.Outcome State Fault Refusal := .next ((tapLoad .bypass s).2)

/-- RNG_HEALTH_FAIL (R569). -/
def execRngHealthFail (s : State) : Host.Outcome State Fault Refusal := .next (rngFails s)

/-- RNG_RETEST (R569). -/
def execRngRetest (pass : Bool) (s : State) : Host.Outcome State Fault Refusal := .next (rngRetest pass s)

end Sys2Proof.Machine
end

