-- ==== Sys2Proof/Machine/LogCmds.lean ====
section
/-!
DEFINITION. Machine/LogCmds.lean: the commands of Skein, Tally and wall time (15_skein_tally.md).
-/
namespace Sys2Proof.Machine
open Sys2Proof

/-- 15 min after the last flush: a record that is not flushed asks for one (R493). -/
def flushPeriod (s : State) : State :=
  let unflushed : Bool := !s.skein.buffer.isEmpty || (match s.skein.newest with | some (_, false) => true | _ => false)
  if unflushed then { s with skein := { s.skein with wanted := true } } else s

/-- SKEIN_HOLD_EXPIRY (R490). -/
def execSkeinHoldExpiry (s : State) : Host.Outcome State Fault Refusal := .next (skeinClose s)

/-- SKEIN_FLUSH (R492, R493): the Handle starts it. -/
def execSkeinFlush (s : State) : Host.Outcome State Fault Refusal :=
  .next (if handleWorks s then flushStart false s else s)

/-- SKEIN_FLUSH_PERIOD (R493). -/
def execSkeinFlushPeriod (s : State) : Host.Outcome State Fault Refusal := .next (flushPeriod s)

/-- SKEIN_FLUSH_DONE (R492): by the Handle, or at a power-fail warning without it (R493). -/
def execSkeinFlushDone (s : State) : Host.Outcome State Fault Refusal :=
  .next (if handleWorks s ∨ s.pwr.failWrites = true then flushDone s else s)

/-- SKN_FLUSH (R493): a write of FLUSH to SKN_CTRL. -/
def execSknFlush (o : Origin) (s : State) : Host.Outcome State Fault Refusal :=
  .next (writeBits o ⟨.SKN_CTRL, 0, 0, 0⟩ 1 0 s)

/-- SKN_CLEAR (R499): a write of CLEAR to SKN_CTRL. -/
def execSknClear (o : Origin) (s : State) : Host.Outcome State Fault Refusal :=
  .next (writeBits o ⟨.SKN_CTRL, 0, 0, 0⟩ 2 0 s)

/-- SKN_FREEZE (R497): a write of FREEZE to SKN_CTRL. -/
def execSknFreeze (o : Origin) (s : State) : Host.Outcome State Fault Refusal :=
  .next (writeBits o ⟨.SKN_CTRL, 0, 0, 0⟩ 4 0 s)

/-- SKN_UNFREEZE (R497): a write of UNFREEZE to SKN_CTRL. -/
def execSknUnfreeze (o : Origin) (s : State) : Host.Outcome State Fault Refusal :=
  .next (writeBits o ⟨.SKN_CTRL, 0, 0, 0⟩ 8 0 s)

/-- FREEZE_TIMEOUT (R497). -/
def execFreezeTimeout (s : State) : Host.Outcome State Fault Refusal := .next (freezeTimeout s)

/-- TLY_ACK (R506): a write to TLY_ACK. -/
def execTlyAck (o : Origin) (seq : Word) (s : State) : Host.Outcome State Fault Refusal :=
  .next (writeReg o ⟨.TLY_ACK, 0, 0, 0⟩ seq s)

/-- TALLY_WRITE_OUT (R505). -/
def execTallyWriteOut (s : State) : Host.Outcome State Fault Refusal := .next (tallyWriteOut s)

/-- WT_APPLY (R483): a write of APPLY to WT_CTRL. -/
def execWtApply (o : Origin) (s : State) : Host.Outcome State Fault Refusal :=
  .next (writeReg o ⟨.WT_CTRL, 0, 0, 0⟩ 1 s)

/-- SEAL (R503): a write of SEAL to TLY_SEAL. -/
def execSeal (o : Origin) (s : State) : Host.Outcome State Fault Refusal :=
  .next (writeReg o ⟨.TLY_SEAL, 0, 0, 0⟩ 1 s)

/-- SEAL_DONE (R503). -/
def execSealDone (s : State) : Host.Outcome State Fault Refusal := .next (sealDone s)

end Sys2Proof.Machine
end

