-- ==== Sys2Proof/Machine/PlaitCmds.lean ====
section
/-!
DEFINITION. Machine/PlaitCmds.lean: the commands of the pulse-width fabric (10_plait.md).
-/
namespace Sys2Proof.Machine
open Sys2Proof

/-- PAIR_BOUNDARY (R370, R381): the CK_PLAIT cycle of the boundary. -/
def execPairBoundary (n : PairIx) (t : Nat) (s : State) : Host.Outcome State Fault Refusal :=
  .next (pairBoundary n t s)

/-- PL_LOAD_ALL (R381): a write of LOAD_ALL to PL_CMD. -/
def execPlLoadAll (o : Origin) (s : State) : Host.Outcome State Fault Refusal :=
  .next (writeReg o ⟨.PL_CMD, 0, 0, 0⟩ 1 s)

/-- PL_SYNC (R384): a write of SYNC to PL_CMD. -/
def execPlSync (o : Origin) (s : State) : Host.Outcome State Fault Refusal :=
  .next (writeReg o ⟨.PL_CMD, 0, 0, 0⟩ 2 s)

/-- PAIR_ENABLE (R385): a write of EN to PAIR_CTRL. -/
def execPairEnable (o : Origin) (n : PairIx) (s : State) : Host.Outcome State Fault Refusal :=
  .next (writeBits o ⟨.PAIR_CTRL, n.val, 0, 0⟩ 1 0 s)

/-- PAIR_DISABLE (R377, R385): a write that clears EN. -/
def execPairDisable (o : Origin) (n : PairIx) (s : State) : Host.Outcome State Fault Refusal :=
  .next (writeBits o ⟨.PAIR_CTRL, n.val, 0, 0⟩ 0 1 s)

/-- PAIR_CLEAR (R389): a write of CLEAR to PAIR_CTRL. -/
def execPairClear (o : Origin) (n : PairIx) (s : State) : Host.Outcome State Fault Refusal :=
  .next (writeBits o ⟨.PAIR_CTRL, n.val, 0, 0⟩ 0x10000 0 s)

/-- PLAIT_CALIBRATION (R392): the TRIM found. -/
def execPlaitCalibration (ok : Bool) (trim : Byte) (s : State) : Host.Outcome State Fault Refusal :=
  .next (plaitCalibration ok trim.toNat s)

/-- TRIP_ASSERT (R386, R387): the CK_PLAIT cycle. -/
def execTripAssert (i : Fin 8) (t : Nat) (s : State) : Host.Outcome State Fault Refusal := .next (tripAssert i t s)

/-- TRIP_RELEASE (R386). -/
def execTripRelease (i : Fin 8) (t : Nat) (s : State) : Host.Outcome State Fault Refusal :=
  .next (tripRelease i t s)

end Sys2Proof.Machine
end

