-- ==== Sys2Proof/Machine/PowerCmds.lean ====
section
/-!
DEFINITION. Machine/PowerCmds.lean: the commands of power states, rails, reference inputs and clock domains
(18_clocks_power.md).
-/
namespace Sys2Proof.Machine
open Sys2Proof

/-- DOZE (R550): a write of DOZE to PWR_CTRL. -/
def execDoze (o : Origin) (s : State) : Host.Outcome State Fault Refusal :=
  .next (writeReg o ⟨.PWR_CTRL, 0, 0, 0⟩ 1 s)

/-- DOZE_REACHED (R550). -/
def execDozeReached (s : State) : Host.Outcome State Fault Refusal := .next (dozeReached s)

/-- WAKE (R551): a write of WAKE to PWR_CTRL. -/
def execWake (o : Origin) (s : State) : Host.Outcome State Fault Refusal :=
  .next (writeReg o ⟨.PWR_CTRL, 0, 0, 0⟩ 2 s)

/-- WAKE_TIMER (R551). -/
def execWakeTimer (s : State) : Host.Outcome State Fault Refusal := .next (wakeTimer s)

/-- COEX_WAKE_EDGE (R551). -/
def execCoexWakeEdge (s : State) : Host.Outcome State Fault Refusal := .next (wakeCoex s)

/-- FOOT (R553): a write of FOOT with its KEY to PWR_CTRL. -/
def execFoot (o : Origin) (s : State) : Host.Outcome State Fault Refusal :=
  .next (writeReg o ⟨.PWR_CTRL, 0, 0, 0⟩ 0x5A04 s)

/-- FOOT_ONLY_REACHED (R553). -/
def execFootOnlyReached (s : State) : Host.Outcome State Fault Refusal := .next (footReached s)

/-- FOOT_EXIT_RAILS_READY (R554): the boot's reading of the hub sensor. -/
def execFootExitRailsReady (hub : Option Int) (s : State) : Host.Outcome State Fault Refusal :=
  .next (leanReport (footExit hub s))

/-- MAIN_EN_TIMEOUT (R554). -/
def execMainEnTimeout (s : State) : Host.Outcome State Fault Refusal := .next (mainEnTimeout s)

/-- POWER_FAIL_FALL (R555). -/
def execPowerFailFall (s : State) : Host.Outcome State Fault Refusal := .next (powerFailFall s)

/-- POWER_FAIL_WRITE_END (15_skein_tally.md R496). -/
def execPowerFailWriteEnd (s : State) : Host.Outcome State Fault Refusal := .next (powerFailEnd s)

/-- POWER_FAIL_RISE (R556): the boot's reading of the hub sensor. -/
def execPowerFailRise (hub : Option Int) (s : State) : Host.Outcome State Fault Refusal :=
  .next (leanReport (powerFailRise hub s))

/-- RAIL_OUT_OF_RANGE (21_electrical_package.md R589). -/
def execRailOutOfRange (s : State) : Host.Outcome State Fault Refusal := .next (railOut s)

/-- REF_LOST (R543). -/
def execRefLost (s : State) : Host.Outcome State Fault Refusal := .next (refLost s)

/-- REF_HOLDOVER_EXPIRY (R543). -/
def execRefHoldoverExpiry (s : State) : Host.Outcome State Fault Refusal := .next (refExpired s)

/-- XTAL_LOST (R542). -/
def execXtalLost (s : State) : Host.Outcome State Fault Refusal := .next (xtalSet true s)

/-- XTAL_RESTORED (R542). -/
def execXtalRestored (s : State) : Host.Outcome State Fault Refusal := .next (xtalSet false s)

/-- CLOCK_DOMAIN_STOP (R545). -/
def execClockDomainStop (d : ClockDom) (s : State) : Host.Outcome State Fault Refusal := .next (clockStop d s)

/-- REF_RESTORED (R543). -/
def execRefRestored (s : State) : Host.Outcome State Fault Refusal := .next (refRestored s)

end Sys2Proof.Machine
end

