-- ==== Sys2Proof/Machine/ProgramCmds.lean ====
section
/-!
DEFINITION. Machine/ProgramCmds.lean: the commands of strand programs and of the stream loader (06_withy_model.md).
-/
namespace Sys2Proof.Machine
open Sys2Proof

/-- INVOCATION (R215). -/
def execInvocation (k : DieIx) (i : StrandIx) (s : State) : Host.Outcome State Fault Refusal := .next (invoke k i s)

/-- OUTPUT_RELEASE (R216). -/
def execOutputRelease (k : DieIx) (i : StrandIx) (s : State) : Host.Outcome State Fault Refusal :=
  .next (outputRelease k i s)

/-- LOOKAHEAD_DELIVERY (R236). -/
def execLookaheadDelivery (k : DieIx) (i : StrandIx) (s : State) : Host.Outcome State Fault Refusal :=
  .next (laDelivery k i s)

/-- MESSAGE_ARRIVAL (R287). -/
def execMessageArrival (k : DieIx) (i : StrandIx) (r : Fin 4) (bytes : List Byte) (s : State) :
    Host.Outcome State Fault Refusal := .next (messageArrival k i r bytes s)

/-- A command written to PRG_CMD: OP, SLOT and LIB. -/
def prgCmd (o : Origin) (k : DieIx) (op slot lib : Nat) (s : State) : State :=
  writeReg o ⟨.PRG_CMD, k.val, 0, 0⟩ (mkWord [(20, 16, lib), (11, 8, slot), (3, 0, op)]) s

/-- PRG_LOAD (R242). -/
def execPrgLoad (o : Origin) (k : DieIx) (slot : Fin 16) (s : State) : Host.Outcome State Fault Refusal :=
  .next (prgCmd o k 1 slot.val 0 s)

/-- PRG_FETCH (R242). -/
def execPrgFetch (o : Origin) (k : DieIx) (slot : Fin 16) (lib : Fin 32) (s : State) :
    Host.Outcome State Fault Refusal := .next (prgCmd o k 2 slot.val lib.val s)

/-- PRG_STORE (R242). -/
def execPrgStore (o : Origin) (k : DieIx) (lib : Fin 32) (s : State) : Host.Outcome State Fault Refusal :=
  .next (prgCmd o k 3 0 lib.val s)

/-- PRG_BIND (R244): the strands are those of PRG_MASK. -/
def execPrgBind (o : Origin) (k : DieIx) (slot : Fin 16) (s : State) : Host.Outcome State Fault Refusal :=
  .next (prgCmd o k 4 slot.val 0 s)

/-- PRG_UNBIND (R242). -/
def execPrgUnbind (o : Origin) (k : DieIx) (s : State) : Host.Outcome State Fault Refusal := .next (prgCmd o k 5 0 0 s)

/-- PRG_FREE (R242). -/
def execPrgFree (o : Origin) (k : DieIx) (slot : Fin 16) (s : State) : Host.Outcome State Fault Refusal :=
  .next (prgCmd o k 6 slot.val 0 s)

/-- PRG_ERASE (R242). -/
def execPrgErase (o : Origin) (k : DieIx) (lib : Fin 32) (s : State) : Host.Outcome State Fault Refusal :=
  .next (prgCmd o k 7 0 lib.val s)

/-- PRG_CMD_DONE (R243): the loader runs on the Handle. -/
def execPrgCmdDone (k : DieIx) (s : State) : Host.Outcome State Fault Refusal :=
  .next (if handleWorks s then loaderDone k s else s)

/-- PRG_PARAM_APPLY (R223): a write of APPLY to PRG_PCTRL. -/
def execPrgParamApply (o : Origin) (k : DieIx) (i : StrandIx) (s : State) : Host.Outcome State Fault Refusal :=
  .next (writeReg o ⟨.PRG_PCTRL, k.val, i.val, 0⟩ 1 s)

end Sys2Proof.Machine
end

