-- ==== Sys2Proof/Machine/ProtectCmds.lean ====
section
/-!
DEFINITION. Machine/ProtectCmds.lean: the commands of network protection and of the regulatory record
(05_network_protection.md).
-/
namespace Sys2Proof.Machine
open Sys2Proof

/-- UG_HOLD_EXPIRED (R177). -/
def execUgHoldExpired (k : DieIx) (i : StrandIx) (s : State) : Host.Outcome State Fault Refusal :=
  .next (leanReport (ugHoldExpired k i s))

/-- UG_KEEP_START (R179). -/
def execUgKeepStart (k : DieIx) (i : StrandIx) (s : State) : Host.Outcome State Fault Refusal :=
  .next (tunerWatch k (ugKeepStart k i s))

/-- UG_KEEP_END (R177). -/
def execUgKeepEnd (k : DieIx) (i : StrandIx) (s : State) : Host.Outcome State Fault Refusal := .next (ugKeepEnd k i s)

/-- PRESENCE_CHECK_TRIGGER (R186): the schedule, which the Handle runs (14_handle_boot_update.md R464). -/
def execPresenceCheckTrigger (k : DieIx) (e : Fin 8) (s : State) : Host.Outcome State Fault Refusal :=
  .next (if handleWorks s && !(s.dies[k]).laneLost then presTrigger k e 0 s else s)

/-- PRESENCE_CHECK_OVERDUE (R186): the band die's own trigger, 5 s late. -/
def execPresenceCheckOverdue (k : DieIx) (e : Fin 8) (s : State) : Host.Outcome State Fault Refusal :=
  .next (presTrigger k e 5000000000 s)

/-- PRESENCE_START_TIMEOUT (R185). -/
def execPresenceStartTimeout (k : DieIx) (e : Fin 8) (s : State) : Host.Outcome State Fault Refusal :=
  .next (presTimeout k e s)

/-- PRESENCE_CHECK_DONE (R185): the cells that the check decoded. -/
def execPresenceCheckDone (k : DieIx) (e : Fin 8) (cells : List (Bool × Int × Nat)) (s : State) :
    Host.Outcome State Fault Refusal := .next (presDone k e cells s)

/-- SS_BURST_DETECTED (R190, R200; 08_radio_control.md R313, R316): offered to the TDD timing, the lean groups and
diversity. -/
def execSsBurstDetected (k : DieIx) (freq : Nat) (port : Fin 2) (t : Nat) (p : BurstPower) (s : State) :
    Host.Outcome State Fault Refusal :=
  .next (leanReport (divBurst k freq port p.first p.second (leanBurst k freq port t (cycleAll k (tddBurst k freq port t s)))))

/-- TDD_APPLY (R195): a write of APPLY to TDD_ADV. -/
def execTddApply (o : Origin) (k : DieIx) (s : State) : Host.Outcome State Fault Refusal :=
  .next (writeBits o ⟨.TDD_ADV, k.val, 0, 0⟩ 0x80000000 0 s)

/-- TDD_PATTERN_BOUNDARY (R196). -/
def execTddPatternBoundary (k : DieIx) (s : State) : Host.Outcome State Fault Refusal :=
  .next (cycleAll k (tddBoundary k s))

/-- TDD_TIMING_LAPSE (R191): the TDD strands mute and cycling ports leave Transmit. -/
def execTddTimingLapse (k : DieIx) (s : State) : Host.Outcome State Fault Refusal :=
  let t := tddLapse k s
  .next (if (t.dies[k]).tdd.valid = (s.dies[k]).tdd.valid then s else leanReport (cycleDown k t))

/-- TDD_WINDOW_SWITCH (R194). -/
def execTddWindowSwitch (k : DieIx) (p : PortIx) (toTx : Bool) (s : State) : Host.Outcome State Fault Refusal :=
  .next (tddSwitch k p toTx s)

/-- DUTY_HIT (R197). -/
def execDutyHit (k : DieIx) (p : PortIx) (_frac : Computed) (s : State) : Host.Outcome State Fault Refusal :=
  .next (dutyHit k p s)

/-- DUTY_RECOVER (R197): the port may go on to Transmit. -/
def execDutyRecover (k : DieIx) (p : PortIx) (_frac : Computed) (s : State) : Host.Outcome State Fault Refusal :=
  .next (dutyRecover k p s)

/-- LEAN_ENTER (R199). -/
def execLeanEnter (k : DieIx) (g : Fin 4) (s : State) : Host.Outcome State Fault Refusal := .next (leanReport (leanEnter k g s))

/-- LEAN_LEAVE (R200). -/
def execLeanLeave (k : DieIx) (g : Fin 4) (s : State) : Host.Outcome State Fault Refusal := .next (leanReport (leanLeave k g s))

/-- REG_EDIT_OPEN (R209). -/
def execRegEditOpen (o : Origin) (s : State) : Host.Outcome State Fault Refusal := .next (writeReg o ⟨.REG_EDIT, 0, 0, 0⟩ 1 s)

/-- REG_EDIT_DISCARD (R209). -/
def execRegEditDiscard (o : Origin) (s : State) : Host.Outcome State Fault Refusal :=
  .next (writeReg o ⟨.REG_EDIT, 0, 0, 0⟩ 4 s)

/-- REG_EDIT_COMMIT (R210). -/
def execRegEditCommit (o : Origin) (s : State) : Host.Outcome State Fault Refusal :=
  .next (writeReg o ⟨.REG_EDIT, 0, 0, 0⟩ 2 s)

/-- REG_COMMIT_DONE (R211), which the Handle makes. -/
def execRegCommitDone (verified : Bool) (s : State) : Host.Outcome State Fault Refusal :=
  .next (if handleWorks s then regCommitDone verified s else s)

end Sys2Proof.Machine
end

