-- ==== Sys2Proof/Machine/RadioCmds.lean ====
section
/-!
DEFINITION. Machine/RadioCmds.lean: the commands of the ports, the scan receiver, the tuners, the RFFE bus and
coexistence (08_radio_control.md).
-/
namespace Sys2Proof.Machine
open Sys2Proof

/-- PORT_COMMAND (R301): a write to PRC_CTRL. -/
def execPortCommand (o : Origin) (k : DieIx) (p : PortIx) (w : Word) (s : State) : Host.Outcome State Fault Refusal :=
  .next (writeReg o ⟨.PRC_CTRL, k.val, p.val, 0⟩ w s)

/-- PORT_COMMAND_DEQUEUE (R302). -/
def execPortCommandDequeue (k : DieIx) (p : PortIx) (s : State) : Host.Outcome State Fault Refusal :=
  .next (portDequeue k p s)

/-- PORT_TRANSITION_DONE (R297, R303). -/
def execPortTransitionDone (k : DieIx) (p : PortIx) (s : State) : Host.Outcome State Fault Refusal :=
  .next (leanReport (portDone k p s))

/-- DIE_PLL_LOCK (R304). -/
def execDiePllLock (k : DieIx) (s : State) : Host.Outcome State Fault Refusal := .next (pllLocked k s)

/-- PORT_LOCK_TIMEOUT (R304). -/
def execPortLockTimeout (k : DieIx) (p : PortIx) (s : State) : Host.Outcome State Fault Refusal :=
  .next (lockTimeout k p s)

/-- DIE_PLL_UNLOCK (R305). -/
def execDiePllUnlock (k : DieIx) (s : State) : Host.Outcome State Fault Refusal := .next (pllUnlock k s)

/-- DIE_PLL_STOP (R299). -/
def execDiePllStop (k : DieIx) (s : State) : Host.Outcome State Fault Refusal := .next (pllStop k s)

/-- SCAN_TASK_START (R312): which of tasks 1, 3 and 4 have become due. -/
def execScanTaskStart (k : DieIx) (tdd div tune : Bool) (s : State) : Host.Outcome State Fault Refusal :=
  .next (scanStart k tdd div tune s)

/-- SCAN_TASK_DONE (R311 to R313): the time to the next burst for diversity, and what the task found. -/
def execScanTaskDone (k : DieIx) (next : Nat) (power : Int) (cells : List (Bool × Int × Nat)) (s : State) :
    Host.Outcome State Fault Refusal :=
  .next (scanDone k next power (cells.map fun (x : Bool × Int × Nat) => ⟨x.1, x.2.1, x.2.2⟩) s)

/-- SCAN_TRANSITION_DONE (R309). -/
def execScanTransitionDone (k : DieIx) (s : State) : Host.Outcome State Fault Refusal := .next (scanMoved k s)

/-- SCAN_CAL_STEP (R310, R314). -/
def execScanCalStep (k : DieIx) (locked last : Bool) (rej : Nat) (s : State) : Host.Outcome State Fault Refusal :=
  .next (calStep k locked last rej s)

/-- SCAN_CAL_RETRY (R314). -/
def execScanCalRetry (k : DieIx) (s : State) : Host.Outcome State Fault Refusal := .next (calRetry k s)

/-- SCAN_REQ_GO (R312): a write of GO to SCAN_REQ. -/
def execScanReqGo (o : Origin) (k : DieIx) (s : State) : Host.Outcome State Fault Refusal :=
  .next (writeBits o ⟨.SCAN_REQ, k.val, 0, 0⟩ 0x80000000 0 s)

/-- SCAN_REQ_ABORT (R312): a write of ABORT to SCAN_REQ. -/
def execScanReqAbort (o : Origin) (k : DieIx) (s : State) : Host.Outcome State Fault Refusal :=
  .next (writeBits o ⟨.SCAN_REQ, k.val, 0, 0⟩ 0x40000000 0 s)

/-- TUNER_MEASURE (R319): the powers measured at the port. -/
def execTunerMeasure (k : DieIx) (p : PortIx) (band fwd rev : Int) (s : State) : Host.Outcome State Fault Refusal :=
  .next (tunerMeasure k p band fwd rev s)

/-- TUNER_SEARCH (R320). -/
def execTunerSearch (k : DieIx) (p : PortIx) (s : State) : Host.Outcome State Fault Refusal :=
  .next (tunerSearch k p s)

/-- TUNER_SEARCH_STEP (R320): the return loss of the state that was set. -/
def execTunerSearchStep (k : DieIx) (p : PortIx) (rl : Int) (s : State) : Host.Outcome State Fault Refusal :=
  .next (tunerStep k p rl s)

/-- RFFE_CMD_GO (R322): a write of GO to RFFE_CMD. -/
def execRffeCmdGo (o : Origin) (k : DieIx) (s : State) : Host.Outcome State Fault Refusal :=
  .next (writeBits o ⟨.RFFE_CMD, k.val, 0, 0⟩ 0x80000000 0 s)

/-- RFFE_TRANSACTION_DONE (R322): what a read gave and whether its parity is good. -/
def execRffeTransactionDone (k : DieIx) (data : Nat) (good : Bool) (s : State) : Host.Outcome State Fault Refusal :=
  .next (rffeDone k data good s)

/-- COEX_REQ_ASSERT (R323). -/
def execCoexReqAssert (_window : Computed) (s : State) : Host.Outcome State Fault Refusal := .next (coexAssert s)

/-- COEX_GNT_FALL (R323). -/
def execCoexGntFall (s : State) : Host.Outcome State Fault Refusal := .next (coexGntFall s)

/-- COEX_REQ_RISE (R324; 18_clocks_power.md R551): the level of COEX_PRI. -/
def execCoexReqRise (pri : Bool) (_window : Computed) (s : State) : Host.Outcome State Fault Refusal :=
  .next (coexReqRise pri (if coexRole s = 2 then wakeCoex s else s))

/-- COEX_GRANT_DECISION (R324). -/
def execCoexGrantDecision (s : State) : Host.Outcome State Fault Refusal := .next (coexDecision s)

/-- COEX_GNT_RAISE (R324). -/
def execCoexGntRaise (s : State) : Host.Outcome State Fault Refusal := .next (coexRaise s)

/-- COEX_REQ_FALL (R324). -/
def execCoexReqFall (s : State) : Host.Outcome State Fault Refusal := .next (coexReqFall s)

/-- COEX_GNT_RISE (R323; 18_clocks_power.md R551). -/
def execCoexGntRise (s : State) : Host.Outcome State Fault Refusal :=
  .next (coexGntRise (if coexRole s = 1 then wakeCoex s else s))

end Sys2Proof.Machine
end

