-- ==== Sys2Proof/Machine/RiddleCmds.lean ====
section
/-!
DEFINITION. Machine/RiddleCmds.lean: the commands of the converters and the riddle chain (02_converters_riddle.md).
-/
namespace Sys2Proof.Machine
open Sys2Proof

/-- NCO_APPLY (R61): a write of APPLY to NCO_CTRL. -/
def execNcoApply (o : Origin) (k : DieIx) (i : StrandIx) (s : State) : Host.Outcome State Fault Refusal :=
  .next (writeReg o ⟨.NCO_CTRL, k.val, i.val, 0⟩ 1 s)

/-- NCO_COMMIT (R62). -/
def execNcoCommit (k : DieIx) (i : StrandIx) (s : State) : Host.Outcome State Fault Refusal := .next (presFollow k s (ncoBoundary k i s))

/-- RDL_SYNC_NOW (R67): a write of MASK to RDL_SYNC. -/
def execRdlSyncNow (o : Origin) (k : DieIx) (mask : BitVec 16) (s : State) : Host.Outcome State Fault Refusal :=
  .next (writeReg o ⟨.RDL_SYNC, k.val, 0, 0⟩ (mkWord [(15, 0, mask.toNat)]) s)

/-- RDL_SYNC_ARM (R72): MASK with AT_TIME. -/
def execRdlSyncArm (o : Origin) (k : DieIx) (mask : BitVec 16) (s : State) : Host.Outcome State Fault Refusal :=
  .next (writeReg o ⟨.RDL_SYNC, k.val, 0, 0⟩ (mkWord [(16, 16, 1), (15, 0, mask.toNat)]) s)

/-- RDL_SYNC_CANCEL (R73). -/
def execRdlSyncCancel (o : Origin) (k : DieIx) (s : State) : Host.Outcome State Fault Refusal :=
  .next (writeReg o ⟨.RDL_SYNC, k.val, 0, 0⟩ (mkWord [(17, 17, 1)]) s)

/-- TIMED_SYNC_RESET (R72). -/
def execTimedSyncReset (k : DieIx) (s : State) : Host.Outcome State Fault Refusal := .next (presFollow k s (syncTimed k s))

/-- FILL_COUNT_END (R69). -/
def execFillCountEnd (k : DieIx) (i : StrandIx) (s : State) : Host.Outcome State Fault Refusal := .next (fillEnd k i s)

/-- DELAY_TAKE_EFFECT (R76). -/
def execDelayTakeEffect (k : DieIx) (i : StrandIx) (s : State) : Host.Outcome State Fault Refusal :=
  .next (delayBoundary k i s)

/-- SWAP_REQ (R81). -/
def execSwapReq (o : Origin) (k : DieIx) (i : StrandIx) (target : Fin 2) (fade : Fin 16) (s : State) :
    Host.Outcome State Fault Refusal :=
  .next (writeReg o ⟨.SWAP_REQ, k.val, i.val, 0⟩ (mkWord [(8, 8, target.val), (3, 0, fade.val)]) s)

/-- RDL_GROUP_SWAP (R89). -/
def execRdlGroupSwap (o : Origin) (k : DieIx) (mask : BitVec 16) (target : Fin 2) (fade : Fin 16) (s : State) :
    Host.Outcome State Fault Refusal :=
  .next (writeReg o ⟨.RDL_GROUP_SWAP, k.val, 0, 0⟩
    (mkWord [(24, 24, target.val), (19, 16, fade.val), (15, 0, mask.toNat)]) s)

/-- FADE_START (R81). -/
def execFadeStart (k : DieIx) (i : StrandIx) (s : State) : Host.Outcome State Fault Refusal := .next (fadeStart k i s)

/-- FADE_END (R83). -/
def execFadeEnd (k : DieIx) (i : StrandIx) (s : State) : Host.Outcome State Fault Refusal := .next (fadeEnd k i s)

/-- COEF_BANK_ECC_ERROR (R88). -/
def execCoefBankEccError (k : DieIx) (e : EccAt) (s : State) : Host.Outcome State Fault Refusal :=
  .next (bankEcc k e.strand e.bank e.word.val s)

/-- ADC_OVERLOAD (R57). -/
def execAdcOverload (k : DieIx) (p : PortIx) (peak : Nat) (s : State) : Host.Outcome State Fault Refusal :=
  .next (adcOverload k p peak s)

end Sys2Proof.Machine
end

