-- ==== Sys2Proof/Machine/StrandCmds.lean ====
section
/-!
DEFINITION. Machine/StrandCmds.lean: the commands of the strands, their levels, meters and limiters (03_strands.md).
-/
namespace Sys2Proof.Machine
open Sys2Proof

/-- STR_START (R99): a write of START to STR_CTRL. -/
def execStrStart (o : Origin) (k : DieIx) (i : StrandIx) (s : State) : Host.Outcome State Fault Refusal :=
  .next (writeReg o ⟨.STR_CTRL, k.val, i.val, 0⟩ 1 s)

/-- STR_STOP (R102). -/
def execStrStop (o : Origin) (k : DieIx) (i : StrandIx) (s : State) : Host.Outcome State Fault Refusal :=
  .next (writeReg o ⟨.STR_CTRL, k.val, i.val, 0⟩ 2 s)

/-- STR_GROUP_START (R101). -/
def execStrGroupStart (o : Origin) (k : DieIx) (mask : BitVec 16) (s : State) : Host.Outcome State Fault Refusal :=
  .next (writeReg o ⟨.STR_GROUP, k.val, 0, 0⟩ (mkWord [(15, 0, mask.toNat)]) s)

/-- STR_GROUP_STOP (R101). -/
def execStrGroupStop (o : Origin) (k : DieIx) (mask : BitVec 16) (s : State) : Host.Outcome State Fault Refusal :=
  .next (writeReg o ⟨.STR_GROUP, k.val, 0, 0⟩ (mkWord [(31, 16, mask.toNat)]) s)

/-- STRAND_RUNNING (R100). -/
def execStrandRunning (k : DieIx) (i : StrandIx) (s : State) : Host.Outcome State Fault Refusal :=
  .next (tunerWatch k (strandRunning k i s))

/-- STRAND_STOPPED (R102). -/
def execStrandStopped (k : DieIx) (i : StrandIx) (s : State) : Host.Outcome State Fault Refusal :=
  .next (leanReport (strandStopped k i s))

/-- LEVEL_STAGE_BLOCK (R107). -/
def execLevelStageBlock (k : DieIx) (i : StrandIx) (s : State) : Host.Outcome State Fault Refusal :=
  .next (levelBlock k i s)

/-- GATE_RAMP_END (R112). -/
def execGateRampEnd (k : DieIx) (i : StrandIx) (s : State) : Host.Outcome State Fault Refusal :=
  .next (gateRampEnd k i s)

/-- METER_WINDOW_END (R117). -/
def execMeterWindowEnd (k : DieIx) (i : StrandIx) (s : State) : Host.Outcome State Fault Refusal :=
  .next (meterEnd k i s)

/-- LIMITER_BLOCK_ENTER (R119). -/
def execLimiterBlockEnter (k : DieIx) (i : StrandIx) (s : State) : Host.Outcome State Fault Refusal :=
  .next (limiterEnter k i s)

/-- LIMITER_BLOCK_LEAVE (R120). -/
def execLimiterBlockLeave (k : DieIx) (i : StrandIx) (s : State) : Host.Outcome State Fault Refusal :=
  .next (limiterLeave k i s)

/-- STREAM_PARITY_ERROR (R123). -/
def execStreamParityError (k : DieIx) (i : StrandIx) (e : ParityAt) (s : State) : Host.Outcome State Fault Refusal :=
  .next (parityError k i e.stage.val e.sample.val s)

end Sys2Proof.Machine
end

