-- ==== Sys2Proof/Machine/ThermalCmds.lean ====
section
/-!
DEFINITION. Machine/ThermalCmds.lean: the commands of the thermal guard (17_thermal.md).
-/
namespace Sys2Proof.Machine
open Sys2Proof

/-- THERMAL_CONVERSION_START (R529). -/
def execThermalConversionStart (s : State) : Host.Outcome State Fault Refusal := .next (convStart s)

/-- THERMAL_CONVERSION_DONE (R530 to R532): the value in 0.1 °C, and whether the diode is open or shorted. -/
def execThermalConversionDone (temp : Int) (diode : Bool) (s : State) : Host.Outcome State Fault Refusal :=
  .next (convDone temp diode s)

/-- CONVERSION_TIMEOUT (R530). -/
def execConversionTimeout (s : State) : Host.Outcome State Fault Refusal := .next (convTimeout s)

/-- CONFIRMATION_DUE (R532). -/
def execConfirmationDue (d : Fin 8) (s : State) : Host.Outcome State Fault Refusal := .next (confirmDue d s)

/-- GUARD_TIMER (R529). -/
def execGuardTimer (s : State) : Host.Outcome State Fault Refusal := .next (guardTimer s)

/-- THM_CONV (R529): a write of CONV to THM_CTRL. -/
def execThmConv (o : Origin) (d : Fin 8) (s : State) : Host.Outcome State Fault Refusal :=
  .next (writeBits o ⟨.THM_CTRL, 0, 0, 0⟩ (mkWord [(15, 15, 1), (14, 12, d.val)]) 0x7000 s)

/-- REARM (R536): a write of REARM to THM_CTRL. -/
def execRearm (o : Origin) (s : State) : Host.Outcome State Fault Refusal :=
  .next (writeBits o ⟨.THM_CTRL, 0, 0, 0⟩ 0x10000 0 s)

/-- MRAM_READING_STALE (R537). -/
def execMramReadingStale (s : State) : Host.Outcome State Fault Refusal := .next (readingStale s)

/-- REARM_WINDOW_EXPIRY (R536). -/
def execRearmWindowExpiry (s : State) : Host.Outcome State Fault Refusal := .next (rearmExpire s)

end Sys2Proof.Machine
end

