-- ==== Sys2Proof/Machine/WaleCmds.lean ====
section
/-!
DEFINITION. Machine/WaleCmds.lean: the commands of the wale fabric (11_wale_fabric.md, 12_guarantees.md).
-/
namespace Sys2Proof.Machine
open Sys2Proof

/-- From AUTH_FAIL to TRAIN after 1 s (R398). -/
def authRetry (w : WaleIx) (s : State) : State :=
  if (s.wport w).st = .authFail ∧ portEn s w then
    sendTrain w (portState w .train (endTrains w s))
  else s

/-- What may take a port DOWN: the root then computes the routes again (R424, R426). -/
def watchDown (w : WaleIx) (f : State → State) (s : State) : State :=
  let t := f s
  if (s.wport w).st = .up ∧ (t.wport w).st = .down then afterDown t else t

/-- WALE_PORT_ENABLE (R398): a write of EN to PORT_CTRL. -/
def execWalePortEnable (o : Origin) (w : WaleIx) (s : State) : Host.Outcome State Fault Refusal :=
  .next (writeBits o ⟨.PORT_CTRL, w.val, 0, 0⟩ 1 0 (clearSent s))

/-- WALE_PORT_DISABLE (R424): a write that clears EN. -/
def execWalePortDisable (o : Origin) (w : WaleIx) (s : State) : Host.Outcome State Fault Refusal :=
  .next (writeBits o ⟨.PORT_CTRL, w.val, 0, 0⟩ 0 1 (clearSent s))

/-- TRAIN (R398). -/
def execTrain (w : WaleIx) (p : TrainWord) (s : State) : Host.Outcome State Fault Refusal :=
  .next (trainWord w p.state.toNat p.number.toNat (clearSent s))

/-- AUTH_HELLO (R399). -/
def execAuthHello (w : WaleIx) (serial : Nat) (basket : Word) (key nonce : Nat) (s : State) :
    Host.Outcome State Fault Refusal :=
  .next (authHello w serial basket key nonce (clearSent s))

/-- AUTH_CERT (R399). -/
def execAuthCert (w : WaleIx) (cert : List Byte) (sig : Nat) (s : State) : Host.Outcome State Fault Refusal :=
  .next (authCert w cert sig (clearSent s))

/-- AUTH_TIMEOUT (R399). -/
def execAuthTimeout (w : WaleIx) (s : State) : Host.Outcome State Fault Refusal :=
  .next (if (s.wport w).authed then clearSent s else authFail w (clearSent s))

/-- AUTH_FAIL_RETRY (R398). -/
def execAuthFailRetry (w : WaleIx) (s : State) : Host.Outcome State Fault Refusal :=
  .next (authRetry w (clearSent s))

/-- ACK (R407). -/
def execAck (w : WaleIx) (resp : Bool) (seq : Fin 65536) (s : State) : Host.Outcome State Fault Refusal :=
  .next (ackWord w resp seq.val (endTrains w (clearSent s)))

/-- CREDIT (R406). -/
def execCredit (w : WaleIx) (q r : Byte) (s : State) : Host.Outcome State Fault Refusal :=
  .next (creditWord w q.toNat r.toNat (endTrains w (clearSent s)))

/-- TIME (R420). -/
def execTime (w : WaleIx) (t : Nat) (s : State) : Host.Outcome State Fault Refusal :=
  .next (timeWord w t (endTrains w (clearSent s)))

/-- TIME_RX (R420). -/
def execTimeRx (w : WaleIx) (t2 : Nat) (s : State) : Host.Outcome State Fault Refusal :=
  .next (timeRx w t2 (afterUp w) (endTrains w (clearSent s)))

/-- DOWN (R424). -/
def execDown (d : DownWord) (s : State) : Host.Outcome State Fault Refusal :=
  .next (watchDown d.port (portDown d.port 5)
    ((endTrains d.port (clearSent s)).modWport d.port fun p => { p with peerCause := d.cause.toNat }))

/-- ROUND_TIMER (R420). -/
def execRoundTimer (s : State) : Host.Outcome State Fault Refusal := .next (roundTimer (clearSent s))

/-- TIME_WORD_MISSING (R424). -/
def execTimeWordMissing (w : WaleIx) (s : State) : Host.Outcome State Fault Refusal :=
  .next (watchDown w (portDown w 3) (clearSent s))

/-- BLOCK_LOCK_LOSS (R424): whether block lock is lost, and the block errors within 125 µs. -/
def execBlockLockLoss (w : WaleIx) (lost : Bool) (n : Nat) (s : State) : Host.Outcome State Fault Refusal :=
  .next (watchDown w (blockErrors w lost n) (clearSent s))

/-- HOLD_DOWN_END (R425). -/
def execHoldDownEnd (w : WaleIx) (s : State) : Host.Outcome State Fault Refusal :=
  .next (if noHoldDown s w then startTrain w (clearSent s) else clearSent s)

/-- FRAME_REPLAY_TIMEOUT (R407). -/
def execFrameReplayTimeout (w : WaleIx) (resp : Bool) (s : State) : Host.Outcome State Fault Refusal :=
  .next (watchDown w (replayTimeout w resp) (clearSent s))

/-- STREAM_FRAME_RX (R412, R413): the frame, and the stream frames that wait on its way out. -/
def execStreamFrameRx (w : WaleIx) (bytes : List Byte) (waiting : Nat) (s : State) :
    Host.Outcome State Fault Refusal :=
  .next (streamRx w bytes waiting (clearSent s))

/-- STREAM_FRAME_TX (R412). -/
def execStreamFrameTx (k : DieIx) (i : StrandIx) (waiting : Nat) (s : State) : Host.Outcome State Fault Refusal :=
  .next (streamTx k i waiting (clearSent s))

/-- WALE_REGISTER_READ (R403). -/
def execWaleRegisterRead (w : WaleIx) (h : WaleHdr) (addr : Word) (s : State) : Host.Outcome State Fault Refusal :=
  .next (frameRx w h false ([1, 0, 0, 0] ++ wordBytes addr) (targetRx (fabRead addr)) s)

/-- WALE_REGISTER_WRITE (R403). -/
def execWaleRegisterWrite (w : WaleIx) (h : WaleHdr) (addr value : Word) (s : State) :
    Host.Outcome State Fault Refusal :=
  .next (frameRx w h false ([2, 0, 0, 0] ++ wordBytes addr ++ wordBytes value) (targetRx (fabWrite addr value)) s)

/-- WALE_MESSAGE (R403). -/
def execWaleMessage (w : WaleIx) (h : WaleHdr) (data : List Byte) (s : State) : Host.Outcome State Fault Refusal :=
  .next (frameRx w h false ([3, 0, 0, 0] ++ data) (targetRx (fabMessage data)) s)

/-- WALE_BULK_WRITE (R403). -/
def execWaleBulkWrite (w : WaleIx) (h : WaleHdr) (addr : Word) (data : List Byte) (s : State) :
    Host.Outcome State Fault Refusal :=
  .next (frameRx w h false ([4, 0, 0, 0] ++ wordBytes addr ++ data) (targetRx (fabBulk addr data)) s)

/-- ADMISSION_REQUEST (R410). -/
def execAdmissionRequest (w : WaleIx) (h : WaleHdr) (half : Bool) (block : Fin 8) (tag : Byte) (hops : Fin 64) (s : State) :
    Host.Outcome State Fault Refusal :=
  .next (frameRx w h false [0x10, BitVec.ofNat 8 (b2n half), BitVec.ofNat 8 block.val, tag, BitVec.ofNat 8
    hops.val] (unlessDenied fun f s => admitRx f half block.val tag.toNat hops.val s) s)

/-- RELEASE_REQUEST (R410). -/
def execReleaseRequest (w : WaleIx) (h : WaleHdr) (tag : Byte) (s : State) : Host.Outcome State Fault Refusal :=
  .next (frameRx w h false [0x11, tag] (unlessDenied fun f s => releaseRx f tag.toNat s) s)

/-- DISCOVERY_CLAIM (R415). -/
def execDiscoveryClaim (w : WaleIx) (h : WaleHdr) (serial : Nat) (cane : Bool) (level : Fin 64) (s : State) :
    Host.Outcome State Fault Refusal :=
  .next (frameRx w h false ([0x20] ++ leBytes 8 serial ++ [BitVec.ofNat 8
    (b2n cane), BitVec.ofNat 8 level.val]) (unlessDenied fun f s => claimRx f serial cane level.val s) s)

/-- DISCOVERY_PROBE (R416). -/
def execDiscoveryProbe (w : WaleIx) (h : WaleHdr) (addr level : Fin 64) (tree : Byte) (s : State) :
    Host.Outcome State Fault Refusal :=
  .next (frameRx w h false [0x21, BitVec.ofNat 8 addr.val, BitVec.ofNat 8 level.val, tree]
    (unlessDenied fun f s => probeRx f addr.val level.val tree.toNat s) s)

/-- ROUTE_TABLE_LOAD (R418). -/
def execRouteTableLoad (w : WaleIx) (h : WaleHdr) (version : Word) (codes : List Byte) (s : State) :
    Host.Outcome State Fault Refusal :=
  .next (frameRx w h false ([0x22] ++ wordBytes version ++ codes) (unlessDenied fun f s => tableRx f version.toNat
    (codes.map BitVec.toNat) s) s)

/-- LINK_EVENT (R426). -/
def execLinkEvent (w : WaleIx) (h : WaleHdr) (port : WaleIx) (state : Fin 5) (serial : Nat) (s : State) :
    Host.Outcome State Fault Refusal :=
  .next (frameRx w h false ([0x23, BitVec.ofNat 8 port.val, BitVec.ofNat 8 state.val] ++ leBytes 8 serial)
    (unlessDenied linkEventRx) s)

/-- RESPONSE_FRAME_RX (R402, R433). -/
def execResponseFrameRx (w : WaleIx) (h : WaleHdr) (code : Byte) (data : List Byte) (s : State) :
    Host.Outcome State Fault Refusal :=
  .next (frameRx w h true (code :: data) responseRx s)

/-- EP_ADMIT (R410): a write of ADMIT to EP_CTRL. -/
def execEpAdmit (o : Origin) (e : EpIx) (s : State) : Host.Outcome State Fault Refusal :=
  .next (writeReg o ⟨.EP_CTRL, e.val, 0, 0⟩ 0x80000000 (clearSent s))

/-- EP_RELEASE (R410): a write of RELEASE to EP_CTRL. -/
def execEpRelease (o : Origin) (e : EpIx) (s : State) : Host.Outcome State Fault Refusal :=
  .next (writeReg o ⟨.EP_CTRL, e.val, 0, 0⟩ 0x40000000 (clearSent s))

/-- ADMISSION_ANSWER (R410): the response to an admission request. -/
def execAdmissionAnswer (w : WaleIx) (h : WaleHdr) (fault : Fin 16) (route : Nat) (tag : Byte) (s : State) :
    Host.Outcome State Fault Refusal :=
  .next (frameRx w h true (codeBytes .ok (if fault = 0 then [0] ++ leBytes 4 route ++ [tag] else
    [BitVec.ofNat 8 fault.val])) responseRx s)

/-- ADMISSION_TIMEOUT (R410). -/
def execAdmissionTimeout (e : EpIx) (s : State) : Host.Outcome State Fault Refusal :=
  .next (admitTimeout e.val (clearSent s))

/-- READMIT (R427). -/
def execReadmit (e : EpIx) (s : State) : Host.Outcome State Fault Refusal := .next (readmit e.val (clearSent s))

/-- REDISCOVER (R416): a write of REDISCOVER to WALE_CTRL. -/
def execRediscover (o : Origin) (s : State) : Host.Outcome State Fault Refusal :=
  .next (writeBits o ⟨.WALE_CTRL, 0, 0, 0⟩ 1 0 (clearSent s))

/-- ROUTE_COMMIT (R419): a write of COMMIT to ROUTE_CMD. -/
def execRouteCommit (o : Origin) (s : State) : Host.Outcome State Fault Refusal :=
  .next (writeReg o ⟨.ROUTE_CMD, 0, 0, 0⟩ 1 (clearSent s))

/-- ROOT_LOSS_TIMEOUT (R427). -/
def execRootLossTimeout (s : State) : Host.Outcome State Fault Refusal := .next (rootLossTimeout (clearSent s))

/-- TXN_ATTEMPT_TIMEOUT (R433). -/
def execTxnAttemptTimeout (txn : Fin 65536) (dst : Fin 64) (s : State) : Host.Outcome State Fault Refusal :=
  .next (attemptTimeout txn.val dst.val (clearSent s))

/-- TXN_RETRY (R433). -/
def execTxnRetry (txn : Fin 65536) (dst : Fin 64) (s : State) : Host.Outcome State Fault Refusal :=
  .next (txnRetry txn.val dst.val (clearSent s))

end Sys2Proof.Machine
end

