-- ==== Sys2Proof/Machine/WithyControlCmds.lean ====
section
/-!
DEFINITION. Machine/WithyControlCmds.lean: fabric and control, opcodes 0x38 to 0x3F (07_withy_reference.md R285 to R290).
-/
namespace Sys2Proof.Machine
open Sys2Proof

/-- MSEND: the first of a reservation composes its message from s0 to s7 (R240, R286). -/
def compose (k : DieIx) (i : StrandIx) (r : Nat) (s : State) : State :=
  if (s.prog k i).sends.any fun (m : Nat × List Word) => m.1 == r then s
  else s.modProg k i fun p => { p with sends := p.sends ++ [(r, p.sc.s.toList.take 8)] }

/-- HALT: an invocation ends and its messages leave; a coil's job goes through the hardware stages. -/
def withyHalt (x : Ctx) (s : State) : State :=
  match x with
  | .strand k i => flushSends k i (invocationEnd k i s)
  | .coil c => coilStages c s

/-- FRECV (R239). -/
def execFrecv (x : Ctx) (s : State) : Host.Outcome State Fault Refusal :=
  .next (withy .frecv x (onStrand (fun k i w s => putV k i w.d (readQuarter (((s.prog k i).cur.recv[Fin.ofNat 4 (w.imm / 256)]).getD []) s x w) s) x) s)

/-- MSEND (R286). -/
def execMsend (x : Ctx) (s : State) : Host.Outcome State Fault Refusal :=
  .next (withy .msend x (onStrand (fun k i w s => compose k i (w.imm / 256 % 4) s) x) s)

/-- MRECV (R287). -/
def execMrecv (x : Ctx) (s : State) : Host.Outcome State Fault Refusal :=
  .next (withy .mrecv x (onStrand (fun k i w s => putS x w.d (BitVec.ofNat 32 (field ((s.prog k i).cur.msg[Fin.ofNat 4 (w.imm / 256)]) (4 * (w.imm % 8)) 4)) s) x) s)

/-- LOOP (R226). -/
def execLoop (x : Ctx) (s : State) : Host.Outcome State Fault Refusal :=
  .next (withy .loop x (fun w s => withyLoop x w s) s)

/-- END (R288). -/
def execEndLoop (x : Ctx) (s : State) : Host.Outcome State Fault Refusal :=
  .next (withy .endLoop x (fun _ s => withyEnd x s) s)

/-- EVENT (R289). -/
def execEvent (x : Ctx) (s : State) : Host.Outcome State Fault Refusal :=
  .next (withy .event x (fun w s => withyEvent x w s) s)

/-- HALT (R288). -/
def execHalt (x : Ctx) (s : State) : Host.Outcome State Fault Refusal :=
  .next (withy .halt x (fun _ s => withyHalt x s) s)

end Sys2Proof.Machine
end

