-- ==== Sys2Proof/Machine/WithyMoveCmds.lean ====
section
/-!
DEFINITION. Machine/WithyMoveCmds.lean: the Withy instructions of opcodes 0x00 to 0x0C (07_withy_reference.md R266 to R269).
-/
namespace Sys2Proof.Machine
open Sys2Proof

/-- x of the present invocation on the lane scale, none where it is not valid (R220, R224). -/
def inputLanes (s : State) (k : DieIx) (i : StrandIx) : List Cx :=
  let b := (s.prog k i).cur.x
  if b.valid then b.xs.map fun (z : Cx) => z.scale 256 else []

/-- WROUT into a quarter: rounding and clamping to 16 bits, OCLIP for a clamp (R224). -/
def writeOut (k : DieIx) (i : StrandIx) (q : Nat) (v : Lanes) (s : State) : State :=
  let r := v.map to16
  s.modProg k i fun p =>
    { p with out := vset p.out (Fin.ofNat 4 q) (some (r.map (satCx 16))), fOclip := p.fOclip || overLanes 16 r }

/-- VGET: one lane rounded to 16 bits. -/
def getLane (k : DieIx) (i : StrandIx) (d : Nat) (z : Cx) (s : State) : State :=
  let r := to16 z
  let c := satCx 16 r
  setSat (c != r) (.strand k i) (putS (.strand k i) d (mkWord [(31, 16, enc 16 c.im), (15, 0, enc 16 c.re)]) s)

/-- XOUT (09_coil_engine.md R337). -/
def putOut (c : CoilIx) (n : Nat) (v : Int) (s : State) : State :=
  s.modCoil c fun q => { q with loop := match n with
    | 0 => { q.loop with out0 := v } | 1 => { q.loop with out1 := v } | _ => { q.loop with out2 := v } }

/-- Entry i of table t of a coil. -/
def tabEntry (s : State) (c : CoilIx) (t i : Nat) : Int :=
  (readWord .coilTab (c.val * 2 ^ 16 + t * 0x400 + i % 256 * 4) s).toInt

/-- XTAB (R269). -/
def tableAt (s : State) (c : CoilIx) (t : Nat) (v : Int) : Int :=
  let i := ((v / 65536) % 256).toNat
  let a := tabEntry s c t i
  roundDiv (a * 65536 + (v % 65536) * (tabEntry s c t (i + 1) - a)) 65536

/-- RDIN (R266). -/
def execRdin (x : Ctx) (s : State) : Host.Outcome State Fault Refusal :=
  .next (withy .rdin x (onStrand (fun k i w s => putV k i w.d (readQuarter (inputLanes s k i) s x w) s) x) s)

/-- WROUT (R266). -/
def execWrout (x : Ctx) (s : State) : Host.Outcome State Fault Refusal :=
  .next (withy .wrout x (onStrand (fun k i w s => writeOut k i (quarterOf s x w) (vReg s k i w.b) s) x) s)

/-- MOV (R266). -/
def execMov (x : Ctx) (s : State) : Host.Outcome State Fault Refusal :=
  .next (withy .mov x (onStrand (fun k i w s => putV k i w.d (vReg s k i w.a) s) x) s)

/-- AMOV (R266). -/
def execAmov (x : Ctx) (s : State) : Host.Outcome State Fault Refusal :=
  .next (withy .amov x (onStrand (fun k i w s => putA k i w.d (aReg s k i w.a) s) x) s)

/-- SMOV (R266). -/
def execSmov (x : Ctx) (s : State) : Host.Outcome State Fault Refusal :=
  .next (withy .smov x (fun w s => putS x w.d (sReg s x w.a) s) s)

/-- XMOV (R266). -/
def execXmov (x : Ctx) (s : State) : Host.Outcome State Fault Refusal :=
  .next (withy .xmov x (onCoil (fun c w s => putX c w.d (xReg s c w.a) s) x) s)

/-- LDS (R266). -/
def execLds (x : Ctx) (s : State) : Host.Outcome State Fault Refusal :=
  .next (withy .lds x (fun w s => putS x w.d (BitVec.ofNat 32 w.imm) s) s)

/-- LDC (R266). -/
def execLdc (x : Ctx) (s : State) : Host.Outcome State Fault Refusal :=
  .next (withy .ldc x (onStrand (fun k i w s => putV k i w.d (coefRow s k i (rowOf s x w w.a)) s) x) s)

/-- VSPLAT (R266). -/
def execVsplat (x : Ctx) (s : State) : Host.Outcome State Fault Refusal :=
  .next (withy .vsplat x (onStrand (fun k i w s => putV k i w.d (Vector.replicate 16 (coefCx (sReg s x w.a).toNat)) s) x) s)

/-- STAT (R220). -/
def execStat (x : Ctx) (s : State) : Host.Outcome State Fault Refusal :=
  .next (withy .stat x (onStrand (fun k i w s => putS x w.d (invStatus s k i) s) x) s)

/-- VGET (R266). -/
def execVget (x : Ctx) (s : State) : Host.Outcome State Fault Refusal :=
  .next (withy .vget x (onStrand (fun k i w s => getLane k i w.d (vReg s k i w.a)[Fin.ofNat 16 w.imm] s) x) s)

/-- LDX (R266). -/
def execLdx (x : Ctx) (s : State) : Host.Outcome State Fault Refusal :=
  .next (withy .ldx x (onCoil (fun c w s => putX c w.d (signed 32 w.imm) s) x) s)

/-- XIN (R336). -/
def execXin (x : Ctx) (s : State) : Host.Outcome State Fault Refusal :=
  .next (withy .xin x (onCoil (fun c w s => putX c w.d ((s.coils[c]).snsIn.toList.getD (w.imm % 16) 0) s) x) s)

/-- XOUT (R337). -/
def execXout (x : Ctx) (s : State) : Host.Outcome State Fault Refusal :=
  .next (withy .xout x (onCoil (fun c w s => putOut c (w.imm % 8) (xReg s c w.a) s) x) s)

/-- XTAB (R269). -/
def execXtab (x : Ctx) (s : State) : Host.Outcome State Fault Refusal :=
  .next (withy .xtab x (onCoil (fun c w s => putX c w.d (tableAt s c (w.imm % 2) (xReg s c w.a)) s) x) s)

/-- XFROMS (R266). -/
def execXfroms (x : Ctx) (s : State) : Host.Outcome State Fault Refusal :=
  .next (withy .xfroms x (onCoil (fun c w s => putX c w.d (sReg s x w.a).toInt s) x) s)

/-- SFROMX (R266). -/
def execSfromx (x : Ctx) (s : State) : Host.Outcome State Fault Refusal :=
  .next (withy .sfromx x (onCoil (fun c w s => putS x w.d (BitVec.ofInt 32 (xReg s c w.a)) s) x) s)

end Sys2Proof.Machine
end

