-- ==== Sys2Proof/Machine/WithyScalarCmds.lean ====
section
/-!
DEFINITION. Machine/WithyScalarCmds.lean: the scalar and loop-profile instructions of opcodes 0x18 to 0x1F (07_withy_reference.md R271
to R274).
-/
namespace Sys2Proof.Machine
open Sys2Proof

/-- SADDI (R271). -/
def execSaddi (x : Ctx) (s : State) : Host.Outcome State Fault Refusal :=
  .next (withy .saddi x (fun w s => putSigned x w.d ((sReg s x w.a).toInt + signed 32 w.imm) s) s)

/-- SMAX (R271). -/
def execSmax (x : Ctx) (s : State) : Host.Outcome State Fault Refusal :=
  .next (withy .smax x (fun w s => putS x w.d (if (sReg s x w.a).toNat < (sReg s x w.b).toNat then sReg s x w.b else sReg s x w.a) s) s)

/-- SMIN (R271). -/
def execSmin (x : Ctx) (s : State) : Host.Outcome State Fault Refusal :=
  .next (withy .smin x (fun w s => putS x w.d (if (sReg s x w.a).toNat < (sReg s x w.b).toNat then sReg s x w.a else sReg s x w.b) s) s)

/-- SADD (R271). -/
def execSadd (x : Ctx) (s : State) : Host.Outcome State Fault Refusal :=
  .next (withy .sadd x (fun w s => putSigned x w.d ((sReg s x w.a).toInt + (sReg s x w.b).toInt) s) s)

/-- SSUB (R271). -/
def execSsub (x : Ctx) (s : State) : Host.Outcome State Fault Refusal :=
  .next (withy .ssub x (fun w s => putSigned x w.d ((sReg s x w.a).toInt - (sReg s x w.b).toInt) s) s)

/-- SAND (R271). -/
def execSand (x : Ctx) (s : State) : Host.Outcome State Fault Refusal :=
  .next (withy .sand x (fun w s => putS x w.d ((sReg s x w.a) &&& (sReg s x w.b)) s) s)

/-- SOR (R271). -/
def execSor (x : Ctx) (s : State) : Host.Outcome State Fault Refusal :=
  .next (withy .sor x (fun w s => putS x w.d ((sReg s x w.a) ||| (sReg s x w.b)) s) s)

/-- SXOR (R271). -/
def execSxor (x : Ctx) (s : State) : Host.Outcome State Fault Refusal :=
  .next (withy .sxor x (fun w s => putS x w.d ((sReg s x w.a) ^^^ (sReg s x w.b)) s) s)

/-- SSHL (R271). -/
def execSshl (x : Ctx) (s : State) : Host.Outcome State Fault Refusal :=
  .next (withy .sshl x (fun w s => putSigned x w.d ((sReg s x w.a).toInt * 2 ^ ((sReg s x w.b).toNat % 32)) s) s)

/-- SSHR (R271). -/
def execSshr (x : Ctx) (s : State) : Host.Outcome State Fault Refusal :=
  .next (withy .sshr x (fun w s => putS x w.d ((sReg s x w.a).sshiftRight ((sReg s x w.b).toNat % 32)) s) s)

/-- SLSR (R271). -/
def execSlsr (x : Ctx) (s : State) : Host.Outcome State Fault Refusal :=
  .next (withy .slsr x (fun w s => putS x w.d ((sReg s x w.a) >>> ((sReg s x w.b).toNat % 32)) s) s)

/-- SMUL (R271). -/
def execSmul (x : Ctx) (s : State) : Host.Outcome State Fault Refusal :=
  .next (withy .smul x (fun w s => putSigned x w.d (roundDiv ((sReg s x w.a).toInt * (sReg s x w.b).toInt) (2 ^ (w.mod_ % 32))) s) s)

/-- STEST (R271). -/
def execStest (x : Ctx) (s : State) : Host.Outcome State Fault Refusal :=
  .next (withy .stest x (fun w s => putP x w.d (bit (sReg s x w.a) (w.imm % 32)) s) s)

/-- SCMP (R272). -/
def execScmp (x : Ctx) (s : State) : Host.Outcome State Fault Refusal :=
  .next (withy .scmp x (fun w s => putP x w.d (condHolds (w.mod_ % 8) (sReg s x w.a) (BitVec.ofNat 32 w.imm)) s) s)

/-- XCMP (R273). -/
def execXcmp (x : Ctx) (s : State) : Host.Outcome State Fault Refusal :=
  .next (withy .xcmp x (onCoil (fun c w s => putP x w.d (condHolds (w.mod_ % 4) (BitVec.ofInt 32 (xReg s c w.a)) (BitVec.ofInt 32 (xReg s c w.b))) s) x) s)

/-- XADD (R273). -/
def execXadd (x : Ctx) (s : State) : Host.Outcome State Fault Refusal :=
  .next (withy .xadd x (onCoil (fun c w s => putX c w.d (xReg s c w.a + xReg s c w.b) s) x) s)

/-- XSUB (R273). -/
def execXsub (x : Ctx) (s : State) : Host.Outcome State Fault Refusal :=
  .next (withy .xsub x (onCoil (fun c w s => putX c w.d (xReg s c w.a - xReg s c w.b) s) x) s)

/-- XMUL (R273). -/
def execXmul (x : Ctx) (s : State) : Host.Outcome State Fault Refusal :=
  .next (withy .xmul x (onCoil (fun c w s => putX c w.d (roundDiv (xReg s c w.a * xReg s c w.b) 65536) s) x) s)

/-- XMIN (R273). -/
def execXmin (x : Ctx) (s : State) : Host.Outcome State Fault Refusal :=
  .next (withy .xmin x (onCoil (fun c w s => putX c w.d (min (xReg s c w.a) (xReg s c w.b)) s) x) s)

/-- XMAX (R273). -/
def execXmax (x : Ctx) (s : State) : Host.Outcome State Fault Refusal :=
  .next (withy .xmax x (onCoil (fun c w s => putX c w.d (max (xReg s c w.a) (xReg s c w.b)) s) x) s)

/-- XABS (R273). -/
def execXabs (x : Ctx) (s : State) : Host.Outcome State Fault Refusal :=
  .next (withy .xabs x (onCoil (fun c w s => putX c w.d ((xReg s c w.a).natAbs : Int) s) x) s)

/-- XNEG (R273). -/
def execXneg (x : Ctx) (s : State) : Host.Outcome State Fault Refusal :=
  .next (withy .xneg x (onCoil (fun c w s => putX c w.d (-(xReg s c w.a)) s) x) s)

/-- XCLMP (R273). -/
def execXclmp (x : Ctx) (s : State) : Host.Outcome State Fault Refusal :=
  .next (withy .xclmp x (onCoil (fun c w s => putX c w.d (max (xReg s c w.a) (min (xReg s c w.d) (xReg s c w.b))) s) x) s)

end Sys2Proof.Machine
end

