-- ==== Sys2Proof/Machine/WithySpecialCmds.lean ====
section
/-!
DEFINITION. Machine/WithySpecialCmds.lean: program NCO, filters, canceller, guard and measurement, opcodes 0x20 to 0x34
(07_withy_reference.md R275 to R284).
-/
namespace Sys2Proof.Machine
open Sys2Proof

/-- VROT: the lanes turn, and the program NCO moves on by sixteen steps. -/
def rotateV (k : DieIx) (i : StrandIx) (d : Nat) (a : Lanes) (f : Nat) (s : State) : State :=
  let phi := (s.prog k i).vec.phi
  modVec k i (fun v => { v with phi := (phi + 16 * f) % 2 ^ 32 }) (putV k i d (rotate phi f a) s)

/-- VFIR on a filter slot, which keeps the last 15 samples. -/
def filterV (k : DieIx) (i : StrandIx) (d n : Nat) (a c : Lanes) (s : State) : State :=
  let n : Fin 4 := Fin.ofNat 4 n
  let z := withHistory ((s.prog k i).vec.filt[n]) 15 a
  modVec k i (fun v => { v with filt := vset v.filt n (z.drop 16) }) (putV k i d (firLanes z c) s)

/-- VFRAC on a delay slot, which keeps the last 3 samples. -/
def delayV (k : DieIx) (i : StrandIx) (d n : Nat) (a : Lanes) (m : Nat) (s : State) : State :=
  let n : Fin 4 := Fin.ofNat 4 n
  let z := withHistory ((s.prog k i).vec.dly[n]) 3 a
  modVec k i (fun v => { v with dly := vset v.dly n (z.drop 16) }) (putV k i d (fracLanes z m) s)

/-- GTRIP: TRIP is set, and a receiver's guard takes a program trip (R282). -/
def trip (k : DieIx) (i : StrandIx) (s : State) : State :=
  let s := s.modProg k i fun p => { p with fTrip := true }
  if isReceiverNow s k i then programTrip k i s else s

/-- The lane powers of a vector on the 16-bit scale (R283). -/
def powers (a : Lanes) : List Nat := a.toList.map lanePower

/-- SDB (R284). -/
def decibels (p : Nat) : Int := if p = 0 then -20000 else db100 p (2 ^ 29)

/-- VROT (R277). -/
def execVrot (x : Ctx) (s : State) : Host.Outcome State Fault Refusal :=
  .next (withy .vrot x (onStrand (fun k i w s => rotateV k i w.d (vReg s k i w.a) (sReg s x w.b).toNat s) x) s)

/-- RSET (R276). -/
def execRset (x : Ctx) (s : State) : Host.Outcome State Fault Refusal :=
  .next (withy .rset x (onStrand (fun k i w s => modVec k i (fun v => { v with phi := (sReg s x w.a).toNat }) s) x) s)

/-- RSTEP (R276). -/
def execRstep (x : Ctx) (s : State) : Host.Outcome State Fault Refusal :=
  .next (withy .rstep x (onStrand (fun k i w s => modVec k i (fun v => { v with phi := (v.phi + (sReg s x w.a).toNat) % 2 ^ 32 }) s) x) s)

/-- VFIR (R278). -/
def execVfir (x : Ctx) (s : State) : Host.Outcome State Fault Refusal :=
  .next (withy .vfir x (onStrand (fun k i w s => filterV k i w.d (w.imm / 2 ^ 12) (vReg s k i w.a) (coefRow s k i (rowOf s x w w.b)) s) x) s)

/-- VFRAC (R279). -/
def execVfrac (x : Ctx) (s : State) : Host.Outcome State Fault Refusal :=
  .next (withy .vfrac x (onStrand (fun k i w s => delayV k i w.d w.imm (vReg s k i w.a) ((sReg s x w.b).toNat % 256) s) x) s)

/-- CRES (R280). -/
def execCres (x : Ctx) (s : State) : Host.Outcome State Fault Refusal :=
  .next (withy .cres x (onStrand (fun k i w s => putV k i w.d (readQuarter (s.prog k i).cur.resid s x w) s) x) s)

/-- CEST (R280). -/
def execCest (x : Ctx) (s : State) : Host.Outcome State Fault Refusal :=
  .next (withy .cest x (onStrand (fun k i w s => putV k i w.d (readQuarter (s.prog k i).cur.est s x w) s) x) s)

/-- GTRIP (R282). -/
def execGtrip (x : Ctx) (s : State) : Host.Outcome State Fault Refusal :=
  .next (withy .gtrip x (onStrand (fun k i _ s => trip k i s) x) s)

/-- CREF (R280). -/
def execCref (x : Ctx) (s : State) : Host.Outcome State Fault Refusal :=
  .next (withy .cref x (onStrand (fun k i w s => putV k i w.d (readQuarter (if w.imm / 256 % 2 = 1 then (s.prog k i).cur.ref1 else (s.prog k i).cur.ref0) s x w) s) x) s)

/-- GMON (R280). -/
def execGmon (x : Ctx) (s : State) : Host.Outcome State Fault Refusal :=
  .next (withy .gmon x (onStrand (fun k i w s => putS x w.d (s.prog k i).cur.gmon s) x) s)

/-- VPEAK (R283). -/
def execVpeak (x : Ctx) (s : State) : Host.Outcome State Fault Refusal :=
  .next (withy .vpeak x (onStrand (fun k i w s => putS x w.d (BitVec.ofNat 32 ((powers (vReg s k i w.a)).foldl max 0)) s) x) s)

/-- VPOW (R283). -/
def execVpow (x : Ctx) (s : State) : Host.Outcome State Fault Refusal :=
  .next (withy .vpow x (onStrand (fun k i w s => putS x w.d (BitVec.ofInt 32 (roundDiv ((powers (vReg s k i w.a)).foldl (· + ·) 0 : Nat) 16)) s) x) s)

/-- VCNT (R283). -/
def execVcnt (x : Ctx) (s : State) : Host.Outcome State Fault Refusal :=
  .next (withy .vcnt x (onStrand (fun k i w s => putS x w.d (BitVec.ofNat 32 ((powers (vReg s k i w.a)).filter fun (p : Nat) => decide ((sReg s x w.b).toNat ≤ p)).length) s) x) s)

/-- ENV (R236). -/
def execEnv (x : Ctx) (s : State) : Host.Outcome State Fault Refusal :=
  .next (withy .env x (onStrand (fun k i w s => s.modProg k i (fun p => { p with env := some (sReg s x w.a) })) x) s)

/-- SDB (R284). -/
def execSdb (x : Ctx) (s : State) : Host.Outcome State Fault Refusal :=
  .next (withy .sdb x (fun w s => putS x w.d (BitVec.ofInt 32 (decibels (sReg s x w.a).toNat)) s) s)

end Sys2Proof.Machine
end

