-- ==== Sys2Proof/Machine/WithyVectorCmds.lean ====
section
/-!
DEFINITION. Machine/WithyVectorCmds.lean: the vector instructions of opcodes 0x10 to 0x17 (07_withy_reference.md R270).
-/
namespace Sys2Proof.Machine
open Sys2Proof

/-- The complex lane products of vA and vB or its conjugate, rounded by 2^n. -/
def product (n : Nat) (conj : Bool) (s : State) (k : DieIx) (i : StrandIx) (w : WWord) : Lanes :=
  lanes2 (fun a b => roundCx n (a.mul (if conj then b.conj else b))) (vReg s k i w.a) (vReg s k i w.b)

/-- A lane scaled by 2^up and divided by 2^down, rounded. -/
def shiftCx (down : Nat) (up : Int) (z : Cx) : Cx := roundCx down (z.scale ((2 : Int) ^ up.toNat))

/-- VADD (R270). -/
def execVadd (x : Ctx) (s : State) : Host.Outcome State Fault Refusal :=
  .next (withy .vadd x (onStrand (fun k i w s => putV k i w.d (lanes2 Cx.add (vReg s k i w.a) (vReg s k i w.b)) s) x) s)

/-- VSUB (R270). -/
def execVsub (x : Ctx) (s : State) : Host.Outcome State Fault Refusal :=
  .next (withy .vsub x (onStrand (fun k i w s => putV k i w.d (lanes2 Cx.sub (vReg s k i w.a) (vReg s k i w.b)) s) x) s)

/-- VCMUL (R270). -/
def execVcmul (x : Ctx) (s : State) : Host.Outcome State Fault Refusal :=
  .next (withy .vcmul x (onStrand (fun k i w s => putV k i w.d (product 23 false s k i w) s) x) s)

/-- VCMULC (R270). -/
def execVcmulc (x : Ctx) (s : State) : Host.Outcome State Fault Refusal :=
  .next (withy .vcmulc x (onStrand (fun k i w s => putV k i w.d (product 23 true s k i w) s) x) s)

/-- VMAC (R270). -/
def execVmac (x : Ctx) (s : State) : Host.Outcome State Fault Refusal :=
  .next (withy .vmac x (onStrand (fun k i w s => putA k i w.d (lanes2 Cx.add (aReg s k i w.d) (product 15 false s k i w)) s) x) s)

/-- VMACC (R270). -/
def execVmacc (x : Ctx) (s : State) : Host.Outcome State Fault Refusal :=
  .next (withy .vmacc x (onStrand (fun k i w s => putA k i w.d (lanes2 Cx.add (aReg s k i w.d) (product 15 true s k i w)) s) x) s)

/-- VMUL (R270). -/
def execVmul (x : Ctx) (s : State) : Host.Outcome State Fault Refusal :=
  .next (withy .vmul x (onStrand (fun k i w s => putA k i w.d (product 15 false s k i w) s) x) s)

/-- VMULC (R270). -/
def execVmulc (x : Ctx) (s : State) : Host.Outcome State Fault Refusal :=
  .next (withy .vmulc x (onStrand (fun k i w s => putA k i w.d (product 15 true s k i w) s) x) s)

/-- VPACK (R270). -/
def execVpack (x : Ctx) (s : State) : Host.Outcome State Fault Refusal :=
  .next (withy .vpack x (onStrand (fun k i w s => putV k i w.d (lanes1 (shiftCx 24 (signed 5 w.imm + 16)) (aReg s k i w.a)) s) x) s)

/-- VSHF (R270). -/
def execVshf (x : Ctx) (s : State) : Host.Outcome State Fault Refusal :=
  .next (withy .vshf x (onStrand (fun k i w s => putV k i w.d (lanes1 (shiftCx 23 (signed 6 w.imm + 23)) (vReg s k i w.a)) s) x) s)

/-- VCONJ (R270). -/
def execVconj (x : Ctx) (s : State) : Host.Outcome State Fault Refusal :=
  .next (withy .vconj x (onStrand (fun k i w s => putV k i w.d (lanes1 Cx.conj (vReg s k i w.a)) s) x) s)

/-- VNEG (R270). -/
def execVneg (x : Ctx) (s : State) : Host.Outcome State Fault Refusal :=
  .next (withy .vneg x (onStrand (fun k i w s => putV k i w.d (lanes1 (fun z => ⟨-z.re, -z.im⟩) (vReg s k i w.a)) s) x) s)

/-- VMULJ (R270). -/
def execVmulj (x : Ctx) (s : State) : Host.Outcome State Fault Refusal :=
  .next (withy .vmulj x (onStrand (fun k i w s => putV k i w.d (lanes1 (fun z => ⟨-z.im, z.re⟩) (vReg s k i w.a)) s) x) s)

/-- VSWAP (R270). -/
def execVswap (x : Ctx) (s : State) : Host.Outcome State Fault Refusal :=
  .next (withy .vswap x (onStrand (fun k i w s => putV k i w.d (lanes1 (fun z => ⟨z.im, z.re⟩) (vReg s k i w.a)) s) x) s)

/-- VSCL (R270). -/
def execVscl (x : Ctx) (s : State) : Host.Outcome State Fault Refusal :=
  .next (withy .vscl x (onStrand (fun k i w s => putV k i w.d (lanes1 (fun z => roundCx 23 (z.mul (coefCx (sReg s x w.b).toNat))) (vReg s k i w.a)) s) x) s)

end Sys2Proof.Machine
end

