-- ==== Sys2Proof/Machine/Dispatch.lean ====
section
/-!
DEFINITION. Machine/Dispatch.lean: one arm per command, each one direct call of its meaning.
-/
namespace Sys2Proof.Machine
open Sys2Proof

def exec (i : Instr) (s : State) : Host.Outcome State Fault Refusal :=
  match i with
  | .registerWrite o bytes addr w => Sys2Proof.Machine.execRegisterWrite o bytes addr w s
  | .ftLoRead o => Sys2Proof.Machine.execFtLoRead o s
  | .wtLoRead o => Sys2Proof.Machine.execWtLoRead o s
  | .controlPacketRetry k => Sys2Proof.Machine.execControlPacketRetry k s
  | .controlLaneLost k => Sys2Proof.Machine.execControlLaneLost k s
  | .bandDieSelfMute k => Sys2Proof.Machine.execBandDieSelfMute k s
  | .bandDieRelease k => Sys2Proof.Machine.execBandDieRelease k s
  | .ncoApply o k i1 => Sys2Proof.Machine.execNcoApply o k i1 s
  | .ncoCommit k i1 => Sys2Proof.Machine.execNcoCommit k i1 s
  | .rdlSyncNow o k mask => Sys2Proof.Machine.execRdlSyncNow o k mask s
  | .rdlSyncArm o k mask => Sys2Proof.Machine.execRdlSyncArm o k mask s
  | .rdlSyncCancel o k => Sys2Proof.Machine.execRdlSyncCancel o k s
  | .timedSyncReset k => Sys2Proof.Machine.execTimedSyncReset k s
  | .fillCountEnd k i1 => Sys2Proof.Machine.execFillCountEnd k i1 s
  | .delayTakeEffect k i1 => Sys2Proof.Machine.execDelayTakeEffect k i1 s
  | .swapReq o k i1 target fade => Sys2Proof.Machine.execSwapReq o k i1 target fade s
  | .rdlGroupSwap o k mask target fade => Sys2Proof.Machine.execRdlGroupSwap o k mask target fade s
  | .fadeStart k i1 => Sys2Proof.Machine.execFadeStart k i1 s
  | .fadeEnd k i1 => Sys2Proof.Machine.execFadeEnd k i1 s
  | .coefBankEccError k loc => Sys2Proof.Machine.execCoefBankEccError k loc s
  | .strStart o k i1 => Sys2Proof.Machine.execStrStart o k i1 s
  | .strStop o k i1 => Sys2Proof.Machine.execStrStop o k i1 s
  | .strGroupStart o k mask => Sys2Proof.Machine.execStrGroupStart o k mask s
  | .strGroupStop o k mask => Sys2Proof.Machine.execStrGroupStop o k mask s
  | .strandRunning k i1 => Sys2Proof.Machine.execStrandRunning k i1 s
  | .strandStopped k i1 => Sys2Proof.Machine.execStrandStopped k i1 s
  | .levelStageBlock k i1 => Sys2Proof.Machine.execLevelStageBlock k i1 s
  | .gateRampEnd k i1 => Sys2Proof.Machine.execGateRampEnd k i1 s
  | .meterWindowEnd k i1 => Sys2Proof.Machine.execMeterWindowEnd k i1 s
  | .limiterBlockEnter k i1 => Sys2Proof.Machine.execLimiterBlockEnter k i1 s
  | .limiterBlockLeave k i1 => Sys2Proof.Machine.execLimiterBlockLeave k i1 s
  | .streamParityError k i1 loc => Sys2Proof.Machine.execStreamParityError k i1 loc s
  | .blockAtPointIn k i1 valid xs ovr r0 r1 refsValid => Sys2Proof.Machine.execBlockAtPointIn k i1 valid xs ovr r0 r1 refsValid s
  | .probePeriodEnd k i1 chips pref c0 c1 fl => Sys2Proof.Machine.execProbePeriodEnd k i1 chips pref c0 c1 fl s
  | .estimateLapse k i1 => Sys2Proof.Machine.execEstimateLapse k i1 s
  | .soundReq o k i1 => Sys2Proof.Machine.execSoundReq o k i1 s
  | .placeReq o k i1 => Sys2Proof.Machine.execPlaceReq o k i1 s
  | .placementCommit k i1 => Sys2Proof.Machine.execPlacementCommit k i1 s
  | .polynomialChange k i1 => Sys2Proof.Machine.execPolynomialChange k i1 s
  | .guardWindowEnd k i1 => Sys2Proof.Machine.execGuardWindowEnd k i1 s
  | .checkpointRestore k i1 => Sys2Proof.Machine.execCheckpointRestore k i1 s
  | .guardHoldEnd k i1 => Sys2Proof.Machine.execGuardHoldEnd k i1 s
  | .ugHoldExpired k i1 => Sys2Proof.Machine.execUgHoldExpired k i1 s
  | .ugKeepStart k i1 => Sys2Proof.Machine.execUgKeepStart k i1 s
  | .ugKeepEnd k i1 => Sys2Proof.Machine.execUgKeepEnd k i1 s
  | .presenceCheckTrigger k e => Sys2Proof.Machine.execPresenceCheckTrigger k e s
  | .presenceCheckOverdue k e => Sys2Proof.Machine.execPresenceCheckOverdue k e s
  | .presenceStartTimeout k e => Sys2Proof.Machine.execPresenceStartTimeout k e s
  | .presenceCheckDone k e cells => Sys2Proof.Machine.execPresenceCheckDone k e cells s
  | .ssBurstDetected k freq port t power => Sys2Proof.Machine.execSsBurstDetected k freq port t power s
  | .tddApply o k => Sys2Proof.Machine.execTddApply o k s
  | .tddPatternBoundary k => Sys2Proof.Machine.execTddPatternBoundary k s
  | .tddTimingLapse k => Sys2Proof.Machine.execTddTimingLapse k s
  | .tddWindowSwitch k p toTx => Sys2Proof.Machine.execTddWindowSwitch k p toTx s
  | .dutyHit k p frac => Sys2Proof.Machine.execDutyHit k p frac s
  | .dutyRecover k p frac => Sys2Proof.Machine.execDutyRecover k p frac s
  | .leanEnter k g => Sys2Proof.Machine.execLeanEnter k g s
  | .leanLeave k g => Sys2Proof.Machine.execLeanLeave k g s
  | .regEditOpen o => Sys2Proof.Machine.execRegEditOpen o s
  | .regEditDiscard o => Sys2Proof.Machine.execRegEditDiscard o s
  | .regEditCommit o => Sys2Proof.Machine.execRegEditCommit o s
  | .regCommitDone verified => Sys2Proof.Machine.execRegCommitDone verified s
  | .invocation k i1 => Sys2Proof.Machine.execInvocation k i1 s
  | .outputRelease k i1 => Sys2Proof.Machine.execOutputRelease k i1 s
  | .lookaheadDelivery k i1 => Sys2Proof.Machine.execLookaheadDelivery k i1 s
  | .messageArrival k i1 r bytes => Sys2Proof.Machine.execMessageArrival k i1 r bytes s
  | .prgLoad o k slot => Sys2Proof.Machine.execPrgLoad o k slot s
  | .prgFetch o k slot lib => Sys2Proof.Machine.execPrgFetch o k slot lib s
  | .prgStore o k lib => Sys2Proof.Machine.execPrgStore o k lib s
  | .prgBind o k slot => Sys2Proof.Machine.execPrgBind o k slot s
  | .prgUnbind o k => Sys2Proof.Machine.execPrgUnbind o k s
  | .prgFree o k slot => Sys2Proof.Machine.execPrgFree o k slot s
  | .prgErase o k lib => Sys2Proof.Machine.execPrgErase o k lib s
  | .prgCmdDone k => Sys2Proof.Machine.execPrgCmdDone k s
  | .prgParamApply o k i1 => Sys2Proof.Machine.execPrgParamApply o k i1 s
  | .rdin x => Sys2Proof.Machine.execRdin x s
  | .wrout x => Sys2Proof.Machine.execWrout x s
  | .mov x => Sys2Proof.Machine.execMov x s
  | .amov x => Sys2Proof.Machine.execAmov x s
  | .smov x => Sys2Proof.Machine.execSmov x s
  | .xmov x => Sys2Proof.Machine.execXmov x s
  | .lds x => Sys2Proof.Machine.execLds x s
  | .ldc x => Sys2Proof.Machine.execLdc x s
  | .vsplat x => Sys2Proof.Machine.execVsplat x s
  | .stat x => Sys2Proof.Machine.execStat x s
  | .vget x => Sys2Proof.Machine.execVget x s
  | .ldx x => Sys2Proof.Machine.execLdx x s
  | .xin x => Sys2Proof.Machine.execXin x s
  | .xout x => Sys2Proof.Machine.execXout x s
  | .xtab x => Sys2Proof.Machine.execXtab x s
  | .xfroms x => Sys2Proof.Machine.execXfroms x s
  | .sfromx x => Sys2Proof.Machine.execSfromx x s
  | .vadd x => Sys2Proof.Machine.execVadd x s
  | .vsub x => Sys2Proof.Machine.execVsub x s
  | .vcmul x => Sys2Proof.Machine.execVcmul x s
  | .vcmulc x => Sys2Proof.Machine.execVcmulc x s
  | .vmac x => Sys2Proof.Machine.execVmac x s
  | .vmacc x => Sys2Proof.Machine.execVmacc x s
  | .vmul x => Sys2Proof.Machine.execVmul x s
  | .vmulc x => Sys2Proof.Machine.execVmulc x s
  | .vpack x => Sys2Proof.Machine.execVpack x s
  | .vshf x => Sys2Proof.Machine.execVshf x s
  | .vconj x => Sys2Proof.Machine.execVconj x s
  | .vneg x => Sys2Proof.Machine.execVneg x s
  | .vmulj x => Sys2Proof.Machine.execVmulj x s
  | .vswap x => Sys2Proof.Machine.execVswap x s
  | .vscl x => Sys2Proof.Machine.execVscl x s
  | .saddi x => Sys2Proof.Machine.execSaddi x s
  | .smax x => Sys2Proof.Machine.execSmax x s
  | .smin x => Sys2Proof.Machine.execSmin x s
  | .sadd x => Sys2Proof.Machine.execSadd x s
  | .ssub x => Sys2Proof.Machine.execSsub x s
  | .sand x => Sys2Proof.Machine.execSand x s
  | .sor x => Sys2Proof.Machine.execSor x s
  | .sxor x => Sys2Proof.Machine.execSxor x s
  | .sshl x => Sys2Proof.Machine.execSshl x s
  | .sshr x => Sys2Proof.Machine.execSshr x s
  | .slsr x => Sys2Proof.Machine.execSlsr x s
  | .smul x => Sys2Proof.Machine.execSmul x s
  | .stest x => Sys2Proof.Machine.execStest x s
  | .scmp x => Sys2Proof.Machine.execScmp x s
  | .xcmp x => Sys2Proof.Machine.execXcmp x s
  | .xadd x => Sys2Proof.Machine.execXadd x s
  | .xsub x => Sys2Proof.Machine.execXsub x s
  | .xmul x => Sys2Proof.Machine.execXmul x s
  | .xmin x => Sys2Proof.Machine.execXmin x s
  | .xmax x => Sys2Proof.Machine.execXmax x s
  | .xabs x => Sys2Proof.Machine.execXabs x s
  | .xneg x => Sys2Proof.Machine.execXneg x s
  | .xclmp x => Sys2Proof.Machine.execXclmp x s
  | .vrot x => Sys2Proof.Machine.execVrot x s
  | .rset x => Sys2Proof.Machine.execRset x s
  | .rstep x => Sys2Proof.Machine.execRstep x s
  | .vfir x => Sys2Proof.Machine.execVfir x s
  | .vfrac x => Sys2Proof.Machine.execVfrac x s
  | .cres x => Sys2Proof.Machine.execCres x s
  | .cest x => Sys2Proof.Machine.execCest x s
  | .gtrip x => Sys2Proof.Machine.execGtrip x s
  | .cref x => Sys2Proof.Machine.execCref x s
  | .gmon x => Sys2Proof.Machine.execGmon x s
  | .vpeak x => Sys2Proof.Machine.execVpeak x s
  | .vpow x => Sys2Proof.Machine.execVpow x s
  | .vcnt x => Sys2Proof.Machine.execVcnt x s
  | .env x => Sys2Proof.Machine.execEnv x s
  | .sdb x => Sys2Proof.Machine.execSdb x s
  | .frecv x => Sys2Proof.Machine.execFrecv x s
  | .msend x => Sys2Proof.Machine.execMsend x s
  | .mrecv x => Sys2Proof.Machine.execMrecv x s
  | .loop x => Sys2Proof.Machine.execLoop x s
  | .endLoop x => Sys2Proof.Machine.execEndLoop x s
  | .event x => Sys2Proof.Machine.execEvent x s
  | .halt x => Sys2Proof.Machine.execHalt x s
  | .portCommand o k p w => Sys2Proof.Machine.execPortCommand o k p w s
  | .portCommandDequeue k p => Sys2Proof.Machine.execPortCommandDequeue k p s
  | .portTransitionDone k p => Sys2Proof.Machine.execPortTransitionDone k p s
  | .diePllLock k => Sys2Proof.Machine.execDiePllLock k s
  | .portLockTimeout k p => Sys2Proof.Machine.execPortLockTimeout k p s
  | .diePllUnlock k => Sys2Proof.Machine.execDiePllUnlock k s
  | .diePllStop k => Sys2Proof.Machine.execDiePllStop k s
  | .scanTaskStart k tdd div tune => Sys2Proof.Machine.execScanTaskStart k tdd div tune s
  | .scanTaskDone k next power cells => Sys2Proof.Machine.execScanTaskDone k next power cells s
  | .scanTransitionDone k => Sys2Proof.Machine.execScanTransitionDone k s
  | .scanCalStep k locked last rej => Sys2Proof.Machine.execScanCalStep k locked last rej s
  | .scanCalRetry k => Sys2Proof.Machine.execScanCalRetry k s
  | .scanReqGo o k => Sys2Proof.Machine.execScanReqGo o k s
  | .scanReqAbort o k => Sys2Proof.Machine.execScanReqAbort o k s
  | .tunerMeasure k p band fwd rev => Sys2Proof.Machine.execTunerMeasure k p band fwd rev s
  | .tunerSearch k p => Sys2Proof.Machine.execTunerSearch k p s
  | .tunerSearchStep k p rl => Sys2Proof.Machine.execTunerSearchStep k p rl s
  | .rffeCmdGo o k => Sys2Proof.Machine.execRffeCmdGo o k s
  | .rffeTransactionDone k data good => Sys2Proof.Machine.execRffeTransactionDone k data good s
  | .coexReqAssert window => Sys2Proof.Machine.execCoexReqAssert window s
  | .coexGntFall => Sys2Proof.Machine.execCoexGntFall s
  | .coexReqRise pri window => Sys2Proof.Machine.execCoexReqRise pri window s
  | .coexGrantDecision => Sys2Proof.Machine.execCoexGrantDecision s
  | .coexGntRaise => Sys2Proof.Machine.execCoexGntRaise s
  | .coexReqFall => Sys2Proof.Machine.execCoexReqFall s
  | .coilLoad o c => Sys2Proof.Machine.execCoilLoad o c s
  | .coilFetch o c lib => Sys2Proof.Machine.execCoilFetch o c lib s
  | .coilStore o lib => Sys2Proof.Machine.execCoilStore o lib s
  | .coilFree o c => Sys2Proof.Machine.execCoilFree o c s
  | .coilCmdDone => Sys2Proof.Machine.execCoilCmdDone s
  | .coilStart o c => Sys2Proof.Machine.execCoilStart o c s
  | .coilStop o c => Sys2Proof.Machine.execCoilStop o c s
  | .coilParamApply o c => Sys2Proof.Machine.execCoilParamApply o c s
  | .coilBoundary c fb cur aux => Sys2Proof.Machine.execCoilBoundary c fb cur aux s
  | .coilJobRelease c => Sys2Proof.Machine.execCoilJobRelease c s
  | .coilOverrun c => Sys2Proof.Machine.execCoilOverrun c s
  | .traceArm o c => Sys2Proof.Machine.execTraceArm o c s
  | .traceForce o c => Sys2Proof.Machine.execTraceForce o c s
  | .pairBoundary n t => Sys2Proof.Machine.execPairBoundary n t s
  | .plLoadAll o => Sys2Proof.Machine.execPlLoadAll o s
  | .plSync o => Sys2Proof.Machine.execPlSync o s
  | .pairEnable o n => Sys2Proof.Machine.execPairEnable o n s
  | .pairDisable o n => Sys2Proof.Machine.execPairDisable o n s
  | .pairClear o n => Sys2Proof.Machine.execPairClear o n s
  | .plaitCalibration ok trim => Sys2Proof.Machine.execPlaitCalibration ok trim s
  | .tripAssert i1 t => Sys2Proof.Machine.execTripAssert i1 t s
  | .tripRelease i1 t => Sys2Proof.Machine.execTripRelease i1 t s
  | .walePortEnable o w => Sys2Proof.Machine.execWalePortEnable o w s
  | .walePortDisable o w => Sys2Proof.Machine.execWalePortDisable o w s
  | .train w peer => Sys2Proof.Machine.execTrain w peer s
  | .authHello w serial basket key nonce => Sys2Proof.Machine.execAuthHello w serial basket key nonce s
  | .authCert w cert sig => Sys2Proof.Machine.execAuthCert w cert sig s
  | .authTimeout w => Sys2Proof.Machine.execAuthTimeout w s
  | .authFailRetry w => Sys2Proof.Machine.execAuthFailRetry w s
  | .ack w resp seq => Sys2Proof.Machine.execAck w resp seq s
  | .credit w q r => Sys2Proof.Machine.execCredit w q r s
  | .time w t => Sys2Proof.Machine.execTime w t s
  | .timeRx w t2 => Sys2Proof.Machine.execTimeRx w t2 s
  | .down d => Sys2Proof.Machine.execDown d s
  | .roundTimer => Sys2Proof.Machine.execRoundTimer s
  | .timeWordMissing w => Sys2Proof.Machine.execTimeWordMissing w s
  | .blockLockLoss w lost n => Sys2Proof.Machine.execBlockLockLoss w lost n s
  | .holdDownEnd w => Sys2Proof.Machine.execHoldDownEnd w s
  | .frameReplayTimeout w resp => Sys2Proof.Machine.execFrameReplayTimeout w resp s
  | .streamFrameRx w bytes waiting => Sys2Proof.Machine.execStreamFrameRx w bytes waiting s
  | .streamFrameTx k i1 waiting => Sys2Proof.Machine.execStreamFrameTx k i1 waiting s
  | .waleRegisterRead w h addr => Sys2Proof.Machine.execWaleRegisterRead w h addr s
  | .waleRegisterWrite w h addr value => Sys2Proof.Machine.execWaleRegisterWrite w h addr value s
  | .waleMessage w h data => Sys2Proof.Machine.execWaleMessage w h data s
  | .waleBulkWrite w h addr data => Sys2Proof.Machine.execWaleBulkWrite w h addr data s
  | .admissionRequest w h half block tag hops => Sys2Proof.Machine.execAdmissionRequest w h half block tag hops s
  | .releaseRequest w h tag => Sys2Proof.Machine.execReleaseRequest w h tag s
  | .discoveryClaim w h serial cane level => Sys2Proof.Machine.execDiscoveryClaim w h serial cane level s
  | .discoveryProbe w h addr level tree => Sys2Proof.Machine.execDiscoveryProbe w h addr level tree s
  | .routeTableLoad w h version codes => Sys2Proof.Machine.execRouteTableLoad w h version codes s
  | .linkEvent w h port state serial => Sys2Proof.Machine.execLinkEvent w h port state serial s
  | .responseFrameRx w h code data => Sys2Proof.Machine.execResponseFrameRx w h code data s
  | .epAdmit o e => Sys2Proof.Machine.execEpAdmit o e s
  | .epRelease o e => Sys2Proof.Machine.execEpRelease o e s
  | .admissionAnswer w h fault route tag => Sys2Proof.Machine.execAdmissionAnswer w h fault route tag s
  | .admissionTimeout e => Sys2Proof.Machine.execAdmissionTimeout e s
  | .readmit e => Sys2Proof.Machine.execReadmit e s
  | .rediscover o => Sys2Proof.Machine.execRediscover o s
  | .routeCommit o => Sys2Proof.Machine.execRouteCommit o s
  | .rootLossTimeout => Sys2Proof.Machine.execRootLossTimeout s
  | .txnAttemptTimeout txn dst => Sys2Proof.Machine.execTxnAttemptTimeout txn dst s
  | .txnRetry txn dst => Sys2Proof.Machine.execTxnRetry txn dst s
  | .caneResponseDrop t => Sys2Proof.Machine.execCaneResponseDrop t s
  | .caneNudgeDetected => Sys2Proof.Machine.execCaneNudgeDetected s
  | .caneSyncAcquired => Sys2Proof.Machine.execCaneSyncAcquired s
  | .caneSyncLoss => Sys2Proof.Machine.execCaneSyncLoss s
  | .hello seen ecredit seq => Sys2Proof.Machine.execHello seen ecredit seq s
  | .helloTimer => Sys2Proof.Machine.execHelloTimer s
  | .caneTrainFail => Sys2Proof.Machine.execCaneTrainFail s
  | .quiet ecredit seq => Sys2Proof.Machine.execQuiet ecredit seq s
  | .quietAck ecredit seq => Sys2Proof.Machine.execQuietAck ecredit seq s
  | .quietAckSend => Sys2Proof.Machine.execQuietAckSend s
  | .quietAfterExpiry => Sys2Proof.Machine.execQuietAfterExpiry s
  | .caneBadFrame code => Sys2Proof.Machine.execCaneBadFrame code s
  | .caneRegisterRead h addr => Sys2Proof.Machine.execCaneRegisterRead h addr s
  | .caneRegisterWrite h addr w => Sys2Proof.Machine.execCaneRegisterWrite h addr w s
  | .caneBulkWrite h addr data => Sys2Proof.Machine.execCaneBulkWrite h addr data s
  | .caneBulkRead h addr n => Sys2Proof.Machine.execCaneBulkRead h addr n s
  | .caneWake h => Sys2Proof.Machine.execCaneWake h s
  | .caneResponseReady t => Sys2Proof.Machine.execCaneResponseReady t s
  | .caneEventSend => Sys2Proof.Machine.execCaneEventSend s
  | .caneSelfNudge => Sys2Proof.Machine.execCaneSelfNudge s
  | .powerOnResetRelease hub => Sys2Proof.Machine.execPowerOnResetRelease hub s
  | .deviceReset o hub => Sys2Proof.Machine.execDeviceReset o hub s
  | .bootReady => Sys2Proof.Machine.execBootReady s
  | .watchdogExpiry => Sys2Proof.Machine.execWatchdogExpiry s
  | .handleSramEcc => Sys2Proof.Machine.execHandleSramEcc s
  | .handleRestartDone hub => Sys2Proof.Machine.execHandleRestartDone hub s
  | .updBegin o target => Sys2Proof.Machine.execUpdBegin o target s
  | .updChunk o target index => Sys2Proof.Machine.execUpdChunk o target index s
  | .updVerify o target => Sys2Proof.Machine.execUpdVerify o target s
  | .updActivate o target => Sys2Proof.Machine.execUpdActivate o target s
  | .updConfirm o => Sys2Proof.Machine.execUpdConfirm o s
  | .updAbort o target => Sys2Proof.Machine.execUpdAbort o target s
  | .updOpDone => Sys2Proof.Machine.execUpdOpDone s
  | .configReplay => Sys2Proof.Machine.execConfigReplay s
  | .replayWaitTimeout => Sys2Proof.Machine.execReplayWaitTimeout s
  | .replayDelayEnd => Sys2Proof.Machine.execReplayDelayEnd s
  | .telemetryReading => Sys2Proof.Machine.execTelemetryReading s
  | .skeinHoldExpiry => Sys2Proof.Machine.execSkeinHoldExpiry s
  | .skeinFlush => Sys2Proof.Machine.execSkeinFlush s
  | .skeinFlushPeriod => Sys2Proof.Machine.execSkeinFlushPeriod s
  | .skeinFlushDone => Sys2Proof.Machine.execSkeinFlushDone s
  | .sknFlush o => Sys2Proof.Machine.execSknFlush o s
  | .sknClear o => Sys2Proof.Machine.execSknClear o s
  | .sknFreeze o => Sys2Proof.Machine.execSknFreeze o s
  | .sknUnfreeze o => Sys2Proof.Machine.execSknUnfreeze o s
  | .freezeTimeout => Sys2Proof.Machine.execFreezeTimeout s
  | .tlyAck o seq => Sys2Proof.Machine.execTlyAck o seq s
  | .tallyWriteOut => Sys2Proof.Machine.execTallyWriteOut s
  | .wtApply o => Sys2Proof.Machine.execWtApply o s
  | .seal o => Sys2Proof.Machine.execSeal o s
  | .sealDone => Sys2Proof.Machine.execSealDone s
  | .lashingSourceActive n unit hold => Sys2Proof.Machine.execLashingSourceActive n unit hold s
  | .muteAutoEnd n => Sys2Proof.Machine.execMuteAutoEnd n s
  | .faultPairBroken n => Sys2Proof.Machine.execFaultPairBroken n s
  | .broadcastPairBroken die => Sys2Proof.Machine.execBroadcastPairBroken die s
  | .collectorSelfFault => Sys2Proof.Machine.execCollectorSelfFault s
  | .enterSafe o => Sys2Proof.Machine.execEnterSafe o s
  | .safeExit o => Sys2Proof.Machine.execSafeExit o s
  | .latchedClear o n => Sys2Proof.Machine.execLatchedClear o n s
  | .injectionGo o src dry atSource len => Sys2Proof.Machine.execInjectionGo o src dry atSource len s
  | .injectionStop o => Sys2Proof.Machine.execInjectionStop o s
  | .injectionEnd => Sys2Proof.Machine.execInjectionEnd s
  | .thermalConversionStart => Sys2Proof.Machine.execThermalConversionStart s
  | .thermalConversionDone temp diode => Sys2Proof.Machine.execThermalConversionDone temp diode s
  | .conversionTimeout => Sys2Proof.Machine.execConversionTimeout s
  | .confirmationDue d => Sys2Proof.Machine.execConfirmationDue d s
  | .guardTimer => Sys2Proof.Machine.execGuardTimer s
  | .thmConv o d => Sys2Proof.Machine.execThmConv o d s
  | .rearm o => Sys2Proof.Machine.execRearm o s
  | .doze o => Sys2Proof.Machine.execDoze o s
  | .dozeReached => Sys2Proof.Machine.execDozeReached s
  | .wake o => Sys2Proof.Machine.execWake o s
  | .wakeTimer => Sys2Proof.Machine.execWakeTimer s
  | .coexWakeEdge => Sys2Proof.Machine.execCoexWakeEdge s
  | .foot o => Sys2Proof.Machine.execFoot o s
  | .footOnlyReached => Sys2Proof.Machine.execFootOnlyReached s
  | .footExitRailsReady hub => Sys2Proof.Machine.execFootExitRailsReady hub s
  | .mainEnTimeout => Sys2Proof.Machine.execMainEnTimeout s
  | .powerFailFall => Sys2Proof.Machine.execPowerFailFall s
  | .powerFailWriteEnd => Sys2Proof.Machine.execPowerFailWriteEnd s
  | .powerFailRise hub => Sys2Proof.Machine.execPowerFailRise hub s
  | .railOutOfRange => Sys2Proof.Machine.execRailOutOfRange s
  | .refLost => Sys2Proof.Machine.execRefLost s
  | .refHoldoverExpiry => Sys2Proof.Machine.execRefHoldoverExpiry s
  | .xtalLost => Sys2Proof.Machine.execXtalLost s
  | .xtalRestored => Sys2Proof.Machine.execXtalRestored s
  | .clockDomainStop d => Sys2Proof.Machine.execClockDomainStop d s
  | .lidOpen o len => Sys2Proof.Machine.execLidOpen o len s
  | .lidClose o => Sys2Proof.Machine.execLidClose o s
  | .setPw o len => Sys2Proof.Machine.execSetPw o len s
  | .passwordCheckDone => Sys2Proof.Machine.execPasswordCheckDone s
  | .lockoutEnd => Sys2Proof.Machine.execLockoutEnd s
  | .lidIdleExpiry => Sys2Proof.Machine.execLidIdleExpiry s
  | .tapReset => Sys2Proof.Machine.execTapReset s
  | .extest bits => Sys2Proof.Machine.execExtest bits s
  | .idcode => Sys2Proof.Machine.execIdcode s
  | .samplePreload bits => Sys2Proof.Machine.execSamplePreload bits s
  | .clamp => Sys2Proof.Machine.execClamp s
  | .highz => Sys2Proof.Machine.execHighz s
  | .lidchal => Sys2Proof.Machine.execLidchal s
  | .lidresp sig => Sys2Proof.Machine.execLidresp sig s
  | .lidpw len pw => Sys2Proof.Machine.execLidpw len pw s
  | .lidclose => Sys2Proof.Machine.execLidclose s
  | .regacc addr w write => Sys2Proof.Machine.execRegacc addr w write s
  | .tapHalt bits => Sys2Proof.Machine.execTapHalt bits s
  | .hmem addr w write => Sys2Proof.Machine.execHmem addr w write s
  | .bypass => Sys2Proof.Machine.execBypass s
  | .rngHealthFail => Sys2Proof.Machine.execRngHealthFail s
  | .rngRetest pass => Sys2Proof.Machine.execRngRetest pass s
  | .controlLaneReestablished k => Sys2Proof.Machine.execControlLaneReestablished k s
  | .lashingSourceInactive n => Sys2Proof.Machine.execLashingSourceInactive n s
  | .refRestored => Sys2Proof.Machine.execRefRestored s
  | .coexGntRise => Sys2Proof.Machine.execCoexGntRise s
  | .adcOverload k p peak => Sys2Proof.Machine.execAdcOverload k p peak s
  | .mramReadingStale => Sys2Proof.Machine.execMramReadingStale s
  | .winTripsExpiry k i1 => Sys2Proof.Machine.execWinTripsExpiry k i1 s
  | .rearmWindowExpiry => Sys2Proof.Machine.execRearmWindowExpiry s

end Sys2Proof.Machine
end

