-- ==== Sys2Proof/Machine/Step.lean ====
section
/-!
DEFINITION. Machine/Step.lean: one step of the block: the command at the front of the queue, or idling.
-/
namespace Sys2Proof.Machine
open Sys2Proof

/-- Idling with an empty queue: fabric time moves on by 1 ns (DESIGN CHOICE, notes/assumptions/2.md). -/
def idle (s : State) : State := { s with time := { s.time with ft := s.time.ft + 1 } }

/-- Taking the command at the front of the queue. -/
def step (s : State) : Host.Outcome State Fault Refusal :=
  match s.pending with
  | [] => .next (idle s)
  | c :: rest => exec c { s with pending := rest }

/-- Putting a command at the front of the queue. -/
def State.front (s : State) (c : Instr) : State := { s with pending := c :: s.pending }

/-- The command that a word spells, at the front of the queue. -/
def State.withFetchWord (s : State) (nbits w : Nat) : State :=
  match decodeTableWord nbits w with
  | some c => s.front c
  | none => s

end Sys2Proof.Machine
end

