-- ==== Sys2Proof/Safety.lean ====
section
/-!
DEFINITION. Safety.lean: the terms that the statements use: a sound state, what a command answers, and when the checks of
20_address_map.md R582 and R583 let a register write through.
-/
namespace Sys2Proof.Machine
open Sys2Proof

/-- A state whose stored memory and register words are in canonical form, so that equal contents are equal data. -/
def State.Canonical (s : State) : Prop := Memory.wf s.mem = true ∧ Regs.wf s.regs = true

/-- A command answers a next state, of which something holds. -/
def Answers (r : Host.Outcome State Fault Refusal) (p : State → Prop) : Prop := ∃ t, r = .next t ∧ p t

/-- Every check before the target register's own effect lets a write of a word to a register through
(20_address_map.md R582, R583): the register lies at its address, the origin may write it, the Lid does not refuse it, a
record can be reserved, its target answers, and no rule of the register refuses the word. -/
structure Admits (o : Origin) (x : RegKey) (w : Word) (s : State) : Prop where
  placed : placeAt 4 (BitVec.ofNat 32 (keyAddr x)) s = some (.reg x)
  origin : mayWrite (originLetter o) (BitVec.ofNat 32 (keyAddr x)).toNat (.reg x) = true
  lid : lidRefuses (.reg x) w s = false
  room : recorded (.reg x) w s = true → canReserve s = true
  target : targetCode o true (BitVec.ofNat 32 (keyAddr x)).toNat (.reg x) s = .ok
  rule : placeRule (.reg x) w s = .ok

/-- Every check before the register's own rules lets a write through. -/
structure Arrives (o : Origin) (x : RegKey) (w : Word) (s : State) : Prop where
  placed : placeAt 4 (BitVec.ofNat 32 (keyAddr x)) s = some (.reg x)
  origin : mayWrite (originLetter o) (BitVec.ofNat 32 (keyAddr x)).toNat (.reg x) = true
  lid : lidRefuses (.reg x) w s = false
  room : recorded (.reg x) w s = true → canReserve s = true
  target : targetCode o true (BitVec.ofNat 32 (keyAddr x)).toNat (.reg x) s = .ok

/-- Every check lets a read of a register through. -/
structure Reads (o : Origin) (x : RegKey) (s : State) : Prop where
  placed : placeAt 4 (BitVec.ofNat 32 (keyAddr x)) s = some (.reg x)
  origin : mayRead (originLetter o) (.reg x) = true
  target : targetCode o false (BitVec.ofNat 32 (keyAddr x)).toNat (.reg x) s = .ok

/-- The word of a write that sets and clears bits beside the RW fields as they stand. -/
def bitsWord (x : RegKey) (set clr : Word) (s : State) : Word := (rwValue x s &&& ~~~clr) ||| set

/-- The parts of a state. -/
inductive Part where
  | pending | done | freeCtr | fitted | serial | regs | mem | time | skein | tally | lash | lid | tap | dies | coils | coreQ | coilLdr | sns | pairs | plait | coex | wale | cane | reg | handle | thm | pwr
  deriving DecidableEq, Repr

/-- A part of the second state is as in the first. -/
def Part.kept : Part → State → State → Prop
  | .pending, s, t => t.pending = s.pending
  | .done, s, t => t.done = s.done
  | .freeCtr, s, t => t.freeCtr = s.freeCtr
  | .fitted, s, t => t.fitted = s.fitted
  | .serial, s, t => t.serial = s.serial
  | .regs, s, t => t.regs = s.regs
  | .mem, s, t => t.mem = s.mem
  | .time, s, t => t.time = s.time
  | .skein, s, t => t.skein = s.skein
  | .tally, s, t => t.tally = s.tally
  | .lash, s, t => t.lash = s.lash
  | .lid, s, t => t.lid = s.lid
  | .tap, s, t => t.tap = s.tap
  | .dies, s, t => t.dies = s.dies
  | .coils, s, t => t.coils = s.coils
  | .coreQ, s, t => t.coreQ = s.coreQ
  | .coilLdr, s, t => t.coilLdr = s.coilLdr
  | .sns, s, t => t.sns = s.sns
  | .pairs, s, t => t.pairs = s.pairs
  | .plait, s, t => t.plait = s.plait
  | .coex, s, t => t.coex = s.coex
  | .wale, s, t => t.wale = s.wale
  | .cane, s, t => t.cane = s.cane
  | .reg, s, t => t.reg = s.reg
  | .handle, s, t => t.handle = s.handle
  | .thm, s, t => t.thm = s.thm
  | .pwr, s, t => t.pwr = s.pwr

/-- Every part but the listed ones is as it was: the frame of a command. -/
def KeepsBut (ps : List Part) (s t : State) : Prop := ∀ p, p ∉ ps → p.kept s t

/-- Every band die but one is as it was. -/
def OtherDies (k : DieIx) (s t : State) : Prop := ∀ j : DieIx, j ≠ k → t.dies[j] = s.dies[j]

/-- The parts that the record of a register write and the report of Lean may change. -/
def logParts : List Part := [.done, .skein, .tally, .cane, .pwr]

/-- What a command that is an accepted register write answers: a completion of OK, and a state that an effect gives, but
for the records made of the write and the report of Lean. -/
def Accepted (e t : State) : Prop :=
  t.done = ⟨.ok, 0⟩ ∧ KeepsBut logParts e t ∧ { t.pwr with lean := e.pwr.lean } = e.pwr

/-! ## Frames of the wale fabric -/

/-- The frame that a port takes in from a header and a payload. -/
def portFrame (w : WaleIx) (h : WaleHdr) (resp : Bool) (payload : List Byte) : Frame :=
  { frameOf h resp payload with from_ := w.val }

/-- A link takes a request or response: the port is UP, the payload holds at most 256 bytes, the bits of zero are zero, the
tag verifies and the SEQ is the expected one (11_wale_fabric.md R402, R407). -/
structure LinkTakes (w : WaleIx) (h : WaleHdr) (resp : Bool) (payload : List Byte) (s : State) : Prop where
  up : (s.wport w).st = .up
  len : payload.length ≤ 256
  zeros : h.zeros = 0
  tag : frameOk s w (frameOf h resp payload) h.seq.val h.tag = true
  seq : h.seq.val = ((s.wport w).chan resp).seqRx

/-- What a link leaves that takes a frame: the frame counted for the nonce, its SEQ counted, and the frame acknowledged. -/
def linkTaken (w : WaleIx) (h : WaleHdr) (resp : Bool) (s : State) : State :=
  sendWord w 2 (BitVec.ofNat 8 (b2n resp) :: leBytes 2 h.seq.val)
    (((clearSent s).modWport w fun p => { p with ctrRx := p.ctrRx + 1 }).modChan w resp fun c => { c with seqRx := (c.seqRx + 1) % 65536 })

/-- This device serves a request as its target: it is named, it has not answered the request before, and HOST is the
root's (R404, R434). -/
structure Serves (w : WaleIx) (h : WaleHdr) (payload : List Byte) (s : State) : Prop where
  takes : LinkTakes w h false payload s
  here : h.dst.val = s.wale.addr
  unicast : h.dst.val ≠ 63
  fresh : keptFor (linkTaken w h false s) (portFrame w h false payload) = none

/-- A frame waits in a channel of a port, or has been sent there and is not acknowledged. -/
def Outgoing (s : State) (w : WaleIx) (f : Frame) : Prop :=
  f ∈ ((s.wport w).chan f.resp).queue ∨ ∃ u ∈ ((s.wport w).chan f.resp).unacked, u.f = f

/-! ## Requests of the Cane link -/

/-- The state in which a new request of the Cane link is carried out: its frame counted and its tag BUSY
(13_cane_link.md R446, R451, R455). -/
def caneTaken (h : CaneHdr) (s : State) : State :=
  ((caneGood h.seq.val h.ecredit.val (caneClear s)).modCane fun c => { c with quietSent := false, quietAsked := false }).modTag
    h.tag fun g => ⟨.busy, (g.n + 1) % 4096, h.loc, none⟩

/-- A request of the Cane link is carried out: the link is UP, and its tag is FREE, or DONE and the request no retry
(R455). -/
structure CaneTakes (h : CaneHdr) (s : State) : Prop where
  up : s.cane.st = .up
  new : (s.cane.tags[h.tag]).st = .free ∨ ((∃ r, (s.cane.tags[h.tag]).st = .done r) ∧ h.retry = false)

/-- The response of a tag is ready with a code and data. -/
def CaneAnswered (t : State) (tag : Fin 16) (code : Code) (data : List Byte) : Prop :=
  ∃ r, (t.cane.tags[tag]).ready = some r ∧ r.tag = tag.val ∧ r.code = code ∧ r.data = data

/-- The word that issues a loader command. -/
def loaderWord (op slot lib : Nat) : Word := mkWord [(20, 16, lib), (11, 8, slot), (3, 0, op)]

/-- The word that issues a command of the coil loader. -/
def coilWord (op coil lib : Nat) : Word := mkWord [(20, 16, lib), (12, 8, coil), (2, 0, op)]

/-! ## Boot and updates -/

/-- What a boot takes from the contents of a state: the choice of R470 for a slot, as the Handle then shows it. `kept` is
that the boot block, which cannot be written, goes on selecting the other slot: FALLBACK shows that too (R472). -/
def RunsChoice (sel kept : Bool) (s t : State) : Prop :=
  ((bootChoice s (pkgGood s) sel).hub = none → t.handle.recovery = true ∧ t.handle.hubVer = 0 ∧ t.handle.mcSlot = none) ∧
  ∀ b, (bootChoice s (pkgGood s) sel).hub = some b →
    t.handle.recovery = false ∧ t.handle.slot = b ∧ t.handle.hubVer = pkgHubVer (pkgHeader s b) ∧
    t.handle.mcSlot = (bootChoice s (pkgGood s) sel).mc ∧ t.handle.versionHeld = (bootChoice s (pkgGood s) sel).held ∧
    t.handle.fallback = ((bootChoice s (pkgGood s) sel).fallback || kept)

/-- The second state is what a boot makes of the first, with the boot's reading of the hub sensor: the Lid Closed, not
READY, every fitted band die powered and none released, the images kept, and those run that R470 and R472 choose
(14_handle_boot_update.md R470, R472, R473). -/
structure Booted (hub : Option Int) (s t : State) : Prop where
  notReady : t.handle.ready = false ∧ t.handle.st = .boot ∧ t.pwr.inReset = false ∧ t.pwr.resetDue = false
  lid : t.lid.st = .closed
  powered : ∀ k : DieIx, (t.dies[k]).powered = s.isFitted k ∧ (t.dies[k]).released = false
  images : ∀ a, a < 0x01E10000 → memGet t.mem (Space.mram.base + a) = memGet s.mem (Space.mram.base + a)
  choice : (bootBlock s.handle).2.trial = false →
    RunsChoice (bootBlock s.handle).2.sel false s t ∧ t.handle.trial = false ∧ t.handle.tries = 0
  trial : ∀ x, hub = some x → -400 ≤ x → x ≤ 1300 → (bootBlock s.handle).2.trial = true →
    ((bootBlock s.handle).2.tries < 3 → RunsChoice (bootBlock s.handle).2.sel false s t ∧
      t.handle.tries = (bootBlock s.handle).2.tries + 1 ∧ (bootBlock t.handle).2.tries = (bootBlock s.handle).2.tries + 1) ∧
    (3 ≤ (bootBlock s.handle).2.tries → RunsChoice (!(bootBlock s.handle).2.sel) false s t ∧ t.handle.trial = false ∧
      (bootBlock t.handle).2.trial = false ∧ (bootBlock t.handle).2.sel = !(bootBlock s.handle).2.sel)
  unwritten : (∀ x, hub = some x → ¬(-400 ≤ x ∧ x ≤ 1300)) → (bootBlock s.handle).2.trial = true →
    RunsChoice (!(bootBlock s.handle).2.sel) true s t ∧ t.handle.trial = false ∧ (bootBlock t.handle).2 = (bootBlock s.handle).2

/-- The word that issues an update OP. -/
def updWord (op target index : Nat) : Word := mkWord [(31, 16, index), (9, 8, target), (2, 0, op)]

/-- What an update OP leaves that ends with a CODE and FAULT and no effect. -/
def updFailed (c : Code) (f : Nat) (s : State) : State := s.modUpd fun u => { u with busy := none, code := c, fault := f }

/-! ## The coil engine -/

/-- The hardware stages of a period up to the law, from the loop values that the job left: the mode, the request, the slew
limiter, and in a period without a bank swap the law and the trim (09_coil_engine.md R340, R341, R344, R347). -/
structure LoopStep (c : CoilIx) (s : State) (l l' : Loop) : Prop where
  mode : l'.sec = wantsSec s c
  request : l'.rq = (if l'.sec then (if coilClass c = 0 then (s.coils[c]).fixedSp else if l.sec then l.holdSp else l.sp)
    else l.out0)
  slew : ∀ q, q = min (max l'.rq (coilVal s .SP_MIN c)) (coilVal s .SP_MAX c) →
    (l.sp < q → l'.sp = min q (sat 32 (l.sp + coilVal s .SLEW_UP c))) ∧
    (q ≤ l.sp → l'.sp = max q (sat 32 (l.sp - coilVal s .SLEW_DN c)))
  law : ∀ e band ki, e = sat 32 (l'.sp - l.y) → band = bankVal s .BANK_BAND c l.bank →
    ki = fld (s.cfg2 .BANK_KI c.val l.bank) 4 0 → l'.bank = l.bank →
    (band < e - l.trim → l'.high = true) ∧ (e - l.trim < -band → e - l.trim ≤ band → l'.high = false) ∧
    (-band ≤ e - l.trim → e - l.trim ≤ band → l'.high = l.high) ∧
    (bit (s.cfg1 .COIL_CFG c.val) 0 = false → l'.trim = l.trim) ∧
    (bit (s.cfg1 .COIL_CFG c.val) 0 = true →
      l'.trim = clampI (bankVal s .TRIM_MIN c l.bank) (bankVal s .TRIM_MAX c l.bank) (l.trim - roundDiv e (2 ^ ki)))

/-! ## The Lashing -/

/-- The parts that a reaction of the Lashing may change. -/
def reactParts : List Part := [.lash, .coils, .coreQ, .pairs, .skein, .tally, .cane]

/-- The safe state is in force in the second state; where it was not in the first, every coil but the input coils is
stopped and every pair that is not exempt is off (16_lashing.md R519). -/
def SafeIn (s t : State) : Prop :=
  t.lash.safe = true ∧ (∀ k, lashMute t k = true) ∧ (s.lash.safe = true → t.lash.safeCause = s.lash.safeCause) ∧
  (s.lash.safe = false → (∀ c : CoilIx, coilClass c ≠ 1 → (t.coils[c]).st = .stopped) ∧
    ∀ n : PairIx, (t.pairs[n]).exempt = false → (t.pairs[n]).en = false)

/-- What the end of a reaction leaves of the band dies (16_lashing.md R520): a port in Transmit of a die that no reaction
covers any more holds its DAC input at zero and its strands muted for 8 µs, and nothing else of the dies changes. -/
def MuteEnded (s t : State) : Prop :=
  (∀ k, lashMute s k = lashMute t k → t.dies[k] = s.dies[k]) ∧
  ∀ k p, lashMute s k = true → lashMute t k = false → t.port k p = (if (s.port k p).st = .transmit then
    { s.port k p with zeroUntil := s.time.ft + 8000, muteUntil := s.time.ft + 8000 } else s.port k p)

/-- Every source but some is as it was. -/
def OtherSrcs (l : List SrcIx) (s t : State) : Prop := ∀ m : SrcIx, m ∉ l → t.lash.srcs[m] = s.lash.srcs[m]

/-! ## Withy instructions -/

/-- The command that executes an instruction of a mnemonic in a context. -/
def withyCmd : WOp → Ctx → Instr
  | .rdin, x => .rdin x | .wrout, x => .wrout x | .mov, x => .mov x | .amov, x => .amov x
  | .smov, x => .smov x | .xmov, x => .xmov x | .lds, x => .lds x | .ldc, x => .ldc x
  | .vsplat, x => .vsplat x | .stat, x => .stat x | .vget, x => .vget x | .ldx, x => .ldx x
  | .xin, x => .xin x | .xout, x => .xout x | .xtab, x => .xtab x | .xfroms, x => .xfroms x
  | .sfromx, x => .sfromx x | .vadd, x => .vadd x | .vsub, x => .vsub x | .vcmul, x => .vcmul x
  | .vcmulc, x => .vcmulc x | .vmac, x => .vmac x | .vmacc, x => .vmacc x | .vmul, x => .vmul x
  | .vmulc, x => .vmulc x | .vpack, x => .vpack x | .vshf, x => .vshf x | .vconj, x => .vconj x
  | .vneg, x => .vneg x | .vmulj, x => .vmulj x | .vswap, x => .vswap x | .vscl, x => .vscl x
  | .saddi, x => .saddi x | .smax, x => .smax x | .smin, x => .smin x | .sadd, x => .sadd x
  | .ssub, x => .ssub x | .sand, x => .sand x | .sor, x => .sor x | .sxor, x => .sxor x
  | .sshl, x => .sshl x | .sshr, x => .sshr x | .slsr, x => .slsr x | .smul, x => .smul x
  | .stest, x => .stest x | .scmp, x => .scmp x | .xcmp, x => .xcmp x | .xadd, x => .xadd x
  | .xsub, x => .xsub x | .xmul, x => .xmul x | .xmin, x => .xmin x | .xmax, x => .xmax x
  | .xabs, x => .xabs x | .xneg, x => .xneg x | .xclmp, x => .xclmp x | .vrot, x => .vrot x
  | .rset, x => .rset x | .rstep, x => .rstep x | .vfir, x => .vfir x | .vfrac, x => .vfrac x
  | .cres, x => .cres x | .cest, x => .cest x | .gtrip, x => .gtrip x | .cref, x => .cref x
  | .gmon, x => .gmon x | .vpeak, x => .vpeak x | .vpow, x => .vpow x | .vcnt, x => .vcnt x
  | .env, x => .env x | .sdb, x => .sdb x | .frecv, x => .frecv x | .msend, x => .msend x
  | .mrecv, x => .mrecv x | .loop, x => .loop x | .endLoop, x => .endLoop x | .event, x => .event x
  | .halt, x => .halt x

/-- A context executes an instruction: it runs, the word at its index is that one and its predicate holds. -/
structure Executes (x : Ctx) (n : WOp) (w : WWord) (s : State) : Prop where
  runs : ctxRuns s x = true
  fetched : wfetch s x = some w
  named : wname w = some n
  taken : predHolds (ctxSc s x) w.pred = true

/-- The sticky saturation flag of a context: SAT of PRG_FLAGS, or bit 0 of the coil's flags (R261). -/
def ctxSat (s : State) : Ctx → Bool
  | .strand k i => (s.prog k i).fSat
  | .coil c => (s.coils[c]).flags % 2 == 1

/-- Nothing outside a context has changed. -/
def CtxOnly (x : Ctx) (s t : State) : Prop :=
  match x with
  | .strand k i => KeepsBut [.dies] s t ∧ OtherDies k s t ∧ { t.dies[k] with prog := (s.dies[k]).prog } = s.dies[k] ∧
      ∀ j, j ≠ i → t.prog k j = s.prog k j
  | .coil c => KeepsBut [.coils] s t ∧ ∀ d : CoilIx, d ≠ c → t.coils[d] = s.coils[d]

/-- Of a context, nothing but its scalar side and its saturation flag, with the trace that a coil's flag triggers, has
changed. -/
def RestKept (x : Ctx) (s t : State) : Prop :=
  match x with
  | .strand k i => { t.prog k i with sc := (s.prog k i).sc, fSat := (s.prog k i).fSat } = s.prog k i
  | .coil c => { t.coils[c] with ctx := (s.coils[c]).ctx, flags := (s.coils[c]).flags, trace := (s.coils[c]).trace } =
      s.coils[c]

/-- An instruction wrote one scalar register and moved on; a clamp set the saturation flag. -/
def ScalarResult (x : Ctx) (d : Nat) (v : Word) (clamp : Bool) (s t : State) : Prop :=
  ctxSc t x = { ctxSc s x with s := vset (ctxSc s x).s (Fin.ofNat 16 d) v, pc := (ctxSc s x).pc + 1 } ∧
  ctxSat t x = (ctxSat s x || clamp) ∧ RestKept x s t ∧ CtxOnly x s t

/-- A signed result, clamped to 32 bits (R258, R261). -/
def SignedResult (x : Ctx) (d : Nat) (v : Int) (s t : State) : Prop :=
  ScalarResult x d (BitVec.ofInt 32 (sat 32 v)) (sat 32 v != v) s t

/-- An instruction wrote one predicate and moved on. -/
def PredResult (x : Ctx) (d : Nat) (b : Bool) (s t : State) : Prop :=
  ctxSc t x =
    { ctxSc s x with
      p0 := if d = 0 then b else (ctxSc s x).p0, p1 := if d = 0 then (ctxSc s x).p1 else b, pc := (ctxSc s x).pc + 1 } ∧
  ctxSat t x = ctxSat s x ∧ RestKept x s t ∧ CtxOnly x s t

/-- An instruction changed a strand's program state by a function, moved on, and set SAT for a clamp. -/
def ProgResult (k : DieIx) (i : StrandIx) (clamp : Bool) (f : Prog → Prog) (s t : State) : Prop :=
  t.prog k i = f
    { s.prog k i with
      sc := { (s.prog k i).sc with pc := (s.prog k i).sc.pc + 1 }, fSat := (s.prog k i).fSat || clamp } ∧ CtxOnly (.strand k i) s t

/-- An instruction wrote one vector register, each lane clamped to 24 bits. -/
def VectorResult (k : DieIx) (i : StrandIx) (d : Nat) (l : Lanes) (s t : State) : Prop :=
  ProgResult k i (overLanes 24 l) (fun p =>
    { p with vec := { p.vec with v := vset p.vec.v (Fin.ofNat 32 d) (l.map (satCx 24)) } }) s t

/-- An instruction wrote one accumulator, each lane clamped to 40 bits. -/
def AccResult (k : DieIx) (i : StrandIx) (d : Nat) (l : Lanes) (s t : State) : Prop :=
  ProgResult k i (overLanes 40 l) (fun p =>
    { p with vec := { p.vec with a := vset p.vec.a (Fin.ofNat 8 d) (l.map (satCx 40)) } }) s t

/-- A loop instruction wrote one x register, clamped to 32 bits. -/
def XResult (c : CoilIx) (d : Nat) (v : Int) (s t : State) : Prop :=
  { t.coils[c] with flags := (s.coils[c]).flags, trace := (s.coils[c]).trace } =
    { s.coils[c] with
      ctx := { (s.coils[c]).ctx with pc := (s.coils[c]).ctx.pc + 1 },
      xs := vset (s.coils[c]).xs (Fin.ofNat 16 d) (BitVec.ofInt 32 (sat 32 v)) } ∧
  ctxSat t (.coil c) = (ctxSat s (.coil c) || sat 32 v != v) ∧ CtxOnly (.coil c) s t

end Sys2Proof.Machine
end

