-- ==== Sys2Proof/WellFormed.lean ====
section
/-!
DEFINITION. WellFormed.lean: the commands whose outside values fit the fields that carry them. What is not well formed
is no command that the hardware can receive.
-/
namespace Sys2Proof

/-- Whether a sample's parts fit a signed field of n bits. -/
def Cx.fits (n : Nat) (z : Cx) : Bool :=
  let h := (2 : Int) ^ (n - 1)
  decide (-h ≤ z.re ∧ z.re < h ∧ -h ≤ z.im ∧ z.im < h)

/-- Whether a number fits n bits. -/
def fitsBits (n v : Nat) : Bool := decide (v < 2 ^ n)

/-- Whether a cell of a search has its fields: the SINR a signed half word, the PCI 10 bits (08_radio_control.md
R313). -/
def cellFits (x : Bool × Int × Nat) : Bool := decide (-32768 ≤ x.2.1 ∧ x.2.1 < 32768) && fitsBits 10 x.2.2

/-- The checks of a command's values. A command that is not named carries only values whose types bound them. -/
def Instr.wf : Instr → Bool
  | .registerWrite _ bytes _ _ => decide (1 ≤ bytes ∧ bytes ≤ 8)
  | .blockAtPointIn _ _ _ xs ovr r0 r1 _ =>
    decide (xs.length ≤ 64 ∧ ovr ≤ 64 ∧ r0.length ≤ 64 ∧ r1.length ≤ 64) && xs.all (Cx.fits 32) && r0.all (Cx.fits 32) &&
      r1.all (Cx.fits 32)
  | .adcOverload _ _ peak => fitsBits 14 peak
  | .messageArrival _ _ _ bytes => decide (bytes.length = 32)
  | .presenceCheckDone _ _ cells => decide (cells.length ≤ 8) && cells.all cellFits
  | .scanTaskDone _ _ _ cells => decide (cells.length ≤ 8) && cells.all cellFits
  | .rffeTransactionDone _ data _ => fitsBits 16 data
  | .authHello _ serial _ key nonce => fitsBits 64 serial && fitsBits 776 key && fitsBits 256 nonce
  | .authCert _ cert sig => decide (1 ≤ cert.length) && fitsBits 768 sig
  | .time _ t => fitsBits 48 t
  | .timeRx _ t2 => fitsBits 48 t2
  | .streamFrameRx _ bytes _ => decide (bytes.length = 199 ∨ bytes.length = 263)
  | .waleMessage _ _ data => decide (data.length = 32)
  | .waleBulkWrite _ _ _ data => decide (1 ≤ data.length ∧ data.length ≤ 248)
  | .discoveryClaim _ _ serial _ _ => fitsBits 64 serial
  | .routeTableLoad _ _ _ codes => decide (codes.length = 64)
  | .linkEvent _ _ _ _ serial => fitsBits 64 serial
  | .responseFrameRx _ _ _ data => decide (data.length ≤ 255)
  | .admissionAnswer _ _ _ route _ => fitsBits 32 route
  | .caneBulkWrite _ _ data => decide (1 ≤ data.length ∧ data.length ≤ 248)
  | .lidresp sig => fitsBits 768 sig
  | .lidpw _ pw => fitsBits 256 pw
  | .tapHalt bits => fitsBits 8 bits
  | _ => true

end Sys2Proof
end

