-- ==== Sys2Proof/Certificates/Slice0/Obligations.lean ====
section
/-!
DEFINITION. Certificates/Slice0/Obligations.lean: what is claimed of the block, from the numbered rules of spec/.
-/
open Sys2Proof Sys2Proof.Machine

/-! ## The block -/

/-- A step with a command at the front of the queue is that command on the state with the rest of the queue. -/
def Obligations.StepTakesFront : Prop := ∀ (c : Instr) (s : State), step (s.front c) = exec c s

/-- Every command has an effect in every state: none of the 356 ends in a fault or a refusal, whatever its operands. What that
effect is, each statement below says for the commands that it names. Commands that complete here: all of them. -/
def Obligations.EveryCommandCompletes : Prop := ∀ (c : Instr) (s : State), Answers (exec c s) fun _ => True

/-- With no command waiting the block idles, and fabric time moves on by 1 ns: the model's choice, in log entry 2. -/
def Obligations.EmptyQueueIdles : Prop := ∀ s : State, s.pending = [] →
  Answers (step s) fun t => t.time.ft = s.time.ft + 1 ∧ t.pending = [] ∧ t.regs = s.regs ∧ t.mem = s.mem ∧
    t.dies = s.dies ∧ t.coils = s.coils ∧ t.lash = s.lash ∧ t.done = s.done

/-- Every step from a state in canonical form answers one in canonical form: equal memories and equal stored registers
stay equal data. -/
def Obligations.CanonicalKept : Prop := ∀ s t : State, s.Canonical → step s = .next t → t.Canonical

/-- What a write of a word to a memory leaves to be read: the word at its place, and at every place that the word does not
cover what was there before. The memory is in canonical form and stays so. -/
def Obligations.MemoryWords : Prop := ∀ (sp : Space) (off : Nat) (w : Word) (s : State), Memory.wf s.mem = true →
  readWord sp off (writeWord sp off w s) = w ∧ Memory.wf (writeWord sp off w s).mem = true ∧
    ∀ a, (a < sp.base + off ∨ sp.base + off + 4 ≤ a) → memGet (writeWord sp off w s).mem a = memGet s.mem a

/-- The state after reset: the gain registers at the values of their table, the Lid Closed, no safe state, no address, no
route, the Cane link QUIET, every strand and coil STOPPED and every port in Sleep; memory and stored words are in
canonical form. -/
def Obligations.ResetValues : Prop :=
  ((∀ k i, regValue ⟨.GAIN_CFG, k, i, 0⟩ State.reset = BitVec.ofNat 32 (Reg.info .GAIN_CFG).reset) ∧
    State.reset.lid.st = .closed ∧ State.reset.lash.safe = false ∧ State.reset.wale.addr = 63 ∧
    (∀ d : Fin 64, (State.reset.wale.routes)[d] = 15) ∧ State.reset.cane.st = .quiet ∧
    (∀ k : DieIx, ∀ i : StrandIx, (State.reset.strand k i).st = .stopped) ∧ (∀ c : CoilIx, (State.reset.coils[c]).st = .stopped) ∧
    (∀ k : DieIx, ∀ p : PortIx, (State.reset.port k p).st = .sleep)) ∧
  (State.reset.Canonical)
/-! ## Register accesses -/

/-- The checks of a register write, in their order: the first that fails gives the completion, and the write changes
nothing but the denial registers of the second check (R582, R20).
Commands that complete here: registerWrite. -/
def Obligations.WriteChecks : Prop := ∀ (o : Origin) (bytes : Nat) (a w : Word) (s : State),
  (placeAt bytes a s = none → Answers (exec (.registerWrite o bytes a w) s) fun t =>
    t.done = ⟨.noSuchAddress, 0⟩ ∧ KeepsBut logParts s t) ∧
  ∀ p, placeAt bytes a s = some p →
    (mayWrite (originLetter o) a.toNat p = false → Answers (exec (.registerWrite o bytes a w) s) fun t =>
      t.done = ⟨.accessDenied, 0⟩ ∧ t.lid.denyAddr = a ∧ t.lid.denyOrigin = originCode o ∧
        KeepsBut (.lid :: logParts) s t) ∧
    (mayWrite (originLetter o) a.toNat p = true →
      (lidRefuses p w s = true → Answers (exec (.registerWrite o bytes a w) s) fun t =>
        t.done = ⟨.lidClosed, 0⟩ ∧ KeepsBut logParts s t) ∧
      (lidRefuses p w s = false →
        (recorded p w s = true → canReserve s = false → Answers (exec (.registerWrite o bytes a w) s) fun t =>
          t.done = ⟨.auditFull, 0⟩ ∧ KeepsBut logParts s t) ∧
        ((recorded p w s = true → canReserve s = true) →
          (targetCode o true a.toNat p s ≠ .ok → Answers (exec (.registerWrite o bytes a w) s) fun t =>
            t.done = ⟨targetCode o true a.toNat p s, 0⟩ ∧ KeepsBut logParts s t) ∧
          (targetCode o true a.toNat p s = .ok → placeRule p w s ≠ .ok →
            Answers (exec (.registerWrite o bytes a w) s) fun t =>
              t.done = ⟨placeRule p w s, 0⟩ ∧ KeepsBut logParts s t))))

/-- A narrower or unaligned access, and an access to an unassigned address, changes nothing and completes with
NO_SUCH_ADDRESS (R11, R577). A write to a register none of whose fields takes a write completes with OK and changes
nothing (R583, R14). A write that fails changes no field of any register: no stored register word changes, whatever
the address (R17).
Commands that complete here: registerWrite. -/
def Obligations.WritesThatStoreNothing : Prop :=
  (∀ (o : Origin) (bytes : Nat) (a w : Word) (s : State),
    (bytes ≠ 4 ∨ a.toNat % 4 ≠ 0 ∨ assigned a.toNat = false) →
      Answers (exec (.registerWrite o bytes a w) s) fun t => t.done = ⟨.noSuchAddress, 0⟩ ∧ KeepsBut logParts s t) ∧
  (∀ (o : Origin) (x : RegKey) (w : Word) (s : State),
    Admits o x w s → writable x.reg = false →
      Answers (exec (.registerWrite o 4 (BitVec.ofNat 32 (keyAddr x)) w) s) fun t =>
        t.done = ⟨.ok, 0⟩ ∧ KeepsBut logParts s t) ∧
  (∀ (o : Origin) (bytes : Nat) (a w : Word) (s : State),
    (writeAt o bytes a w s).1 ≠ .ok →
      Answers (exec (.registerWrite o bytes a w) s) fun t => t.done = ⟨(writeAt o bytes a w s).1, 0⟩ ∧ t.regs = s.regs)

/-- A write to a register whose fields are plain RW stores their bits and nothing else of the word, and leaves every other
stored register word (R14): the gain, the meter windows, the settings of adaptation, sounding and the guard, the
tuner, the lean cells, the fixed supply level and the wake sources. An accepted write that Tally records, and whose
completion is OK, stages one record: the next sequence number, the code and the address of the origin, the register's
address and the present time and epoch (R501, R504).
Commands that complete here: registerWrite. -/
def Obligations.PlainRegisters : Prop :=
  (∀ (o : Origin) (x : RegKey) (w : Word) (s : State),
    x.reg ∈ [Reg.GAIN_CFG, .METER_CFG, .CNC_ADAPT, .SOUND_CFG, .GRD_CFG, .LEAN_CFG, .LEAN_MASK, .TUNE_SEQ, .SP_HOST,
      .FIXED_SP, .WAKE_CFG] →
    s.Canonical → Admits o x w s →
      Answers (exec (.registerWrite o 4 (BitVec.ofNat 32 (keyAddr x)) w) s) fun t =>
        t.done = ⟨.ok, 0⟩ ∧ regGet t.regs x = w &&& BitVec.ofNat 32 (storedMask x.reg) ∧
        (∀ y, y ≠ x → regGet t.regs y = regGet s.regs y) ∧ KeepsBut (.regs :: logParts) s t) ∧
  (∀ (o : Origin) (x : RegKey) (w : Word) (s : State),
    Admits o x w s → writable x.reg = true → recordedNow (.reg x) w s = true →
    (regEffect o x w s).1 = .ok → (regEffect o x w s).2.tally = s.tally →
      ∃ r : TallyRec, (writeAt o 4 (BitVec.ofNat 32 (keyAddr x)) w s).2.tally.staged = s.tally.staged ++ [r] ∧
        (writeAt o 4 (BitVec.ofNat 32 (keyAddr x)) w s).2.tally.next = seqNext s.tally.next ∧
        r.seq = s.tally.next ∧ r.origin = originCode o ∧ r.code = 0 ∧ r.tail = false ∧
        r.target = (BitVec.ofNat 32 (keyAddr x)).toNat ∧ r.time = (regEffect o x w s).2.wall ∧
        r.epoch = (regEffect o x w s).2.time.epoch ∧ r.originAddr = originAddr o (regEffect o x w s).2)

/-- A read of an RC field returns its value and then clears it: the overload count and the peak of a port (R14). A read of
the low word of fabric time or of wall time latches the high word, so that the pair reads as one value (R420, R483).
Commands that complete here: ftLoRead, wtLoRead. -/
def Obligations.SpecialReads : Prop :=
  (∀ (o : Origin) (k : DieIx) (p : PortIx) (s : State),
    (Reads o ⟨.ADC_OVR_COUNT, k.val, p.val, 0⟩ s →
      (readAt o 4 (BitVec.ofNat 32 (keyAddr ⟨.ADC_OVR_COUNT, k.val, p.val, 0⟩)) s).1 = .ok ∧
      (readAt o 4 (BitVec.ofNat 32 (keyAddr ⟨.ADC_OVR_COUNT, k.val, p.val, 0⟩)) s).2.1 =
        regValue ⟨.ADC_OVR_COUNT, k.val, p.val, 0⟩ s ∧
      ((readAt o 4 (BitVec.ofNat 32 (keyAddr ⟨.ADC_OVR_COUNT, k.val, p.val, 0⟩)) s).2.2.conv k p).ovrCount = 0) ∧
    (Reads o ⟨.ADC_PEAK, k.val, p.val, 0⟩ s →
      (readAt o 4 (BitVec.ofNat 32 (keyAddr ⟨.ADC_PEAK, k.val, p.val, 0⟩)) s).2.1 = regValue ⟨.ADC_PEAK, k.val, p.val, 0⟩ s ∧
      ((readAt o 4 (BitVec.ofNat 32 (keyAddr ⟨.ADC_PEAK, k.val, p.val, 0⟩)) s).2.2.conv k p).peak = 0)) ∧
  (∀ (o : Origin) (s : State),
    (Reads o ⟨.FT_LO, 0, 0, 0⟩ s → Answers (exec (.ftLoRead o) s) fun t =>
      t.done = ⟨.ok, BitVec.ofNat 32 s.fab⟩ ∧ t.time.ftHi = s.fab / 2 ^ 32 % 2 ^ 32 ∧ t.fab = s.fab ∧
        KeepsBut [.done, .time] s t) ∧
    (Reads o ⟨.WT_LO, 0, 0, 0⟩ s → Answers (exec (.wtLoRead o) s) fun t =>
      t.done = ⟨.ok, BitVec.ofNat 32 s.wall⟩ ∧ t.time.wtHi = s.wall / 2 ^ 32 ∧ t.time.ft = s.time.ft ∧
        KeepsBut [.done, .time] s t))

/-! ## Converters and the riddle chain -/

/-- A write of APPLY: nothing changes while one is pending (R61); on a stopped strand the staged frequency and phase
offset become active at once with the accumulator running on (R62); on a running one the commit waits, once the
placement and the regulatory record allow the frequency, and the write is refused where either does not (R55, R208).
Swap requests: on a running strand one becomes pending and replaces an earlier one, on a stopped strand the target is
active at once; a group request asks it of every masked strand when all run at one rate, and else changes nothing
(R81, R82, R86, R89).
Commands that complete here: ncoApply, swapReq, rdlGroupSwap. -/
def Obligations.ApplyAndSwap : Prop :=
  (∀ (o : Origin) (k : DieIx) (i : StrandIx) (s : State),
    Admits o ⟨.NCO_CTRL, k.val, i.val, 0⟩ 1 s →
    ((s.rid k i).pending = true → Answers (exec (.ncoApply o k i) s) (Accepted s)) ∧
    ((s.rid k i).pending = false →
      ((s.strand k i).st = .stopped → Answers (exec (.ncoApply o k i) s) (Accepted (s.modRid k i fun r =>
        { r with phase := phaseAt r s.time.ft, phaseFt := s.time.ft, ftw := stagedFtw s k i,
                 phOff := (s.cfg2 .NCO_PHASE k i).toNat, pending := false, cfgFault := 0 }))) ∧
      ((s.strand k i).st ≠ .stopped → placeFault s k i (stagedFtw s k i) = 0 →
        (hasOutput s k i = true → regFaultBand s k i (stagedFtw s k i) = 0) →
        Answers (exec (.ncoApply o k i) s) (Accepted (s.modRid k i fun r => { r with pending := true, cfgFault := 0 }))) ∧
      ((s.strand k i).st ≠ .stopped → placeFault s k i (stagedFtw s k i) ≠ 0 →
        Answers (exec (.ncoApply o k i) s) fun t =>
          t.done = ⟨.badProgram, 0⟩ ∧ t.dies = (s.modRid k i fun r =>
            { r with cfgFault := placeFault s k i (stagedFtw s k i) }).dies ∧ KeepsBut (.dies :: logParts) s t) ∧
      ((s.strand k i).st ≠ .stopped → placeFault s k i (stagedFtw s k i) = 0 → hasOutput s k i = true →
        regFaultBand s k i (stagedFtw s k i) ≠ 0 → Answers (exec (.ncoApply o k i) s) fun t =>
          t.done = ⟨.lockedRegulatory, 0⟩ ∧ t.dies = (s.modProt k i fun p =>
            { p with regFault := regFaultBand s k i (stagedFtw s k i) }).dies ∧ KeepsBut (.dies :: logParts) s t))) ∧
  (∀ (o : Origin) (k : DieIx) (i : StrandIx) (mask : BitVec 16) (b : Fin 2) (K : Fin 16)
      (s : State),
    (Admits o ⟨.SWAP_REQ, k.val, i.val, 0⟩ (mkWord [(8, 8, b.val), (3, 0, K.val)]) s →
      ((s.strand k i).st ≠ .stopped → Answers (exec (.swapReq o k i b K) s) (Accepted (s.modRid k i fun r =>
        { r with replaced := r.replaced || r.pend.isSome, pend := some (b, K.val) }))) ∧
      ((s.strand k i).st = .stopped →
        Answers (exec (.swapReq o k i b K) s) (Accepted (s.modRid k i fun r => { r with active := b })))) ∧
    (Admits o ⟨.RDL_GROUP_SWAP, k.val, 0, 0⟩ (mkWord [(24, 24, b.val), (19, 16, K.val), (15, 0, mask.toNat)]) s →
      ((∀ j ∈ maskStrands mask.toNat, (s.strand k j).st ≠ .stopped ∧ ∀ j' ∈ maskStrands mask.toNat, rdlH s k j = rdlH s k j') →
        Answers (exec (.rdlGroupSwap o k mask b K) s) (Accepted (s.each (maskStrands mask.toNat) fun j s =>
          s.modRid k j fun r => { r with replaced := r.replaced || r.pend.isSome, pend := some (b, K.val) }))) ∧
      ((∃ j ∈ maskStrands mask.toNat, (s.strand k j).st = .stopped ∨ ∃ j' ∈ maskStrands mask.toNat, rdlH s k j ≠ rdlH s k j') →
        Answers (exec (.rdlGroupSwap o k mask b K) s) fun t => t.done = ⟨.badProgram, 0⟩ ∧ KeepsBut logParts s t)))

/-- Synchronising resets by RDL_SYNC: at once, armed for the instant whose low 32 bits RDL_SYNC_TIME gives, or cancelled;
an instant less than 200 ns away resets at once and sets MISSED (R67, R72, R73). A stopped strand is left alone (R67);
a running one has its APPLY committed, its accumulator loaded, its delay lines and its integrate-and-dump stage
cleared, a fade completed, a pending request discarded, the delay set as last written and the fill count started (R68,
R72). At the armed instant every masked strand is reset with the accumulator loaded for it (R72).
Commands that complete here: rdlSyncNow, rdlSyncArm, rdlSyncCancel, timedSyncReset. -/
def Obligations.SynchronisingResets : Prop :=
  (∀ (o : Origin) (k : DieIx) (mask : BitVec 16) (s : State),
    (Admits o ⟨.RDL_SYNC, k.val, 0, 0⟩ (mkWord [(15, 0, mask.toNat)]) s →
      Answers (exec (.rdlSyncNow o k mask) s)
        (Accepted (presFollow k s (s.each (maskStrands mask.toNat) (syncReset none k))))) ∧
    (Admits o ⟨.RDL_SYNC, k.val, 0, 0⟩ (mkWord [(16, 16, 1), (15, 0, mask.toNat)]) s →
      ∃ T, T % 2 ^ 32 = (s.cfg1 .RDL_SYNC_TIME k).toNat ∧ s.fab ≤ T ∧ T < s.fab + 2 ^ 32 ∧
        (s.fab + 200 ≤ T → Answers (exec (.rdlSyncArm o k mask) s)
          (Accepted (presFollow k s (s.modDie k fun d => { d with armed := some (mask.toNat, T) })))) ∧
        (T < s.fab + 200 → Answers (exec (.rdlSyncArm o k mask) s) (Accepted (presFollow k s
          ((s.each (maskStrands mask.toNat) (syncReset (some T) k)).modDie k fun d => { d with missed := true }))))) ∧
    (Admits o ⟨.RDL_SYNC, k.val, 0, 0⟩ (mkWord [(17, 17, 1)]) s →
      Answers (exec (.rdlSyncCancel o k) s) (Accepted (presFollow k s (s.modDie k fun d => { d with armed := none }))))) ∧
  ((∀ (T : Option Nat) (k : DieIx) (i : StrandIx) (s : State),
      ((s.strand k i).st = .stopped → syncReset T k i s = s) ∧
      ((s.strand k i).st ≠ .stopped →
        ((syncReset T k i s).rid k i).phase = 0 ∧
        ((syncReset T k i s).rid k i).phaseFt =
          (match T with | some t => ((t : Int) - s.time.off).toNat | none => s.time.ft) ∧
        (∀ n : Fin 3, ((syncReset T k i s).rid k i).lines[n] = ⟨[], []⟩) ∧ ((syncReset T k i s).rid k i).txFir = [] ∧
        ((syncReset T k i s).rid k i).snap.n = 0 ∧ ((syncReset T k i s).rid k i).snap.sum = ⟨0, 0⟩ ∧
        ((syncReset T k i s).rid k i).pending = false ∧
        ((s.rid k i).pending = true → ((syncReset T k i s).rid k i).ftw = stagedFtw s k i) ∧
        ((s.rid k i).pending = false → ((syncReset T k i s).rid k i).ftw = (s.rid k i).ftw) ∧
        ((syncReset T k i s).rid k i).fade = none ∧
        ((syncReset T k i s).rid k i).active =
          (match (s.rid k i).fade with | some f => f.target | none => (s.rid k i).active) ∧
        ((syncReset T k i s).rid k i).pend = none ∧
        ((syncReset T k i s).rid k i).discarded = ((s.rid k i).discarded || (s.rid k i).pend.isSome) ∧
        ((syncReset T k i s).rid k i).delayAct = delayTarget s k i ∧
        ((syncReset T k i s).rid k i).delayWait = false ∧ ((syncReset T k i s).rid k i).slewing = none ∧
        ((syncReset T k i s).rid k i).filling = some s.time.ft ∧ ((syncReset T k i s).rid k i).valid = false ∧
        ((syncReset T k i s).rid k i).sync = s.time.ft ∧
        KeepsBut [.dies] s (syncReset T k i s) ∧ OtherDies k s (syncReset T k i s))) ∧
    (∀ (k : DieIx) (m T : Nat) (s : State), (s.dies[k]).armed = some (m, T) →
      T ≤ s.fab → exec (.timedSyncReset k) s = .next (presFollow k s
        ((s.each (maskStrands m) (syncReset (some T) k)).modDie k fun d => { d with armed := none }))))

/-- The boundaries of a strand's riddle chain: the commit of an APPLY, after which in snap mode the next F_front samples
are discarded and a new integration starts, the end of the fill count, a new DELAY as a step or a slew, and the start
and the end of a fade (R62, R69, R76, R79, R81, R83, R85). An overload of an ADC sets ADC_OVR, advances ADC_OVR_COUNT
by one up to its end, and keeps the peak (R57); an uncorrectable bank error marks the 64-bit word until it is written,
so that the strand's FIRs use a bad word, and latches the source of the coefficient memory when the hub sees the die
(R88, R512, R513).
Commands that complete here: ncoCommit, fillCountEnd, delayTakeEffect, fadeStart, fadeEnd, adcOverload,
coefBankEccError. -/
def Obligations.RiddleBoundaries : Prop :=
  (∀ (k : DieIx) (i : StrandIx) (s : State),
    ((s.rid k i).pending = true → rdlSnap s k i = false →
      exec (.ncoCommit k i) s = .next (presFollow k s (s.modRid k i fun r =>
        { r with phase := phaseAt r s.time.ft, phaseFt := s.time.ft, ftw := stagedFtw s k i,
                 phOff := (s.cfg2 .NCO_PHASE k i).toNat, pending := false }))) ∧
    ((s.rid k i).pending = true → rdlSnap s k i = true →
      exec (.ncoCommit k i) s = .next (presFollow k s (s.modRid k i fun r =>
        { r with phase := phaseAt r s.time.ft, phaseFt := s.time.ft, ftw := stagedFtw s k i,
                 phOff := (s.cfg2 .NCO_PHASE k i).toNat, pending := false,
                 snap := ⟨frontFill (rdlH s k i), 0, ⟨0, 0⟩⟩, snapL := fld (s.cfg2 .SNAP_CFG k i) 10 0 }))) ∧
    ((s.rid k i).filling.isSome = true →
      exec (.fillCountEnd k i) s = .next (s.modRid k i fun r => { r with filling := none, valid := true })) ∧
    ((s.rid k i).delayWait = true → bit (s.cfg2 .DELAY_CFG k i) 16 = false →
      exec (.delayTakeEffect k i) s = .next (s.modRid k i fun r =>
        { r with delayAct := fld (s.cfg2 .DELAY_CFG k i) 13 0, delayWait := false, slewing := none })) ∧
    ((s.rid k i).delayWait = true → bit (s.cfg2 .DELAY_CFG k i) 16 = true →
      exec (.delayTakeEffect k i) s = .next (s.modRid k i fun r => { r with delayWait := false, slewing := some s.time.ft })) ∧
    (∀ b K, (s.rid k i).pend = some (b, K) → (s.rid k i).fade = none →
      (b = (s.rid k i).active → exec (.fadeStart k i) s = .next (s.modRid k i fun r => { r with pend := none })) ∧
      (b ≠ (s.rid k i).active → K = 0 →
        exec (.fadeStart k i) s = .next (s.modRid k i fun r => { r with pend := none, active := b })) ∧
      (b ≠ (s.rid k i).active → K ≠ 0 →
        exec (.fadeStart k i) s = .next (s.modRid k i fun r => { r with pend := none, fade := some ⟨b, K, s.time.ft⟩ }))) ∧
    (∀ f, (s.rid k i).fade = some f →
      exec (.fadeEnd k i) s = .next (s.modRid k i fun r => { r with active := f.target, fade := none }))) ∧
  (∀ (k : DieIx) (i : StrandIx) (p : PortIx) (peak : Nat) (s : State),
    exec (.adcOverload k p peak) s = .next (s.modConv k p fun c =>
      { c with adcOvr := true, ovrCount := satInc (2 ^ 32 - 1) c.ovrCount, peak := max c.peak (min 8192 peak) }) ∧
    ∀ (b : Fin 2) (n : Fin 128), Answers (exec (.coefBankEccError k ⟨i, b, n⟩) s) fun t =>
      t.rid k i = { s.rid k i with
        bad := (128 * b.val + n.val) :: (s.rid k i).bad.filter fun x => x != 128 * b.val + n.val } ∧
      (b ∈ banksRead (s.rid k i) → 2 * n.val < rdlTaps s k i → usesBad t k i = true) ∧ (srcSeen (srcOfDie k 4) s = true → (t.lash.srcs[srcOfDie k 4]).latched = true) ∧
      t.regs = s.regs ∧ t.mem = s.mem)

/-! ## The stake link and the release of band dies -/

/-- A control lane: retries are counted to four; a lost lane latches its Lashing source when the hub sees the die; a die
without valid packets mutes every transmitter on its ports; re-establishing the lane ends the source's activity and
leaves those mutes (R32, R33, R512). An access to a die whose lane is lost completes with TIMEOUT (R32), one to a
power-gated or unreleased die with BUSY (R41, R580), and a write to a held die with BUSY while reads complete (R40). A
band die is released once the one before it is, with every transmitter off (R47, R552).
Commands that complete here: controlPacketRetry, controlLaneLost, bandDieSelfMute, controlLaneReestablished,
bandDieRelease. -/
def Obligations.StakeLink : Prop :=
  (∀ (k : DieIx) (s : State),
    exec (.controlPacketRetry k) s = .next (s.modDie k fun d => { d with retries := satInc 4 d.retries }) ∧
    ((s.dies[k]).powered = true → (s.dies[k]).laneLost = false → Answers (exec (.controlLaneLost k) s) fun t =>
      (t.dies[k]).laneLost = true ∧ (srcSeen (srcOfDie k 0) s = true →
        (t.lash.srcs[srcOfDie k 0]).latched = true ∧ (t.lash.srcs[srcOfDie k 0]).active = true) ∧
      (∀ n : SrcIx, n ≠ srcOfDie k 0 → t.lash.srcs[n] = s.lash.srcs[n]) ∧ t.regs = s.regs ∧ t.mem = s.mem ∧
      OtherDies k s t) ∧
    Answers (exec (.bandDieSelfMute k) s) (fun t => (t.dies[k]).selfMute = true ∧
      (∀ p : PortIx, (t.port k p).selfMuted = true) ∧ KeepsBut [.dies] s t ∧ OtherDies k s t) ∧
    Answers (exec (.controlLaneReestablished k) s) (fun t => (t.dies[k]).laneLost = false ∧
      (t.lash.srcs[srcOfDie k 0]).active = false ∧ (∀ p : PortIx, t.port k p = s.port k p) ∧
      KeepsBut [.dies, .lash] s t ∧ OtherDies k s t)) ∧
  ((∀ (o : Origin) (a : Nat) (p : Place) (k : DieIx) (s : State),
      dieOfAddr a = some k → s.pwr.inReset = false → s.pwr.st ≠ .foot → s.handle.recovery = false → s.pwr.failLow = false →
        (((s.dies[k]).powered = false ∨ (s.dies[k]).released = false) → ∀ b, targetCode o b a p s = .busy) ∧
        ((s.dies[k]).powered = true → (s.dies[k]).released = true →
          ((s.dies[k]).laneLost = true → ∀ b, targetCode o b a p s = .timeout) ∧
          ((s.dies[k]).laneLost = false → s.lash.safe = true →
            targetCode o true a p s = .busy ∧ targetCode o false a p s = .ok) ∧
          ((s.dies[k]).laneLost = false → s.lash.safe = false → ∀ b, targetCode o b a p s = .ok))) ∧
    (∀ (k : DieIx) (s : State), canRelease s k = true → s.handle.recovery = false →
      Answers (exec (.bandDieRelease k) s) fun t => (t.dies[k]).released = true ∧ OtherDies k s t ∧ t.regs = s.regs ∧
        t.mem = s.mem ∧ ∀ i : StrandIx, t.strand k i = s.strand k i))

/-! ## Strands -/

/-- A START of a stopped strand that passes every check: the strand is STARTING with every mute source held, its last
start fault is 0, and it has made a synchronising reset; no other strand of any die changes its state (R99, R100). The
first check that fails gives the completion and START_FAULT, and the strand stays stopped (R99).
Commands that complete here: strStart. -/
def Obligations.StrandStarts : Prop :=
  (∀ (o : Origin) (k : DieIx) (i : StrandIx) (s : State),
    Admits o ⟨.STR_CTRL, k.val, i.val, 0⟩ 1 s → (s.strand k i).st = .stopped → (startChecks s k i).1 = .ok →
      Answers (exec (.strStart o k i) s) fun t =>
        t.done = ⟨.ok, 0⟩ ∧ (t.strand k i).st = .starting ∧ (t.strand k i).startFault = 0 ∧ muteBits t k i = 0xFF ∧
        (t.rid k i).phase = 0 ∧ (t.rid k i).valid = false ∧ (t.rid k i).filling = some s.time.ft ∧
        (∀ j : StrandIx, j ≠ i → (t.strand k j).st = (s.strand k j).st) ∧ OtherDies k s t ∧ t.regs = s.regs ∧ t.mem = s.mem) ∧
  (∀ (o : Origin) (k : DieIx) (i : StrandIx) (s : State),
    Admits o ⟨.STR_CTRL, k.val, i.val, 0⟩ 1 s → (s.strand k i).st = .stopped →
      ∀ c f, ((hasOutput s k i = true ∧ s.handle.versionHeld = true ∧ c = Code.versionHeld ∧ f = (s.strand k i).startFault) ∨
        (¬(hasOutput s k i = true ∧ s.handle.versionHeld = true) ∧
          ((hasOutput s k i = true ∧ s.thm.hold = true ∧ c = .thermalHold ∧ f = (s.strand k i).startFault) ∨
          (¬(hasOutput s k i = true ∧ s.thm.hold = true) ∧
            ((programOk s k i = false ∧ c = .badProgram ∧ f = 2) ∨
            (programOk s k i = true ∧
              ((portsFollow s k i = false ∧ c = .badProgram ∧ f = 3) ∨
              (portsFollow s k i = true ∧
                ((¬((∀ e ∈ epsOf s k i, (s.wale.eps[Fin.ofNat 256 e]).st = .admitted) ∧
                    ∀ e ∈ epsOf s k i ++ msgEpsOf s k i, epInUse s k i e = false) ∧
                  c = .badProgram ∧ f = 4) ∨
                (((∀ e ∈ epsOf s k i, (s.wale.eps[Fin.ofNat 256 e]).st = .admitted) ∧
                    ∀ e ∈ epsOf s k i ++ msgEpsOf s k i, epInUse s k i e = false) ∧
                  ((placeFault s k i (s.rid k i).ftw ≠ 0 ∧ c = .badProgram ∧ f = 1) ∨
                  (placeFault s k i (s.rid k i).ftw = 0 ∧ regFaultOf s k i ≠ 0 ∧ c = .lockedRegulatory ∧ f = 5)))))))))))) →
        Answers (exec (.strStart o k i) s) fun t =>
          t.done = ⟨c, 0⟩ ∧ (t.strand k i).startFault = f ∧ (∀ j : StrandIx, (t.strand k j).st = (s.strand k j).st) ∧
          OtherDies k s t ∧ KeepsBut (.dies :: logParts) s t)

/-- Starts and stops that act on no check: a START of a running strand and a STOP of a stopped one change nothing, a START
of a stopping one is BUSY, and a STOP makes the gate begin its mute ramp (R102, R104). A group START starts every
masked strand that is stopped, or none when one fails, and completes with the code of the lowest failing strand; a
group STOP stops every masked strand (R101, R104). A write that sets both START and STOP for one strand completes with
BAD_PROGRAM and changes nothing (R104).
Commands that complete here: strStart, strStop, strGroupStart, strGroupStop, registerWrite. -/
def Obligations.StrandStopsAndGroups : Prop :=
  (∀ (o : Origin) (k : DieIx) (i : StrandIx) (s : State),
    (Admits o ⟨.STR_CTRL, k.val, i.val, 0⟩ 1 s →
      ((s.strand k i).st = .starting ∨ (s.strand k i).st = .running → Answers (exec (.strStart o k i) s) (Accepted s)) ∧
      ((s.strand k i).st = .stopping → Answers (exec (.strStart o k i) s) fun t =>
        t.done = ⟨.busy, 0⟩ ∧ KeepsBut logParts s t)) ∧
    (Admits o ⟨.STR_CTRL, k.val, i.val, 0⟩ 2 s →
      ((s.strand k i).st = .starting ∨ (s.strand k i).st = .running → Answers (exec (.strStop o k i) s)
        (Accepted (s.modStrand k i fun t => { t with st := .stopping, m24 := true }))) ∧
      ((s.strand k i).st = .stopped → Answers (exec (.strStop o k i) s) (Accepted s)))) ∧
  (∀ (o : Origin) (k : DieIx) (mask : BitVec 16) (s : State),
    (Admits o ⟨.STR_GROUP, k.val, 0, 0⟩ (mkWord [(15, 0, mask.toNat)]) s →
      ((groupTry k (maskStrands mask.toNat) s).1 = .ok → Answers (exec (.strGroupStart o k mask) s) fun t =>
        t.done = ⟨.ok, 0⟩ ∧ (∀ i ∈ maskStrands mask.toNat, (s.strand k i).st = .stopped → (t.strand k i).st = .starting) ∧
        (∀ i : StrandIx, i ∉ maskStrands mask.toNat → (t.strand k i).st = (s.strand k i).st) ∧ OtherDies k s t) ∧
      ((groupTry k (maskStrands mask.toNat) s).1 ≠ .ok → Answers (exec (.strGroupStart o k mask) s) fun t =>
        t.done = ⟨(groupTry k (maskStrands mask.toNat) s).1, 0⟩ ∧ (∀ i : StrandIx, (t.strand k i).st = (s.strand k i).st) ∧
        OtherDies k s t ∧ t.regs = s.regs ∧ t.mem = s.mem)) ∧
    (Admits o ⟨.STR_GROUP, k.val, 0, 0⟩ (mkWord [(31, 16, mask.toNat)]) s →
      Answers (exec (.strGroupStop o k mask) s)
        (Accepted (s.each (maskStrands mask.toNat) fun i s => strandStop k i s)))) ∧
  (∀ (o : Origin) (k : DieIx) (i : StrandIx) (w : Word) (s : State),
    ∀ p ∈ [((⟨.STR_CTRL, k.val, i.val, 0⟩ : RegKey), 0, 1), (⟨.STR_GROUP, k.val, 0, 0⟩, i.val, 16 + i.val)],
      Arrives o p.1 w s → bit w p.2.1 = true → bit w p.2.2 = true →
      Answers (exec (.registerWrite o 4 (BitVec.ofNat 32 (keyAddr p.1)) w) s) fun t =>
        t.done = ⟨.badProgram, 0⟩ ∧ KeepsBut logParts s t)

/-- The ends of a strand's states and ramps: RUNNING when its first valid block reaches the gate, STOPPED once the
transmit chain has emptied, with what waited for a boundary done and staged parameters taken (R612), and the gate's
ramp at its end: M_r steps, which is 0 dB, exactly when no mute source is set (R98, R100, R102, R112). A STOP of a
STOPPING strand changes nothing: the model's choice, log entry 132.
Commands that complete here: strandRunning, strandStopped, gateRampEnd, strStop. -/
def Obligations.StrandEnds : Prop := ∀ (k : DieIx) (i : StrandIx) (s : State),
  ((s.strand k i).st = .starting → (s.strand k i).atGate.any (·.valid) = true → Answers (exec (.strandRunning k i) s) fun t =>
    (t.strand k i).st = .running ∧ (∀ j : StrandIx, j ≠ i → t.strand k j = s.strand k j) ∧ OtherDies k s t ∧
    KeepsBut [.dies, .skein, .cane] s t) ∧
  ((s.strand k i).st = .stopping → (s.strand k i).gate = 0 → Answers (exec (.strandStopped k i) s) fun t =>
    (t.strand k i).st = .stopped ∧ muteBits t k i = 0 ∧ (t.rid k i).pending = false ∧ (t.rid k i).fade = none ∧
    (t.rid k i).pend = none ∧ (t.rid k i).delayAct = delayTarget s k i ∧ (t.prog k i).sc.running = false ∧
    (t.prog k i).paramWait = false ∧
    (∀ n : Fin 8, (s.prog k i).paramWait = true → (t.prog k i).sc.s[n.val + 8]'(by omega) = (s.prog k i).staged[n]) ∧
    (∀ j : StrandIx, j ≠ i → (t.strand k j).st = (s.strand k j).st) ∧ OtherDies k s t ∧ t.regs = s.regs ∧ t.mem = s.mem) ∧
  ((s.strand k i).st ≠ .stopped →
    exec (.gateRampEnd k i) s =
      .next (s.modStrand k i fun t => { t with gate := if muteBits s k i = 0 then gateSteps (rdlH s k i) else 0 })) ∧
  ∀ o : Origin, Admits o ⟨.STR_CTRL, k.val, i.val, 0⟩ 2 s → (s.strand k i).st = .stopping →
    Answers (exec (.strStop o k i) s) (Accepted s)

/-- The level stage on a block with the ALC off: g_app of the first valid block is g_tgt, and of every later one moves
towards it by at most RAMP upwards and max(RAMP, 6.40 dB) downwards; a target below -40.00 dB mutes the strand (R107,
R110, R111). All gains in 0.05 dB. The ALC: one update of g_alc for a valid block, from the block power; an invalid
block leaves it; a block of zeros has P_in = -200.00 dBFS; turning ALC_EN on takes the present g_app (R113, R114,
R115). A valid block of a strand without a probe leaves with its samples on a line in dB from the gain before to
g_app, each within 0.005 dB, which is the model's opaque error; an invalid block passes unchanged (R109, R124).
Commands that complete here: levelStageBlock, registerWrite. -/
def Obligations.LevelStage : Prop :=
  (∀ (k : DieIx) (i : StrandIx) (b : Block) (rest : List Block) (s : State),
    (s.strand k i).toLevel = b :: rest → bit (s.cfg2 .ALC_CFG k i) 31 = false →
      ((s.strand k i).first = false → Answers (exec (.levelStageBlock k i) s) fun t =>
        (t.strand k i).gApp =
          (if (s.strand k i).gApp < max (-800) (gTarget s k i b.bo (capThermal s k i)) then
            min (max (-800) (gTarget s k i b.bo (capThermal s k i))) ((s.strand k i).gApp + fld (s.cfg2 .GAIN_CFG k i) 9 0)
          else max (max (-800) (gTarget s k i b.bo (capThermal s k i)))
            ((s.strand k i).gApp - max (fld (s.cfg2 .GAIN_CFG k i) 9 0 : Int) 128)) ∧
        (t.strand k i).m30 = decide (gTarget s k i b.bo (capThermal s k i) < -800) ∧ (t.strand k i).toLevel = rest ∧
        OtherDies k s t ∧ t.regs = s.regs ∧ t.mem = s.mem) ∧
      ((s.strand k i).first = true → b.valid = true → throttled s 0 = false → throttled s (thmIx k) = false →
        Answers (exec (.levelStageBlock k i) s) fun t =>
          (t.strand k i).gApp = max (-800) (gTarget s k i b.bo none) ∧ (t.strand k i).first = false ∧
          (t.strand k i).toLevel = rest)) ∧
  (∀ (o : Origin) (w : Word) (k : DieIx) (i : StrandIx) (b : Block) (rest : List Block)
      (s : State),
    ((s.strand k i).toLevel = b :: rest → bit (s.cfg2 .ALC_CFG k i) 31 = true → b.valid = true →
      Answers (exec (.levelStageBlock k i) s) fun t =>
        (t.strand k i).pIn = dbfs (energy b.xs) 64 ∧
        (t.strand k i).gAlc = alcStep (s.strand k i).gAlc (sfld (s.cfg2 .ALC_CFG k i) 15 0) (dbfs (energy b.xs) 64)
          (sfld (s.cfg2 .GAIN_CFG k i) 27 16) (fld (s.cfg2 .ALC_CFG k i) 23 20) (fld (s.cfg2 .ALC_CFG k i) 28 24)) ∧
    ((s.strand k i).toLevel = b :: rest → b.valid = false → Answers (exec (.levelStageBlock k i) s) fun t =>
      (t.strand k i).gAlc = (s.strand k i).gAlc ∧ (t.strand k i).pIn = (s.strand k i).pIn) ∧
    ((s.strand k i).toLevel = b :: rest → b.valid = true → (∀ z ∈ b.xs, z = ⟨0, 0⟩) →
      Answers (exec (.levelStageBlock k i) s) fun t => (t.strand k i).pIn = -20000) ∧
    (Admits o ⟨.ALC_CFG, k.val, i.val, 0⟩ w s → bit w 31 = true → bit (s.cfg2 .ALC_CFG k i) 31 = false →
      Answers (exec (.registerWrite o 4 (BitVec.ofNat 32 (keyAddr ⟨.ALC_CFG, k.val, i.val, 0⟩)) w) s) fun t =>
        t.done = ⟨.ok, 0⟩ ∧ (t.strand k i).gAlc = roundDiv ((s.strand k i).gApp * 65536) 20)) ∧
  (∀ (k : DieIx) (i : StrandIx) (b : Block) (rest : List Block) (s : State), (s.strand k i).toLevel = b :: rest →
    (b.valid = false → Answers (exec (.levelStageBlock k i) s) fun t =>
      (t.strand k i).toLim = (s.strand k i).toLim ++ [b]) ∧
    (b.valid = true → (s.strand k i).first = false → isSilent s k i = true → Answers (exec (.levelStageBlock k i) s) fun t =>
      ∃ (err : Nat → Int) (ys : List Cx), (∀ j, -575482 ≤ err j ∧ err j ≤ 575812) ∧
        (t.strand k i).toLim = (s.strand k i).toLim ++ [{ b with xs := ys }] ∧
        ys = b.xs.zipIdx.map fun x =>
          x.1.gain (dbAmp (64 * (s.strand k i).gApp + ((t.strand k i).gApp - (s.strand k i).gApp) * (x.2 + 1)) 1280 *
            (10 ^ 9 + err x.2).toNat / 10 ^ 9)))

/-- The end of a meter window: the four readings and CREST of the window's valid samples, the count of valid blocks, SEQ
advanced by one modulo 2^16, and a new WIN taken (R116, R117). The limiter: a block that enters one adds its power to
the sum over the latest blocks of every contributing strand, and every block then inside takes the larger R; a block
that leaves is reduced by the larger of its R and the reduction of the strand's block before less 0.50 dB (R119, R120)
and goes into the release buffer, which holds two blocks; the block that has been at the gate passes it, counts at
point OUT if valid, and unchanged when no mute source is set and the ramp is at its end (R112, R116). Levels in 0.01
dB. A parity error counts in PAR_ERR, turns the block at its stage into zeros that are not valid, or the rest of the
block in the transmit chain into zeros, and raises the stream-parity source of the die (R122, R123, R125).
Commands that complete here: meterWindowEnd, limiterBlockEnter, limiterBlockLeave, streamParityError. -/
def Obligations.TransmitChain : Prop :=
  (∀ (k : DieIx) (i : StrandIx) (s : State),
    2 ^ (s.strand k i).meter.win ≤ (s.strand k i).meter.blocks → Answers (exec (.meterWindowEnd k i) s) fun t =>
      (t.strand k i).meter.pwIn = dbfs (s.strand k i).meter.accIn.sum (s.strand k i).meter.accIn.n ∧
      (t.strand k i).meter.pkIn = dbfs (s.strand k i).meter.accIn.max 1 ∧
      (t.strand k i).meter.pwOut = dbfs (s.strand k i).meter.accOut.sum (s.strand k i).meter.accOut.n ∧
      (t.strand k i).meter.pkOut = dbfs (s.strand k i).meter.accOut.max 1 ∧
      (t.strand k i).meter.validBlocks = (s.strand k i).meter.valids ∧
      (t.strand k i).meter.seq = ((s.strand k i).meter.seq + 1) % 2 ^ 16 ∧
      (t.strand k i).meter.win = fld (s.cfg2 .METER_CFG k i) 3 0 ∧ (t.strand k i).meter.blocks = 0 ∧
      KeepsBut [.dies] s t ∧ OtherDies k s t) ∧
  (∀ (k : DieIx) (i : StrandIx) (s : State),
    (∀ (b : Block) (rest : List Block) (p : PortIx), (s.strand k i).toLim = b :: rest → gatePort s k i = some p →
      (s.strand k i).st ≠ .stopped → Answers (exec (.limiterBlockEnter k i) s) fun t =>
        (t.strand k i).toLim = rest ∧ (t.strand k i).latest = some (if b.valid then energy b.xs else 0) ∧
        (t.strand k i).inLim.length = (s.strand k i).inLim.length + 1 ∧
        (∀ x ∈ (t.strand k i).inLim,
          limR ((limStrands s k p).foldl (fun a j => a + ((t.strand k j).latest).getD 0) 0) (pLim s k p) ≤ x.r) ∧
        KeepsBut [.dies] s t ∧ OtherDies k s t) ∧
    (∀ (x : LimBlock) (rest : List LimBlock), (s.strand k i).inLim = x :: rest →
      Answers (exec (.limiterBlockLeave k i) s) fun t =>
        (t.strand k i).inLim = rest ∧ (t.strand k i).lastRed = max x.r ((s.strand k i).lastRed - 50) ∧
        (t.strand k i).release = (if 2 ≤ (s.strand k i).release.length then (s.strand k i).release.drop 1
          else (s.strand k i).release) ++ [if max x.r ((s.strand k i).lastRed - 50) = 0 ∨ x.blk.valid = false then x.blk
            else x.blk.scaled fun _ => dbAmp (-(max x.r ((s.strand k i).lastRed - 50) : Int)) 100] ∧
        (t.strand k i).atGate = (if 2 ≤ (s.strand k i).release.length then (s.strand k i).release.head? else none) ∧
        (∀ b, (s.strand k i).atGate = some b →
          (t.strand k i).gate = (gateBlock s k i b).2 ∧
          (t.strand k i).meter.accOut = (s.strand k i).meter.accOut.block (gateBlock s k i b).1 ∧
          ((b.valid = false ∨ (muteBits s k i = 0 ∧ gateSteps (rdlH s k i) ≤ (s.strand k i).gate)) →
            (gateBlock s k i b).1 = b)) ∧
        KeepsBut [.dies, .freeCtr] s t ∧ OtherDies k s t ∧
        ∀ p, gatePort s k i = some p → ((t.dies[k]).lims[p]).red = max x.r ((s.strand k i).lastRed - 50))) ∧
  (∀ (k : DieIx) (i : StrandIx) (stage : Fin 6) (at_ : Fin 64) (s : State),
    Answers (exec (.streamParityError k i ⟨stage, at_⟩) s) fun t =>
      (t.strand k i).parErr = satInc 0xFFFF (s.strand k i).parErr ∧
      (stage = 0 → (t.rid k i).ecc = true) ∧ (stage = 1 → (t.strand k i).toLevel = spoilHead (s.strand k i).toLevel) ∧
      (stage = 2 → (t.strand k i).toLim = spoilHead (s.strand k i).toLim) ∧
      (stage = 3 → ∀ (x : LimBlock) (rest : List LimBlock), (s.strand k i).inLim = x :: rest →
        (t.strand k i).inLim = { x with blk := x.blk.spoil } :: rest) ∧
      (stage = 4 → ((s.strand k i).atGate = none → (t.strand k i).release = spoilHead (s.strand k i).release) ∧
        ∀ b, (s.strand k i).atGate = some b → (t.strand k i).atGate = some b.spoil) ∧
      (stage = 5 → (t.strand k i).tx.length = (s.strand k i).tx.length ∧ ∀ n : Nat, n < (s.strand k i).tx.length →
        (t.strand k i).tx[n]? = if at_.val ≤ n then some Cx.zero else (s.strand k i).tx[n]?) ∧
      (srcSeen (srcOfDie k 3) s = true → (t.lash.srcs[srcOfDie k 3]).latched = true) ∧
      OtherDies k s t ∧ t.regs = s.regs ∧ t.mem = s.mem)

/-! ## Feedback cancellation and the oscillation guard -/

/-- Requests of CNC_CTRL: SOUND_REQ restarts averaging at the next period boundary unless one is pending or the guard
re-sounds (R143); PLACE_REQ places the taps of a valid estimate, waits for one, or in manual mode commits the shadow
table (R147, R150). A block at point IN of a running receiver, formed of the samples that its chain gives and valid
when each of them is: the canceller forms its estimate from the decimated references and the taps as they stand, and
the residual e = x - y, adapts only when ADAPT_EN is 1 and FREEZE 0, and hands the block to the program (R71, R133,
R134, R151, R152); a stream-input strand takes the block of its endpoint (R215).
Commands that complete here: soundReq, placeReq, blockAtPointIn. -/
def Obligations.CancellerRequests : Prop :=
  (∀ (o : Origin) (k : DieIx) (i : StrandIx) (s : State), s.Canonical →
    (Admits o ⟨.CNC_CTRL, k.val, i.val, 0⟩ (bitsWord ⟨.CNC_CTRL, k.val, i.val, 0⟩ 0x10 0 s) s →
      Answers (exec (.soundReq o k i) s) fun t => t.done = ⟨.ok, 0⟩ ∧
        ((s.canc k i).reqPending = false → guardBusy s k i = false →
          (t.canc k i).restart = true ∧ (t.canc k i).reqPending = true) ∧
        ((s.canc k i).reqPending = true ∨ guardBusy s k i = true → t.canc k i = s.canc k i) ∧
        (∀ y, y ≠ ⟨.CNC_CTRL, k.val, i.val, 0⟩ → regGet t.regs y = regGet s.regs y) ∧ OtherDies k s t ∧ t.mem = s.mem) ∧
    (Admits o ⟨.CNC_CTRL, k.val, i.val, 0⟩ (bitsWord ⟨.CNC_CTRL, k.val, i.val, 0⟩ 0x08 0 s) s →
      Answers (exec (.placeReq o k i) s) fun t => t.done = ⟨.ok, 0⟩ ∧
        (bit (s.cfg2 .CNC_CTRL k i) 2 = true → (t.canc k i).place = some .shadow) ∧
        (bit (s.cfg2 .CNC_CTRL k i) 2 = false → estValid (s.canc k i) = false → (t.canc k i).placeReq = true) ∧
        (∀ e, bit (s.cfg2 .CNC_CTRL k i) 2 = false → (s.canc k i).est = some e → (s.canc k i).lapsedNow = false →
          (t.canc k i).place = some (.taps (autoPlacement e.phys (s.cfg2 .PLACE_CFG k i)))) ∧
        (∀ y, y ≠ ⟨.CNC_CTRL, k.val, i.val, 0⟩ → regGet t.regs y = regGet s.regs y) ∧ OtherDies k s t ∧ t.mem = s.mem)) ∧
  (∀ (k : DieIx) (i : StrandIx) (valid : Bool) (xs : List Cx) (ovr : Nat) (r0 r1 : List Cx) (refs : Bool)
      (q : State × List Smp × List Smp) (s : State),
    q = chainIn k i (valid && adcLevel s k (Fin.ofNat 4 (inPort s k i)))
      (if isDuplex s k (Fin.ofNat 4 (inPort s k i)) && (s.port k (Fin.ofNat 4 (inPort s k i))).st != .receive then
        List.replicate 64 Cx.zero else xs) r0 r1 s →
    (s.strand k i).st ≠ .stopped →
    (isReceiverNow s k i = true → inStream s k i = false → 64 ≤ (q.1.rid k i).outs.length →
      Answers (exec (.blockAtPointIn k i valid xs ovr r0 r1 refs) s) fun t =>
        (t.canc k i).yhat = estimateBlock (s.canc k i) (Block.ofSmps q.2.1).xs (Block.ofSmps q.2.2).xs ∧
        (t.canc k i).blocks = (s.canc k i).blocks + 1 ∧
        ((bit (s.cfg2 .CNC_CTRL k i) 0 = false ∨ bit (s.cfg2 .CNC_CTRL k i) 1 = true ∨ ovr ≠ 0 ∨
            (s.guard k i).phase = .muted ∨ refs = false) → (t.canc k i).slots = (s.canc k i).slots) ∧
        (∃ inp, (t.prog k i).inQ = (s.prog k i).inQ ++ [inp] ∧
          inp.x.valid = (!(s.rid k i).ecc && ((q.1.rid k i).outs.take 64).all (·.ok)) ∧
          (inp.x.valid = true → inp.x.xs = ((q.1.rid k i).outs.take 64).map (·.z)) ∧
          (t.canc k i).e = (List.range 64).map fun n =>
            (((inp.x.xs[n]?).getD ⟨0, 0⟩).scale (2 ^ 21)).sub (((t.canc k i).yhat[n]?).getD ⟨0, 0⟩)) ∧
        (t.rid k i).outs = (q.1.rid k i).outs.drop 64 ∧ t.regs = s.regs ∧ t.mem = s.mem ∧ OtherDies k s t) ∧
    (inStream s k i = true → (s.rid k i).ecc = false → ∀ b, streamBlock s (inEp s k i)
        ((s.prog k i).inv + b2n (s.prog k i).sc.running + (s.prog k i).inQ.length) = some b →
      Answers (exec (.blockAtPointIn k i valid xs ovr r0 r1 refs) s) fun t =>
        (∃ inp, (t.prog k i).inQ = (s.prog k i).inQ ++ [inp] ∧ inp.x.valid = b.valid ∧ inp.x.xs = b.xs) ∧
        t.regs = s.regs ∧ t.mem = s.mem ∧ OtherDies k s t))

/-- The end of a probe period: the probe power follows the power at OUT, less the probe's own part, less PROBE_DB, between
-80 and -25 dBFS (R138); a period of a receiver in which a quarter of the chips left the gate is counted and its
correlations are averaged, any other leaves the averages (R139, R141); the estimate is valid from the 2^AVG-th counted
period (R142); SOUND_CFG and MARGIN_CFG are taken for the next period (R173). The cap of a group that closes a loop
falls to c_new at once, rises by at most 0.50 dB, and not before one probe period of the slowest receiver since its
last rise, and never exceeds a held guard cap; a second computation of a cycle starts from what stood before the first
(R155, R156, R157). Gains in 0.05 dB.
Commands that complete here: probePeriodEnd. -/
def Obligations.ProbePeriods : Prop :=
  (∀ (k : DieIx) (i : StrandIx) (s : State),
    Answers (exec (.probePeriodEnd k i () () () () ()) s) (fun t =>
      (t.canc k i).probe = clampI (-8000) (-2500) (probeRef (s.canc k i) - 100 * fld (s.cfg2 .SOUND_CFG k i) 5 0) ∧
      (t.canc k i).avgCfg = fld (s.cfg2 .SOUND_CFG k i) 10 8 ∧ (t.canc k i).margin = fld (s.cfg2 .MARGIN_CFG k i) 9 0 ∧
      (t.canc k i).kCold = fld (s.cfg2 .MARGIN_CFG k i) 25 16 ∧ (t.canc k i).outSum = 0 ∧ (t.canc k i).outN = 0 ∧
      t.regs = s.regs ∧ t.mem = s.mem ∧ OtherDies k s t) ∧
    ((receiversOf s k (groupOf s k i)).contains i = true → closesLoop s k (groupOf s k i) = true →
      (s.canc k i).restart = false →
      Answers (exec (.probePeriodEnd k i () () () () ()) s) fun t =>
        (32767 ≤ 4 * chipsCounted s k i → (s.canc k i).mixed = false →
          (t.canc k i).periods = satInc 0xFFFF (s.canc k i).periods ∧ (t.canc k i).lastCounted = s.time.ft ∧
          (t.canc k i).avg =
            (s.canc k i).avg.step (s.canc k i).avgCfg (corrProfile s k i 0) (corrProfile s k i 1) ∧
          (2 ^ (s.canc k i).avgCfg ≤ satInc 0xFFFF (s.canc k i).periods → (t.canc k i).est.isSome = true)) ∧
        (4 * chipsCounted s k i < 32767 ∨ (s.canc k i).mixed = true →
          (t.canc k i).periods = (s.canc k i).periods ∧ (t.canc k i).avg = (s.canc k i).avg ∧
          (t.canc k i).est = (s.canc k i).est))) ∧
  (∀ (k : DieIx) (g : List StrandIx) (c : Int) (r : Nat) (s : State), closesLoop s k g = true →
    capBase s k g = (some c, r) → ∀ i ∈ g,
      ((computeCap k g s).canc k i).cap = some (
        (fun x : Int => match groupGcap s k g with | some y => min x y | none => x)
          (if (capNew s k g).1 < c then (capNew s k g).1
           else if r + slowPeriod s k g ≤ s.time.ft ∧ c < (capNew s k g).1 then min (capNew s k g).1 (c + 10) else c))) ∧
  (∀ (k : DieIx) (g : List StrandIx) (s : State), capBase (computeCap k g s) k g = capBase s k g)

/-- A lapse: eight periods not counted, or 60 s without a counted one, make a held estimate invalid and set LAPSED (R144);
a placement takes effect with all its taps together and is counted, unless a trip of that boundary discards it (R148,
R169); a sender waiting for a new address takes its polynomial, and the present period of the receivers it feeds is
not counted (R136).
Commands that complete here: estimateLapse, placementCommit, polynomialChange. -/
def Obligations.EstimatesAndPlacements : Prop := ∀ (k : DieIx) (i : StrandIx) (s : State),
  (estValid (s.canc k i) = true → (8 ≤ (s.canc k i).uncounted ∨ (s.canc k i).lastCounted + 60 * 10 ^ 9 ≤ s.time.ft) →
    Answers (exec (.estimateLapse k i) s) fun t => (t.canc k i).lapsed = true ∧ estValid (t.canc k i) = false ∧
      t.regs = s.regs ∧ t.mem = s.mem ∧ OtherDies k s t) ∧
  (∀ l, (s.canc k i).place = some l → (s.guard k i).restore = false → Answers (exec (.placementCommit k i) s) fun t =>
    (t.canc k i).slots = placeTable (s.canc k i) (match l with | .taps x => x | .shadow => shadowPlacement s k i) ∧ (t.canc k i).place = none ∧
    (t.canc k i).placeCount = ((s.canc k i).placeCount + 1) % 2 ^ 16 ∧ KeepsBut [.dies, .skein, .cane] s t ∧ OtherDies k s t) ∧
  (∀ l, (s.canc k i).place = some l → (s.guard k i).restore = true →
    exec (.placementCommit k i) s = .next (s.modCanc k i fun q => { q with place := none })) ∧
  ((s.canc k i).polyWait = true → Answers (exec (.polynomialChange k i) s) fun t =>
    (t.canc k i).poly = 8 * s.wale.addr + dieNum k ∧ (t.canc k i).polyWait = false ∧
    (∀ j ∈ receiversOf s k (groupOf s k i), (t.canc k j).mixed = true) ∧ KeepsBut [.dies] s t ∧ OtherDies k s t)

/-- A guard trip in a group: every strand of the group has its mute source set, the guard goes to MUTED with the restore
of its checkpoint due, the trip is counted with its criterion, and every strand's guard cap is 6.00 dB below the
largest sender gain when no cap was held (R162, R164, R169). The end of a guard window: an ARMED or SOUNDING guard of
a loop trips by the lowest criterion that holds, and a window without one only enters the record (R160, R162, R169).
The recovery of a guard: the checkpoint comes back at the block boundary after the trip, MUTED ends after HOLD blocks
once every sender is at the guard cap, and old trips leave WIN_TRIPS (R164, R165, R167).
Commands that complete here: guardWindowEnd, checkpointRestore, guardHoldEnd, winTripsExpiry. -/
def Obligations.GuardTrips : Prop :=
  ((∀ (k : DieIx) (i : StrandIx) (crit : Nat) (s : State),
      i ∈ groupOf s k i → i ∈ receiversOf s k (groupOf s k i) → (s.guard k i).phase ≠ .locked →
      (tripsNow s k i).length + 1 < fld (s.cfg2 .GRD_RECOV k i) 27 24 →
        (∀ j ∈ groupOf s k i, ((guardTrip k i crit s).strand k j).m25 = true) ∧
        ((guardTrip k i crit s).guard k i).phase = .muted ∧ ((guardTrip k i crit s).guard k i).restore = true ∧
        ((guardTrip k i crit s).guard k i).hold = fld (s.cfg2 .GRD_RECOV k i) 15 0 ∧
        ((guardTrip k i crit s).guard k i).lastCrit = crit ∧ ((guardTrip k i crit s).guard k i).tripped = true ∧
        ((guardTrip k i crit s).guard k i).count = satInc 0xFFFFFFFF (s.guard k i).count ∧
        ((guardTrip k i crit s).canc k i).periods = 0 ∧
        (∀ m, maxGapp s k (sendersOf s k (groupOf s k i)) = some m → groupGcap s k (groupOf s k i) = none →
          ((guardTrip k i crit s).canc k i).gcap = some (m - 120)) ∧
        (srcSeen (srcOfDie k 2) s = true → ((guardTrip k i crit s).lash.srcs[srcOfDie k 2]).latched = true)) ∧
    (∀ (k : DieIx) (i : StrandIx) (s : State), 128 ≤ (s.guard k i).xs.length →
      (criterion s k i ((windowOf (s.guard k i) :: (s.guard k i).wins).take 16) = 0 →
        Answers (exec (.guardWindowEnd k i) s) fun t =>
          (t.guard k i).phase = (s.guard k i).phase ∧ (t.guard k i).count = (s.guard k i).count ∧
          (t.guard k i).wins = (windowOf (s.guard k i) :: (s.guard k i).wins).take 16 ∧ (t.guard k i).ovr = 0 ∧
          KeepsBut [.dies, .freeCtr] s t ∧ OtherDies k s t) ∧
      (criterion s k i ((windowOf (s.guard k i) :: (s.guard k i).wins).take 16) ≠ 0 → (s.guard k i).phase = .armed →
        i ∈ groupOf s k i → i ∈ receiversOf s k (groupOf s k i) → closesLoop s k (groupOf s k i) = true →
        (tripsNow s k i).length + 1 < fld (s.cfg2 .GRD_RECOV k i) 27 24 →
        Answers (exec (.guardWindowEnd k i) s) fun t => (t.guard k i).phase = .muted ∧ (t.strand k i).m25 = true ∧
          (t.guard k i).lastCrit = criterion s k i ((windowOf (s.guard k i) :: (s.guard k i).wins).take 16)))) ∧
  (∀ (k : DieIx) (i : StrandIx) (s : State),
    (∀ t, (s.guard k i).restore = true → (s.canc k i).ckpt = some t → Answers (exec (.checkpointRestore k i) s) fun u =>
      (u.canc k i).slots = t ∧ (u.canc k i).place = none ∧ (u.guard k i).restore = false ∧ KeepsBut [.dies] s u ∧
      OtherDies k s u) ∧
    (∀ m c, (s.guard k i).phase = .muted → max (s.guard k i).hold (fld (s.cfg2 .GRD_RECOV k i) 15 0) ≤ (s.guard k i).muted →
      maxGapp s k (sendersOf s k (groupOf s k i)) = some m → (s.canc k i).gcap = some c → m ≤ c →
      Answers (exec (.guardHoldEnd k i) s) fun t =>
        (t.guard k i).phase = .sounding ∧ (t.canc k i).periods = 0 ∧ (t.canc k i).reqPending = true ∧
        ((∀ j ∈ groupOf s k i, j ≠ i → (s.guard k j).phase ≠ .muted) → ∀ j ∈ groupOf s k i, (t.strand k j).m25 = false) ∧
        KeepsBut [.dies] s t ∧ OtherDies k s t) ∧
    exec (.winTripsExpiry k i) s = .next (s.modGuard k i fun q => { q with trips := tripsNow s k i }))

/-! ## Network protection and the regulatory record -/

/-- Uplink gating and backoff. An OPEN strand closes when its hold ends, a CLOSED one enters KEEP at the end of its
keep-alive interval and closes again after two probe periods (R177, R179); a block at the threshold opens the gate,
one at 3.00 dB below it restarts the hold (R177); b follows b_t up at once, holds, and falls by 0.05 dB per block
(R180, R181).
Commands that complete here: ugHoldExpired, ugKeepStart, ugKeepEnd. -/
def Obligations.GatingAndBackoff : Prop := ∀ (k : DieIx) (i : StrandIx) (b : Block) (s : State),
  (gated s k i = true →
    ((s.prot k i).ug = .opened → (s.prot k i).since + ugHold s k i ≤ s.time.ft →
      exec (.ugHoldExpired k i) s = .next (leanReport (s.modProt k i fun p =>
        { p with ug := .closed, since := s.time.ft, keepPeriods := 0 }))) ∧
    ((s.prot k i).ug = .closed → ugKeep s k i ≠ 0 → (s.prot k i).since + ugKeep s k i * 10 ^ 10 ≤ s.time.ft →
      Answers (exec (.ugKeepStart k i) s) fun t => (t.prot k i).ug = .keep ∧ (t.prot k i).since = s.time.ft ∧
        (t.prot k i).openings = (s.prot k i).openings ∧ KeepsBut [.dies] s t ∧ OtherDies k s t) ∧
    ((s.prot k i).ug = .keep → 2 ≤ (s.prot k i).keepPeriods →
      exec (.ugKeepEnd k i) s = .next (s.modProt k i fun p =>
        { p with ug := .closed, since := s.time.ft, keepPeriods := 0 })) ∧
    (b.valid = true → dbAtLeast (activity s k i b).1 (activity s k i b).2 (ugThr s k i) = true →
      ((ugBlock k i b s).prot k i).ug = .opened ∧ ((ugBlock k i b s).prot k i).since = s.time.ft ∧
      ((s.prot k i).ug ≠ .opened → ((ugBlock k i b s).prot k i).openings = satInc 0xFFFF (s.prot k i).openings)) ∧
    (b.valid = true → dbAtLeast (activity s k i b).1 (activity s k i b).2 (ugThr s k i) = false →
      ((ugBlock k i b s).prot k i).ug = (s.prot k i).ug ∧
      ((s.prot k i).ug = .opened → dbAtLeast (activity s k i b).1 (activity s k i b).2 (ugThr s k i - 300) = true →
        ((ugBlock k i b s).prot k i).since = s.time.ft)) ∧
    (b.valid = false → ugBlock k i b s = s)) ∧
  (isUplink i = false → bit (s.cfg2 .BO_CFG k i) 31 = true →
    (b.valid = false → backoffBlock k i b s = s) ∧
    (b.valid = true → ∀ bt, backoffTarget (energy b.xs) (sfld (s.cfg2 .BO_CFG k i) 15 0) = bt →
      ((backoffBlock k i b s).prot k i).bt = bt ∧
      ((s.prot k i).b ≤ bt → ((backoffBlock k i b s).prot k i).b = bt ∧
        ((backoffBlock k i b s).prot k i).hold = fld (s.cfg2 .BO_CFG k i) 30 24 * 7680000000) ∧
      (bt < (s.prot k i).b → 0 < (s.prot k i).hold → ((backoffBlock k i b s).prot k i).b = (s.prot k i).b) ∧
      (bt < (s.prot k i).b → (s.prot k i).hold = 0 →
        ((backoffBlock k i b s).prot k i).b = max bt ((s.prot k i).b - 1))))

/-- Presence: a due check waits for the scan receiver, which the Handle triggers over the control lane (R27), a band die's
own trigger comes 5 s late, a check that has not started after 2 s is a miss (R185, R186); a check that finds a cell
sets PRESENT and MISSES 0, and ends the holds of the subjects that started by then; a third miss enters ABSENT, with
no further check (R186, R187, R188).
Commands that complete here: presenceCheckTrigger, presenceCheckOverdue, presenceStartTimeout, presenceCheckDone. -/
def Obligations.Presence : Prop := ∀ (k : DieIx) (e : Fin 8) (cells : List (Bool × Int × Nat)) (s : State),
  (∀ t, ((s.dies[k]).lists[e]).due = some t → ((s.dies[k]).lists[e]).waiting = none →
    ((s.dies[k]).lists[e]).running = none → ((s.dies[k]).lists[e]).st ≠ .idle → ((s.dies[k]).lists[e]).st ≠ .absent →
    (t ≤ s.time.ft → handleWorks s = true → (s.dies[k]).laneLost = false →
      exec (.presenceCheckTrigger k e) s = .next (s.modList k e fun l =>
        { l with waiting := some s.time.ft, due := none })) ∧
    ((s.dies[k]).laneLost = true → exec (.presenceCheckTrigger k e) s = .next s) ∧
    (t + 5000000000 ≤ s.time.ft → exec (.presenceCheckOverdue k e) s = .next (s.modList k e fun l =>
      { l with waiting := some s.time.ft, due := none })) ∧
    (s.time.ft < t + 5000000000 → exec (.presenceCheckOverdue k e) s = .next s)) ∧
  (∀ t, ((s.dies[k]).lists[e]).waiting = some t → t + 2 * 10 ^ 9 ≤ s.time.ft →
    Answers (exec (.presenceStartTimeout k e) s) fun u =>
      ((u.dies[k]).lists[e]).misses = min 3 (((s.dies[k]).lists[e]).misses + 1) ∧
      ((u.dies[k]).lists[e]).waiting = none ∧
      (((s.dies[k]).lists[e]).misses < 2 → ((u.dies[k]).lists[e]).st = .missing ∧ ((u.dies[k]).lists[e]).due =
        some (s.time.ft + if ((s.dies[k]).lists[e]).found then 60 * 10 ^ 9 else 5 * 10 ^ 9)) ∧ OtherDies k s u ∧
        u.regs = s.regs ∧ u.mem = s.mem) ∧
  (∀ t0, ((s.dies[k]).lists[e]).running = some t0 →
    (∀ n, presMatch s k e cells = some n → Answers (exec (.presenceCheckDone k e cells) s) fun u =>
      (u.dies[k]).lists[e] = { (s.dies[k]).lists[e] with
        st := .present, checks := (((s.dies[k]).lists[e]).checks + 1) % 2 ^ 16, running := none, misses := 0, lastId := n,
        found := true, due := some (s.time.ft + 60 * 10 ^ 9) } ∧
      (∀ i, subjectOf s k i = some e → (s.prot k i).presSince ≤ t0 → (u.strand k i).m28 = false) ∧
      (∀ i, subjectOf s k i = some e → t0 < (s.prot k i).presSince → (u.strand k i).m28 = (s.strand k i).m28) ∧
      KeepsBut [.dies] s u ∧ OtherDies k s u) ∧
    (presMatch s k e cells = none → Answers (exec (.presenceCheckDone k e cells) s) fun u =>
      ((u.dies[k]).lists[e]).checks = (((s.dies[k]).lists[e]).checks + 1) % 2 ^ 16 ∧
      ((u.dies[k]).lists[e]).misses = min 3 (((s.dies[k]).lists[e]).misses + 1) ∧
      (2 ≤ ((s.dies[k]).lists[e]).misses → ((u.dies[k]).lists[e]).st = .absent ∧ ((u.dies[k]).lists[e]).due = none ∧
        ∀ i, subjectOf s k i = some e → (u.strand k i).st = .stopping)))

/-- TDD. An APPLY checks the staged pattern: a failing one changes only TDD_FAULT, a good one becomes active at once or at
the next boundary, and one with EN 0 removes the pattern (R195, R196); a boundary takes the waiting pattern (R196) and
a correction of the frame, which sets JUMP above 500 ns (R191); the timing lapses HOLDOVER after the last detection
(R191, R192); with timing and pattern, bit 27 of a running TDD strand holds outside its gate's window, and a window
edge makes a cycling port switch: PAEN falls as a switch into Receive begins and rises 0.5 µs into one into Transmit,
and coexistence can hold it back (R194, R297, R323).
Commands that complete here: tddApply, tddPatternBoundary, tddTimingLapse, tddWindowSwitch. -/
def Obligations.TddPattern : Prop := ∀ (o : Origin) (k : DieIx) (p : PortIx) (tx : Bool) (s : State),
  (Admits o ⟨.TDD_ADV, k.val, 0, 0⟩ (bitsWord ⟨.TDD_ADV, k.val, 0, 0⟩ 0x80000000 0 s) s → s.Canonical →
    (bit (s.cfg1 .TDD_CFG k) 31 = true → patternFault s k none (latchPattern s k none (stagedPattern s k)) = 0 →
      ((s.dies[k]).tdd.active = none → Answers (exec (.tddApply o k) s) fun t => t.done = ⟨.ok, 0⟩ ∧
        (t.dies[k]).tdd.active = some (latchPattern s k none (stagedPattern s k)) ∧ (t.dies[k]).tdd.fault = 0 ∧
        OtherDies k s t ∧ t.mem = s.mem) ∧
      (∀ q, (s.dies[k]).tdd.active = some q → Answers (exec (.tddApply o k) s) fun t => t.done = ⟨.ok, 0⟩ ∧
        (t.dies[k]).tdd.active = some q ∧
        (t.dies[k]).tdd.next = some (latchPattern s k none (stagedPattern s k)) ∧ OtherDies k s t ∧ t.mem = s.mem)) ∧
    (bit (s.cfg1 .TDD_CFG k) 31 = true → patternFault s k none (latchPattern s k none (stagedPattern s k)) ≠ 0 →
      Answers (exec (.tddApply o k) s) fun t => t.done = ⟨.badProgram, 0⟩ ∧
        (t.dies[k]).tdd = { (s.dies[k]).tdd with
          fault := patternFault s k none (latchPattern s k none (stagedPattern s k)) } ∧
        KeepsBut (.dies :: logParts) s t ∧ OtherDies k s t) ∧
    (bit (s.cfg1 .TDD_CFG k) 31 = false → Answers (exec (.tddApply o k) s) fun t => t.done = ⟨.ok, 0⟩ ∧
      (t.dies[k]).tdd.active = none ∧ (t.dies[k]).tdd.next = none ∧ OtherDies k s t ∧ t.mem = s.mem)) ∧
  (∀ q, (s.dies[k]).tdd.next = some q → Answers (exec (.tddPatternBoundary k) s) fun t =>
    (t.dies[k]).tdd.active = some q ∧ (t.dies[k]).tdd.next = none ∧ (t.dies[k]).tdd.corr = none ∧
    KeepsBut [.dies, .coex, .skein, .cane] s t ∧ OtherDies k s t) ∧
  (∀ f, (s.dies[k]).tdd.corr = some f → Answers (exec (.tddPatternBoundary k) s) fun t => (t.dies[k]).tdd.frame = f ∧
    (t.dies[k]).tdd.jump = ((s.dies[k]).tdd.jump || decide (500 < (frameShift
      (match (s.dies[k]).tdd.active with | some q => q.period | none => 0) (s.dies[k]).tdd.frame f).natAbs))) ∧
  (∀ d, (s.dies[k]).tdd.lastDet = some d → (s.dies[k]).tdd.valid = true →
    d + fld (s.cfg1 .TDD_SYNC k) 31 28 * 10 ^ 9 ≤ s.time.ft → Answers (exec (.tddTimingLapse k) s) fun t =>
      (t.dies[k]).tdd = { (s.dies[k]).tdd with valid := false } ∧
      (∀ i, isTdd s k i = true → tddMutes t k i = true) ∧
      KeepsBut [.dies, .skein, .cane, .pwr] s t ∧ OtherDies k s t) ∧
  (tddReady s k = true →
    (∀ i, (s.strand k i).st = .running → isTdd s k i = true → outKind s k i = 1 →
      ((s.dies[k]).duty[(Fin.ofNat 4 (outPort s k i) : PortIx)]).hold = false →
        muteBits s k i / 8 % 2 = b2n (!inGateWindow s k i)) ∧
    Answers (exec (.tddWindowSwitch k p tx) s) fun t =>
      ((s.port k p).cycling = true → (s.port k p).moving = none → (s.port k p).inProg = none →
        (tx = false → (s.port k p).st = .transmit → (t.port k p).moving = some .receive ∧ (t.port k p).mvSwitch = true ∧
          (t.port k p).mvAt = s.time.ft ∧ paenLevel t k p = false) ∧
        (tx = true → (s.port k p).st = .receive → (s.port k p).dutyHold = false →
          (coexBars s k p = false → (t.port k p).moving = some .transmit ∧ (t.port k p).mvSwitch = true ∧
            (t.port k p).mvAt = s.time.ft ∧ trswLevel t k p = isDuplex s k p ∧ (t.port k p).paenNow s.time.ft = false ∧
            (t.port k p).paenNow (s.time.ft + 500) = true) ∧
          (coexBars s k p = true → (t.port k p).coexHeld = true ∧ (t.port k p).moving = none ∧ (t.port k p).st = .receive))) ∧
      KeepsBut [.dies, .coex, .skein, .cane] s t ∧ OtherDies k s t)

/-- Duty, lean groups and bursts: a port whose transmit time of the last 10 ms reaches DUTY leaves Transmit, by the switch
when it cycles, holds bit 27 and counts a hit, until the time falls below it (R197); a port in Transmit for 10 ms or
more has 100 %; an enabled group is LEAN only while its uplinks are CLOSED outside the burst windows (R199, R200,
R201); a burst on the tracking frequency makes the timing valid, sets the frame the first time or without a pattern,
and waits as a correction otherwise (R191, R313).
Commands that complete here: dutyHit, dutyRecover, leanEnter, leanLeave, ssBurstDetected. -/
def Obligations.DutyAndLean : Prop := ∀ (k : DieIx) (p : PortIx) (g : Fin 4) (freq T : Nat) (dp : Fin 2) (first second : Int)
    (s : State),
  (portDuty s k p ≤ ((s.dies[k]).duty[p]).frac s.time.ft → ((s.dies[k]).duty[p]).hold = false →
    Answers (exec (.dutyHit k p ()) s) fun t =>
      ((t.dies[k]).duty[p]).hits = satInc 0xFFFF ((s.dies[k]).duty[p]).hits ∧ ((t.dies[k]).duty[p]).hold = true ∧
      (t.port k p).dutyHold = true ∧
      ((s.port k p).st = .transmit → (s.port k p).moving = none → (t.port k p).moving = some .receive ∧
        (t.port k p).mvSwitch = (s.port k p).cycling ∧ (t.port k p).mvAt = s.time.ft) ∧
      KeepsBut [.dies, .skein, .cane] s t ∧ OtherDies k s t) ∧
  (((s.dies[k]).duty[p]).frac s.time.ft < portDuty s k p → Answers (exec (.dutyRecover k p ()) s) fun t =>
    ((t.dies[k]).duty[p]).hold = false ∧ (t.port k p).dutyHold = false ∧ OtherDies k s t) ∧
  (∀ (d : Duty) (a now : Nat), d.since = some a → d.past = [] → a + 10000000 ≤ now → d.frac now = 1000) ∧
  (bit (s.cfg2 .LEAN_CFG k g) 31 = true → (leanUp s k g).all (ugShut s k) = true →
    (leanOutside s k g (leanLmax s k g) = true → exec (.leanEnter k g) s = .next (leanReport (s.modLean k g fun x =>
      { x with lean := true }))) ∧
    (leanOutside s k g 0 = false → exec (.leanLeave k g) s = .next (leanReport (s.modLean k g fun x =>
      { x with lean := false })))) ∧
  ((leanUp s k g).all (ugShut s k) = false → exec (.leanLeave k g) s = .next (leanReport (s.modLean k g fun x =>
      { x with lean := false }))) ∧
  (∀ e, tddEntry s k = some e → burstOf s k e freq dp = true →
    Answers (exec (.ssBurstDetected k freq dp T ⟨first, second⟩) s) fun t =>
      (t.dies[k]).tdd.valid = true ∧ (t.dies[k]).tdd.lastDet = some s.time.ft ∧
      (((s.dies[k]).tdd.active = none ∨ (s.dies[k]).tdd.lastDet = none) →
        (t.dies[k]).tdd.frame = T - fld (s.cfg1 .TDD_SYNC k) 23 0) ∧
      ((s.dies[k]).tdd.lastDet ≠ none → (s.dies[k]).tdd.active ≠ none →
        (t.dies[k]).tdd.corr = some (T - fld (s.cfg1 .TDD_SYNC k) 23 0) ∧ (t.dies[k]).tdd.frame = (s.dies[k]).tdd.frame) ∧
      KeepsBut [.dies, .coex, .skein, .cane, .pwr] s t ∧ OtherDies k s t)

/-- Changes of the regulatory record. OPEN copies the active record, or zeros, into the staging window; DISCARD clears
STAGED; COMMIT is taken while a copy is staged (R209, R613). A commit ends with the first failing cause and leaves the
record, or makes the verified copy active with the next SEQ (R209, R210).
Commands that complete here: regEditOpen, regEditDiscard, regEditCommit, regCommitDone. -/
def Obligations.RegulatoryRecord : Prop := ∀ (o : Origin) (v : Bool) (s : State), Memory.wf s.mem = true →
  (Admits o ⟨.REG_EDIT, 0, 0, 0⟩ 1 s → Answers (exec (.regEditOpen o) s) fun t => t.done = ⟨.ok, 0⟩ ∧
    t.reg = { s.reg with staged := true } ∧
    stagedBytes t = (if regValid s then copyBytes s s.reg.actB else List.replicate 4096 0) ∧
    (∀ a, (a < Space.staging.base ∨ Space.staging.base + 4096 ≤ a) → memGet t.mem a = memGet s.mem a) ∧
    KeepsBut (.reg :: .mem :: logParts) s t) ∧
  (Admits o ⟨.REG_EDIT, 0, 0, 0⟩ 4 s → Answers (exec (.regEditDiscard o) s)
    (Accepted { s with reg := { s.reg with staged := false } })) ∧
  (Admits o ⟨.REG_EDIT, 0, 0, 0⟩ 2 s →
    (s.reg.busy = none → s.reg.staged = true → Answers (exec (.regEditCommit o) s) fun t => t.done = ⟨.ok, 0⟩ ∧
      t.reg = { s.reg with busy := some o } ∧ KeepsBut (.reg :: .thm :: logParts) s t) ∧
    ((s.reg.busy ≠ none ∨ s.reg.staged = false) → Answers (exec (.regEditCommit o) s) fun t =>
      t.done = ⟨.busy, 0⟩ ∧ KeepsBut logParts s t)) ∧
  (∀ q, s.reg.busy = some q → handleWorks s = true →
    (editFault (stagedBytes s) ≠ 0 → exec (.regCommitDone v) s = .next { s with reg :=
      { s.reg with busy := none, staged := s.reg.staged && !s.reg.dropAfter, dropAfter := false,
                   fault := editFault (stagedBytes s), code := .badProgram } }) ∧
    (editFault (stagedBytes s) = 0 → mramVerdict s = .refused → Answers (exec (.regCommitDone v) s) fun t =>
      t.reg.fault = 6 ∧ t.reg.code = .thermalHold ∧ t.reg.busy = none ∧ t.reg.actB = s.reg.actB ∧ KeepsBut [.reg] s t) ∧
    (editFault (stagedBytes s) = 0 → mramVerdict s = .allowed → v = true → Answers (exec (.regCommitDone v) s) fun t =>
      t.reg.code = .ok ∧ t.reg.fault = 0 ∧ t.reg.busy = none ∧
      t.reg.actB = (if regValid s then !s.reg.actB else true) ∧
      copyBytes t t.reg.actB = committed (stagedBytes s) ((regSeq s + 1) % 2 ^ 32) s.wall ∧
      (∀ a, (a < Space.mram.base + copyBase t.reg.actB ∨ Space.mram.base + copyBase t.reg.actB + 4096 ≤ a) →
        a ≠ Space.marker.base + copyBase t.reg.actB → memGet t.mem a = memGet s.mem a)) ∧
    (editFault (stagedBytes s) = 0 → mramVerdict s = .allowed → v = false → Answers (exec (.regCommitDone v) s) fun t =>
      t.reg.fault = 7 ∧ t.reg.code = .badProgram ∧ t.reg.actB = s.reg.actB))

/-! ## Strand programs and their loader -/

/-- Invocations. An invocation takes the oldest block handed over once the one before has ended and the weaver is free: it
starts at the first instruction with no quarter written, and new parameters reach s8 to s15 (R215, R216, R217, R223);
its output block leaves at the release (R216); a look-ahead value leaves with its level, unless the control lane is
lost (R27, R236); a message waits for the next invocation (R287); APPLY stages the parameters, and sets them at once
on a STOPPED strand, and a write to PRG_PARAM is BUSY while they wait (R223).
Commands that complete here: invocation, outputRelease, lookaheadDelivery, messageArrival, prgParamApply,
registerWrite. -/
def Obligations.Invocations : Prop := ∀ (o : Origin) (k : DieIx) (i : StrandIx) (r : Fin 4) (bytes : List Byte) (s : State),
  (∀ b rest g, (s.prog k i).inQ = b :: rest → boundImage s k i = some g → (s.strand k i).st ≠ .stopped →
    (s.prog k i).sc.running = false → weaverBusy s k i = false → Answers (exec (.invocation k i) s) fun t =>
      (t.prog k i).inQ = rest ∧ (t.prog k i).cur.x = b.x ∧ (t.prog k i).sc.running = true ∧ (t.prog k i).sc.pc = 0 ∧
      (t.prog k i).sc.loops = [] ∧ (t.prog k i).sc.evented = false ∧ (t.prog k i).out = Vector.replicate 4 none ∧
      (t.prog k i).env = none ∧ (t.prog k i).sends = [] ∧ (t.prog k i).paramWait = false ∧
      (t.prog k i).vec = (s.prog k i).vec ∧
      (∀ n : Fin 16, n.val < 8 → (t.prog k i).sc.s[n] = (s.prog k i).sc.s[n]) ∧
      (∀ n : Fin 8, (t.prog k i).sc.s[n.val + 8]'(by omega) =
        if (s.prog k i).paramWait then (s.prog k i).staged[n] else (s.prog k i).sc.s[n.val + 8]'(by omega)) ∧
      (∀ j, j ≠ i → t.prog k j = s.prog k j) ∧ KeepsBut [.dies, .wale] s t ∧ OtherDies k s t) ∧
  (∀ b rest, (s.prog k i).outQ = b :: rest → (s.strand k i).st ≠ .stopped →
    Answers (exec (.outputRelease k i) s) fun t => (t.prog k i).outQ = rest ∧
      (t.strand k i).toLevel = (s.strand k i).toLevel ++ [b] ∧ KeepsBut [.dies] s t ∧ OtherDies k s t) ∧
  (∀ w rest g c, (s.prog k i).laQ = some w :: rest → boundImage s k i = some g → imageCoil g = some c →
    Answers (exec (.lookaheadDelivery k i) s) fun t => (t.prog k i).laQ = rest ∧
      ((s.dies[k]).laneLost = false → ∃ v : LaValue, v.td = s.time.ft ∧
        (t.prog k i).la = (v :: (s.prog k i).la).take 64 ∧ (w = 0 → v.level = -20000)) ∧
      ((s.dies[k]).laneLost = true → (t.prog k i).la = (s.prog k i).la.take 64) ∧
      KeepsBut [.dies, .coils, .skein, .cane] s t ∧ OtherDies k s t) ∧
  ((s.strand k i).st ≠ .stopped → exec (.messageArrival k i r bytes) s = .next (s.modProg k i fun p =>
    { p with msg := vset p.msg r bytes, msgNew := vset p.msgNew r true })) ∧
  (Admits o ⟨.PRG_PCTRL, k.val, i.val, 0⟩ 1 s →
    ((s.strand k i).st ≠ .stopped → Answers (exec (.prgParamApply o k i) s) (Accepted (s.modProg k i fun p =>
      { p with paramWait := true, staged := Vector.ofFn fun n : Fin 8 => s.cfg3 .PRG_PARAM k i n }))) ∧
    ((s.strand k i).st = .stopped → Answers (exec (.prgParamApply o k i) s) fun t => t.done = ⟨.ok, 0⟩ ∧
      (∀ n : Fin 8, (t.prog k i).sc.s[n.val + 8]'(by omega) = s.cfg3 .PRG_PARAM k i n) ∧
      (∀ n : Fin 16, n.val < 8 → (t.prog k i).sc.s[n] = (s.prog k i).sc.s[n]) ∧
      (t.prog k i).paramWait = false ∧ KeepsBut (.dies :: logParts) s t ∧ OtherDies k s t)) ∧
  (∀ (n : Fin 8) (w : Word), Arrives o ⟨.PRG_PARAM, k.val, i.val, n.val⟩ w s → (s.prog k i).paramWait = true →
    Answers (exec (.registerWrite o 4 (BitVec.ofNat 32 (keyAddr ⟨.PRG_PARAM, k.val, i.val, n.val⟩)) w) s) fun t =>
      t.done = ⟨.busy, 0⟩ ∧ KeepsBut logParts s t)

/-- Loader commands are taken while none is in progress, with PRG_MASK as it stands, and complete with OK (R242).
Commands that complete here: prgLoad, prgFetch, prgBind, prgUnbind, prgFree, prgStore, prgErase. -/
def Obligations.LoaderTakes : Prop := ∀ (o : Origin) (k : DieIx) (slot : Fin 16) (lib : Fin 32) (s : State),
  (s.dies[k]).loader.busy = none →
    (∀ p ∈ [(Instr.prgLoad o k slot, 1, slot.val, 0), (.prgFetch o k slot lib, 2, slot.val, lib.val),
        (.prgBind o k slot, 4, slot.val, 0), (.prgUnbind o k, 5, 0, 0), (.prgFree o k slot, 6, slot.val, 0)],
      Admits o ⟨.PRG_CMD, k.val, 0, 0⟩ (loaderWord p.2.1 p.2.2.1 p.2.2.2) s →
        Answers (exec p.1 s) (Accepted (s.modLoader k fun x =>
          { x with
            busy := some ⟨p.2.1, p.2.2.1, p.2.2.2, fld (s.cfg1 .PRG_MASK k) 15 0, false,
              loaderWord p.2.1 p.2.2.1 p.2.2.2, o⟩ }))) ∧
    (∀ p ∈ [(Instr.prgStore o k lib, 3), (.prgErase o k lib, 7)],
      Admits o ⟨.PRG_CMD, k.val, 0, 0⟩ (loaderWord p.2 0 lib.val) s → Answers (exec p.1 s) fun t =>
        t.done = ⟨.ok, 0⟩ ∧ (∃ c, (t.dies[k]).loader.busy = some c ∧ c.op = p.2 ∧ c.lib = lib.val ∧ c.by_ = o ∧
          (c.late = true ↔ p.2 = 3 ∧ ∃ j : DieIx, j ≠ k ∧ ∃ d, (s.dies[j]).loader.busy = some d ∧ d.op = 3)) ∧
        KeepsBut (.dies :: .thm :: logParts) s t ∧ OtherDies k s t)

/-- The end of a loader command that waits for no MRAM window: the result is shown and the command is no more; a LOAD of a
good image into a slot without bound strands places it, a BIND binds every masked strand or none, UNBIND and FREE need
stopped strands and an unbound slot; any other end changes no slot and no binding (R242, R243, R244, R245, R614).
Commands that complete here: prgCmdDone. -/
def Obligations.LoaderEnds : Prop := ∀ (k : DieIx) (c : LoadCmd) (s : State), s.Canonical →
  (s.dies[k]).loader.busy = some c → handleWorks s = true →
    (∀ l, (c.op = 1 ∧ l = loadBuffer s k) ∨ (c.op = 2 ∧ l = libBytes s c.lib) →
      (boundTo s k (Fin.ofNat 16 c.slot) ≠ [] → Answers (exec (.prgCmdDone k) s) fun t =>
        (t.dies[k]).loader = ⟨none, c.op, .busy, 0, 0⟩ ∧ (t.dies[k]).slots = (s.dies[k]).slots ∧ t.mem = s.mem) ∧
      (boundTo s k (Fin.ofNat 16 c.slot) = [] → streamFault l ≠ 0 → Answers (exec (.prgCmdDone k) s) fun t =>
        (t.dies[k]).loader = ⟨none, c.op, .badProgram, streamFault l, 0⟩ ∧ (t.dies[k]).slots = (s.dies[k]).slots ∧
        (t.dies[k]).prog = (s.dies[k]).prog ∧ t.mem = s.mem) ∧
      (boundTo s k (Fin.ofNat 16 c.slot) = [] → streamFault l = 0 → ∀ b d,
        fitRun 0x8000 (field l 0x0C 4) (progRuns (otherImages s k (some (Fin.ofNat 16 c.slot)))) = some b →
        fitRun 0x800 (field l 0x10 4) (coefRuns (otherImages s k (some (Fin.ofNat 16 c.slot)))) = some d →
        Answers (exec (.prgCmdDone k) s) fun t =>
          (t.dies[k]).loader = ⟨none, c.op, .ok, 0, 0⟩ ∧
          (t.dies[k]).slots = vset (s.dies[k]).slots (Fin.ofNat 16 c.slot) (some (imageOf l b d)) ∧
          (t.dies[k]).prog = (s.dies[k]).prog ∧ OtherDies k s t ∧ t.regs = s.regs)) ∧
    (c.op = 4 →
      ((strandsOf c.mask).any (fun i => (s.strand k i).st != .stopped) = true → Answers (exec (.prgCmdDone k) s) fun t =>
        (t.dies[k]).loader = ⟨none, 4, .busy, 0, 0⟩ ∧ (t.dies[k]).prog = (s.dies[k]).prog) ∧
      ((strandsOf c.mask).any (fun i => (s.strand k i).st != .stopped) = false →
        (∀ i, (strandsOf c.mask).find? (fun i => bindFault s k (Fin.ofNat 16 c.slot) i != 0) = some i →
          Answers (exec (.prgCmdDone k) s) fun t =>
            (t.dies[k]).loader = ⟨none, 4, .badProgram, bindFault s k (Fin.ofNat 16 c.slot) i, i.val⟩ ∧
            (t.dies[k]).prog = (s.dies[k]).prog) ∧
        ((strandsOf c.mask).find? (fun i => bindFault s k (Fin.ofNat 16 c.slot) i != 0) = none →
          Answers (exec (.prgCmdDone k) s) fun t =>
            (t.dies[k]).loader = ⟨none, 4, .ok, 0, 0⟩ ∧
            (∀ i ∈ strandsOf c.mask, (t.prog k i).slot = some (Fin.ofNat 16 c.slot)) ∧
            (∀ i, i ∉ strandsOf c.mask → t.prog k i = s.prog k i) ∧ OtherDies k s t))) ∧
    (c.op = 5 → (strandsOf c.mask).any (fun i => (s.strand k i).st != .stopped) = false →
      Answers (exec (.prgCmdDone k) s) fun t => (t.dies[k]).loader = ⟨none, 5, .ok, 0, 0⟩ ∧
        (∀ i ∈ strandsOf c.mask, (t.prog k i).slot = none) ∧ (∀ i, i ∉ strandsOf c.mask → t.prog k i = s.prog k i) ∧
        OtherDies k s t) ∧
    (c.op = 6 → boundTo s k (Fin.ofNat 16 c.slot) = [] → Answers (exec (.prgCmdDone k) s) fun t =>
      (t.dies[k]).loader = ⟨none, 6, .ok, 0, 0⟩ ∧
      (t.dies[k]).slots = vset (s.dies[k]).slots (Fin.ofNat 16 c.slot) none ∧ OtherDies k s t) ∧
    ((c.op = 3 ∧ c.late = false ∧ streamFault (loadBuffer s k) = 0 ∨ c.op = 7) → mramVerdict s = .refused →
      Answers (exec (.prgCmdDone k) s) fun t => (t.dies[k]).loader = ⟨none, c.op, .thermalHold, 0, 0⟩ ∧ t.mem = s.mem) ∧
    (c.op = 7 → mramVerdict s = .allowed → Answers (exec (.prgCmdDone k) s) fun t =>
      (t.dies[k]).loader = ⟨none, 7, .ok, 0, 0⟩ ∧ libBytes t c.lib = [] ∧ OtherDies k s t)

/-! ## Withy instructions -/

/-- An instruction whose predicate is false has no effect but to move on: it writes no register and no flag (R227, R263). -/
def Obligations.FalsePredicates : Prop := ∀ (n : WOp) (x : Ctx) (w : WWord) (s : State),
  ctxRuns s x = true → wfetch s x = some w → wname w = some n → predHolds (ctxSc s x) w.pred = false →
    exec (withyCmd n x) s = .next (nextPc x s) ∧
      (ctxSc (nextPc x s) x) = { ctxSc s x with pc := (ctxSc s x).pc + 1 } ∧ ctxSat (nextPc x s) x = ctxSat s x ∧
      RestKept x s (nextPc x s) ∧ CtxOnly x s (nextPc x s)

/-- What each scalar instruction writes to sD, exactly and then clamped where its row says signed (R266, R271, R280, R283,
R284, R285); a comparison writes pD and nothing else (R271, R272, R273).
Commands that complete here: smov, lds, smax, smin, sand, sor, sxor, sshr, slsr, sdb, saddi, sadd, ssub, sshl, smul,
stat, gmon, vpeak, vpow, vcnt, mrecv, vget, sfromx, stest, scmp, xcmp. -/
def Obligations.WithyScalars : Prop := ∀ (x : Ctx) (k : DieIx) (i : StrandIx) (c : CoilIx) (w : WWord) (s : State),
  (∀ p ∈ [(WOp.smov, sReg s x w.a), (.lds, BitVec.ofNat 32 w.imm),
      (.smax, if (sReg s x w.a).toNat < (sReg s x w.b).toNat then sReg s x w.b else sReg s x w.a),
      (.smin, if (sReg s x w.a).toNat < (sReg s x w.b).toNat then sReg s x w.a else sReg s x w.b),
      (.sand, sReg s x w.a &&& sReg s x w.b), (.sor, sReg s x w.a ||| sReg s x w.b),
      (.sxor, sReg s x w.a ^^^ sReg s x w.b), (.sshr, (sReg s x w.a).sshiftRight ((sReg s x w.b).toNat % 32)),
      (.slsr, sReg s x w.a >>> ((sReg s x w.b).toNat % 32)),
      (.sdb, BitVec.ofInt 32 (if sReg s x w.a = 0 then -20000 else db100 (sReg s x w.a).toNat (2 ^ 29)))],
    Executes x p.1 w s → Answers (exec (withyCmd p.1 x) s) (ScalarResult x w.d p.2 false s)) ∧
  (∀ p ∈ [(WOp.saddi, (sReg s x w.a).toInt + signed 32 w.imm), (.sadd, (sReg s x w.a).toInt + (sReg s x w.b).toInt),
      (.ssub, (sReg s x w.a).toInt - (sReg s x w.b).toInt),
      (.sshl, (sReg s x w.a).toInt * 2 ^ ((sReg s x w.b).toNat % 32)),
      (.smul, roundDiv ((sReg s x w.a).toInt * (sReg s x w.b).toInt) (2 ^ (w.mod_ % 32)))],
    Executes x p.1 w s → Answers (exec (withyCmd p.1 x) s) (SignedResult x w.d p.2 s)) ∧
  (∀ p ∈ [(WOp.stat, invStatus s k i), (.gmon, (s.prog k i).cur.gmon),
      (.vpeak, BitVec.ofNat 32 (((vReg s k i w.a).toList.map lanePower).foldl max 0)),
      (.vpow, BitVec.ofInt 32 (roundDiv (((vReg s k i w.a).toList.map lanePower).foldl (· + ·) 0 : Nat) 16)),
      (.vcnt, BitVec.ofNat 32 (((vReg s k i w.a).toList.map lanePower).filter fun q =>
        decide ((sReg s (.strand k i) w.b).toNat ≤ q)).length),
      (.mrecv, BitVec.ofNat 32 (field ((s.prog k i).cur.msg[Fin.ofNat 4 (w.imm / 256)]) (4 * (w.imm % 8)) 4))],
    Executes (.strand k i) p.1 w s → Answers (exec (withyCmd p.1 (.strand k i)) s)
      (ScalarResult (.strand k i) w.d p.2 false s)) ∧
  (Executes (.strand k i) .vget w s → Answers (exec (.vget (.strand k i)) s)
    (ScalarResult (.strand k i) w.d
      (mkWord [(31, 16, enc 16 (sat 16 (roundDiv (vReg s k i w.a)[Fin.ofNat 16 w.imm].im 256))),
        (15, 0, enc 16 (sat 16 (roundDiv (vReg s k i w.a)[Fin.ofNat 16 w.imm].re 256)))])
      (satCx 16 (roundCx 8 (vReg s k i w.a)[Fin.ofNat 16 w.imm]) != roundCx 8 (vReg s k i w.a)[Fin.ofNat 16 w.imm]) s)) ∧
  (Executes (.coil c) .sfromx w s → Answers (exec (.sfromx (.coil c)) s)
    (ScalarResult (.coil c) w.d (s.coils[c]).xs[Fin.ofNat 16 w.a] false s)) ∧
  (Executes x .stest w s → Answers (exec (.stest x) s) (PredResult x w.d (bit (sReg s x w.a) (w.imm % 32)) s)) ∧
  (Executes x .scmp w s → Answers (exec (.scmp x) s)
    (PredResult x w.d (condHolds (w.mod_ % 8) (sReg s x w.a) (BitVec.ofNat 32 w.imm)) s)) ∧
  (Executes (.coil c) .xcmp w s → Answers (exec (.xcmp (.coil c)) s)
    (PredResult (.coil c) w.d (condHolds (w.mod_ % 4) (s.coils[c]).xs[Fin.ofNat 16 w.a] (s.coils[c]).xs[Fin.ofNat 16 w.b]) s))

/-- What each vector instruction writes: every lane is computed exactly, rounded once and clamped, with SAT for a clamp
(R260, R261, R266, R270, R280, R281, R285); the accumulators likewise (R270).
Commands that complete here: rdin, mov, ldc, vsplat, vadd, vsub, vcmul, vcmulc, vpack, vshf, vconj, vneg, vmulj,
vswap, vscl, cres, cest, cref, frecv, amov, vmac, vmacc, vmul, vmulc. -/
def Obligations.WithyVectors : Prop := ∀ (k : DieIx) (i : StrandIx) (w : WWord) (s : State),
  (∀ p ∈ [(WOp.rdin, readQuarter (inputLanes s k i) s (.strand k i) w), (.mov, vReg s k i w.a),
      (.ldc, coefRow s k i (rowOf s (.strand k i) w w.a)),
      (.vsplat, Vector.replicate 16 (coefCx (sReg s (.strand k i) w.a).toNat)),
      (.vadd, Vector.ofFn fun n : Fin 16 => ((vReg s k i w.a)[n]).add ((vReg s k i w.b)[n])),
      (.vsub, Vector.ofFn fun n : Fin 16 => ((vReg s k i w.a)[n]).sub ((vReg s k i w.b)[n])),
      (.vcmul, Vector.ofFn fun n : Fin 16 => roundCx 23 (((vReg s k i w.a)[n]).mul ((vReg s k i w.b)[n]))),
      (.vcmulc, Vector.ofFn fun n : Fin 16 => roundCx 23 (((vReg s k i w.a)[n]).mul ((vReg s k i w.b)[n]).conj)),
      (.vpack, (aReg s k i w.a).map fun z => roundCx 24 (z.scale ((2 : Int) ^ (signed 5 w.imm + 16).toNat))),
      (.vshf, (vReg s k i w.a).map fun z => roundCx 23 (z.scale ((2 : Int) ^ (signed 6 w.imm + 23).toNat))),
      (.vconj, (vReg s k i w.a).map fun z => ⟨z.re, -z.im⟩), (.vneg, (vReg s k i w.a).map fun z => ⟨-z.re, -z.im⟩),
      (.vmulj, (vReg s k i w.a).map fun z => ⟨-z.im, z.re⟩), (.vswap, (vReg s k i w.a).map fun z => ⟨z.im, z.re⟩),
      (.vscl, (vReg s k i w.a).map fun z => roundCx 23 (z.mul (coefCx (sReg s (.strand k i) w.b).toNat))),
      (.cres, readQuarter (s.prog k i).cur.resid s (.strand k i) w),
      (.cest, readQuarter (s.prog k i).cur.est s (.strand k i) w),
      (.cref, readQuarter (if w.imm / 256 % 2 = 1 then (s.prog k i).cur.ref1 else (s.prog k i).cur.ref0) s (.strand k i) w),
      (.frecv, readQuarter (((s.prog k i).cur.recv[Fin.ofNat 4 (w.imm / 256)]).getD []) s (.strand k i) w)],
    Executes (.strand k i) p.1 w s → Answers (exec (withyCmd p.1 (.strand k i)) s) (VectorResult k i w.d p.2 s)) ∧
  (∀ p ∈ [(WOp.amov, aReg s k i w.a),
      (.vmac, Vector.ofFn fun n : Fin 16 =>
        ((aReg s k i w.d)[n]).add (roundCx 15 (((vReg s k i w.a)[n]).mul ((vReg s k i w.b)[n])))),
      (.vmacc, Vector.ofFn fun n : Fin 16 =>
        ((aReg s k i w.d)[n]).add (roundCx 15 (((vReg s k i w.a)[n]).mul ((vReg s k i w.b)[n]).conj))),
      (.vmul, Vector.ofFn fun n : Fin 16 => roundCx 15 (((vReg s k i w.a)[n]).mul ((vReg s k i w.b)[n]))),
      (.vmulc, Vector.ofFn fun n : Fin 16 => roundCx 15 (((vReg s k i w.a)[n]).mul ((vReg s k i w.b)[n]).conj))],
    Executes (.strand k i) p.1 w s → Answers (exec (withyCmd p.1 (.strand k i)) s) (AccResult k i w.d p.2 s))

/-- The program NCO, the filter and delay slots (R276 to R279), and what a stream program sends out: a quarter of the
output block, a look-ahead value, a program trip, a message (R224, R236, R282, R286).
Commands that complete here: vrot, rset, rstep, vfir, vfrac, wrout, env, msend, gtrip. -/
def Obligations.WithyUnits : Prop := ∀ (k : DieIx) (i : StrandIx) (w : WWord) (s : State),
  (Executes (.strand k i) .vrot w s → Answers (exec (.vrot (.strand k i)) s)
    (ProgResult k i (overLanes 24 (rotate (s.prog k i).vec.phi (sReg s (.strand k i) w.b).toNat (vReg s k i w.a))) (fun p =>
      { p with vec := { p.vec with
          v := vset p.vec.v (Fin.ofNat 32 w.d)
            ((rotate p.vec.phi (sReg s (.strand k i) w.b).toNat (vReg s k i w.a)).map (satCx 24)),
          phi := (p.vec.phi + 16 * (sReg s (.strand k i) w.b).toNat) % 2 ^ 32 } }) s)) ∧
  (Executes (.strand k i) .rset w s → Answers (exec (.rset (.strand k i)) s)
    (ProgResult k i false (fun p => { p with vec := { p.vec with phi := (sReg s (.strand k i) w.a).toNat } }) s)) ∧
  (Executes (.strand k i) .rstep w s → Answers (exec (.rstep (.strand k i)) s)
    (ProgResult k i false (fun p =>
      { p with vec := { p.vec with phi := (p.vec.phi + (sReg s (.strand k i) w.a).toNat) % 2 ^ 32 } }) s)) ∧
  (∀ z, withHistory ((s.prog k i).vec.filt[Fin.ofNat 4 (w.imm / 2 ^ 12)]) 15 (vReg s k i w.a) = z →
    Executes (.strand k i) .vfir w s → Answers (exec (.vfir (.strand k i)) s)
      (ProgResult k i (overLanes 24 (firLanes z (coefRow s k i (rowOf s (.strand k i) w w.b)))) (fun p =>
        { p with vec := { p.vec with
            v := vset p.vec.v (Fin.ofNat 32 w.d)
              ((firLanes z (coefRow s k i (rowOf s (.strand k i) w w.b))).map (satCx 24)),
            filt := vset p.vec.filt (Fin.ofNat 4 (w.imm / 2 ^ 12)) (z.drop 16) } }) s)) ∧
  (∀ z, withHistory ((s.prog k i).vec.dly[Fin.ofNat 4 w.imm]) 3 (vReg s k i w.a) = z →
    Executes (.strand k i) .vfrac w s → Answers (exec (.vfrac (.strand k i)) s)
      (ProgResult k i (overLanes 24 (fracLanes z ((sReg s (.strand k i) w.b).toNat % 256))) (fun p =>
        { p with vec := { p.vec with
            v := vset p.vec.v (Fin.ofNat 32 w.d) ((fracLanes z ((sReg s (.strand k i) w.b).toNat % 256)).map (satCx 24)),
            dly := vset p.vec.dly (Fin.ofNat 4 w.imm) (z.drop 16) } }) s)) ∧
  (Executes (.strand k i) .wrout w s → Answers (exec (.wrout (.strand k i)) s)
    (ProgResult k i false (fun p =>
      { p with out := vset p.out (Fin.ofNat 4 (quarterOf s (.strand k i) w))
                 (some ((vReg s k i w.b).map fun z => satCx 16 (roundCx 8 z))),
               fOclip := p.fOclip || overLanes 16 ((vReg s k i w.b).map (roundCx 8)) }) s)) ∧
  (Executes (.strand k i) .env w s → Answers (exec (.env (.strand k i)) s)
    (ProgResult k i false (fun p => { p with env := some (sReg s (.strand k i) w.a) }) s)) ∧
  (Executes (.strand k i) .msend w s → Answers (exec (.msend (.strand k i)) s)
    (ProgResult k i false (fun p =>
      { p with sends := if p.sends.any (fun m => m.1 == w.imm / 256 % 4) then p.sends
                 else p.sends ++ [(w.imm / 256 % 4, (s.prog k i).sc.s.toList.take 8)] }) s)) ∧
  (Executes (.strand k i) .gtrip w s → Answers (exec (.gtrip (.strand k i)) s) fun t =>
    (t.prog k i).fTrip = true ∧ (t.prog k i).sc.pc = (s.prog k i).sc.pc + 1 ∧
    (isReceiverNow s k i = true → (s.guard k i).phase ≠ .muted → (s.guard k i).phase ≠ .locked →
      (t.guard k i).prog = true) ∧
    (isReceiverNow s k i = false ∨ (s.guard k i).phase = .muted → t.guard k i = s.guard k i) ∧
    KeepsBut [.dies] s t ∧ OtherDies k s t)

/-- What each loop-profile instruction writes to xD in Q16.16, exactly, rounded once and clamped with the coil's flag
(R261, R266, R269, R273); XOUT writes a coil output (R268).
Commands that complete here: xmov, ldx, xin, xtab, xfroms, xadd, xsub, xmul, xmin, xmax, xabs, xneg, xclmp, xout. -/
def Obligations.WithyLoopProfile : Prop := ∀ (c : CoilIx) (w : WWord) (s : State),
  (∀ p ∈ [(WOp.xmov, xReg s c w.a), (.ldx, signed 32 w.imm), (.xin, (s.coils[c]).snsIn.toList.getD (w.imm % 16) 0),
      (.xtab, tableAt s c (w.imm % 2) (xReg s c w.a)), (.xfroms, (sReg s (.coil c) w.a).toInt),
      (.xadd, xReg s c w.a + xReg s c w.b), (.xsub, xReg s c w.a - xReg s c w.b),
      (.xmul, roundDiv (xReg s c w.a * xReg s c w.b) 65536), (.xmin, min (xReg s c w.a) (xReg s c w.b)),
      (.xmax, max (xReg s c w.a) (xReg s c w.b)), (.xabs, if xReg s c w.a < 0 then -xReg s c w.a else xReg s c w.a),
      (.xneg, -xReg s c w.a), (.xclmp, max (xReg s c w.a) (min (xReg s c w.d) (xReg s c w.b)))],
    Executes (.coil c) p.1 w s → Answers (exec (withyCmd p.1 (.coil c)) s) (XResult c w.d p.2 s)) ∧
  (Executes (.coil c) .xout w s → Answers (exec (.xout (.coil c)) s) fun t =>
    t.coils[c] = { s.coils[c] with
      ctx := { (s.coils[c]).ctx with pc := (s.coils[c]).ctx.pc + 1 },
      loop := if w.imm % 8 = 0 then { (s.coils[c]).loop with out0 := xReg s c w.a }
        else if w.imm % 8 = 1 then { (s.coils[c]).loop with out1 := xReg s c w.a }
        else { (s.coils[c]).loop with out2 := xReg s c w.a } } ∧ CtxOnly (.coil c) s t)

/-- Control. LOOP opens a body that repeats n times and END closes it (R226); an EVENT sets EVENT, and only the first of
an invocation makes a record (R289); HALT ends the invocation with its output block, or hands a coil's job to the
hardware stages (R216, R217, R219, R288).
Commands that complete here: loop, endLoop, event, halt. -/
def Obligations.WithyControl : Prop := ∀ (x : Ctx) (k : DieIx) (i : StrandIx) (c : CoilIx) (w : WWord) (s : State),
  (Executes x .loop w s → Answers (exec (.loop x) s) fun t =>
    ctxSc t x = { ctxSc s x with
      loops := ((ctxSc s x).pc + 1, w.imm % 2 ^ 16) :: (ctxSc s x).loops, pc := (ctxSc s x).pc + 1 } ∧
    ctxSat t x = ctxSat s x ∧ RestKept x s t ∧ CtxOnly x s t) ∧
  (∀ a n l, (ctxSc s x).loops = (a, n) :: l → 1 ≤ a → Executes x .endLoop w s → Answers (exec (.endLoop x) s) fun t =>
    (1 < n → ctxSc t x = { ctxSc s x with loops := (a, n - 1) :: l, pc := a }) ∧
    (n ≤ 1 → ctxSc t x = { ctxSc s x with loops := l, pc := (ctxSc s x).pc + 1 }) ∧
    ctxSat t x = ctxSat s x ∧ RestKept x s t ∧ CtxOnly x s t) ∧
  (Executes x .event w s → Answers (exec (.event x) s) fun t =>
    ctxSc t x = { ctxSc s x with evented := true, pc := (ctxSc s x).pc + 1 } ∧
    (x = .strand k i → (t.prog k i).fEvent = true) ∧ ((ctxSc s x).evented = true → t.skein = s.skein) ∧
    t.regs = s.regs ∧ t.mem = s.mem) ∧
  (Executes (.strand k i) .halt w s → Answers (exec (.halt (.strand k i)) s) fun t =>
    (t.prog k i).sc.running = false ∧ (t.prog k i).inv = (s.prog k i).inv + 1 ∧
    (t.prog k i).outQ = (s.prog k i).outQ ++ [outBlock (s.prog k i) (pipeOf s k i)] ∧
    (t.prog k i).laQ = (s.prog k i).laQ ++ [(s.prog k i).env] ∧ (t.prog k i).sends = [] ∧ t.regs = s.regs ∧ t.mem = s.mem) ∧
  (Executes (.coil c) .halt w s → Answers (exec (.halt (.coil c)) s) fun t =>
    (t.coils[c]).job = .done ∧ (t.coils[c]).ctx.running = false ∧ (∀ q : Fin 4, c.val ∉ t.coreQ[q]) ∧
    t.regs = s.regs)

/-! ## Ports, the scan receiver and coexistence -/

/-- Port commands. A write of PRC_CTRL while one is in progress becomes pending, in place of an earlier one (R301); one to
the state and TARGET the port has completes at once with RESULT OK (R302); a command towards Transmit that leaves the
queue in VERSION_HELD, while the thermal guard holds transmitters off, or at a reading that forbids them is refused,
and the port stays where it is (R303, R304); otherwise the port begins the first transition on its way (R297). A
transition into Transmit needs the lock of the die PLL and, for a masked port, coexistence; PAEN rises 6 µs into it,
and falls 8 µs into a ramp-down (R297, R298). At its end the port is in the new state with its converters as R294 has
them, and the command completes in its TARGET, with its DUPLEX (R296, R297, R301).
Commands that complete here: portCommand, portCommandDequeue, portTransitionDone. -/
def Obligations.PortCommands : Prop := ∀ (o : Origin) (k : DieIx) (p : PortIx) (w : Word) (T : PortState) (s : State),
  (Admits o ⟨.PRC_CTRL, k.val, p.val, 0⟩ w s → portStateOf (fld w 2 0) = T →
    ((s.port k p).inProg ≠ none → Answers (exec (.portCommand o k p w) s) fun t => t.done = ⟨.ok, 0⟩ ∧
      t.port k p = { s.port k p with pend := some (T, bit w 4) } ∧ KeepsBut (.dies :: .regs :: logParts) s t ∧ OtherDies k s t) ∧
    ((s.port k p).st = T → (s.port k p).target = T → (s.port k p).inProg = none → (s.port k p).moving = none →
      (s.port k p).parked = false → Answers (exec (.portCommand o k p w) s) fun t => t.done = ⟨.ok, 0⟩ ∧
        t.port k p = { s.port k p with result := .ok, pend := none, duplex := bit w 4 } ∧
        KeepsBut (.dies :: .regs :: logParts) s t ∧ OtherDies k s t)) ∧
  (∀ dup, (s.port k p).pend = some (T, dup) → (s.port k p).inProg = none →
    (T = .transmit → ∀ c, ((s.handle.versionHeld = true ∧ c = Code.versionHeld) ∨
        (s.handle.versionHeld = false ∧ s.thm.hold = true ∧ c = .thermalHold) ∨
        (s.handle.versionHeld = false ∧ s.thm.hold = false ∧ c = .thermalHold ∧
          (freshReading s k = some false ∨ (freshReading s k = none ∧ convertible s (thmIx k) = false)))) →
      Answers (exec (.portCommandDequeue k p) s) fun t => t.port k p = { s.port k p with pend := none, result := c } ∧
        KeepsBut [.dies, .skein, .cane] s t ∧ OtherDies k s t) ∧
    ((T = .transmit → s.handle.versionHeld = false ∧ s.thm.hold = false ∧ freshReading s k = some true) →
      (s.port k p).moving = none → ∀ u, nextState (s.port k p).st T = some u →
      (u ≠ .transmit → Answers (exec (.portCommandDequeue k p) s) fun t =>
        t.port k p = { s.port k p with
          pend := none, inProg := some T, cycling := (s.port k p).cycling && T == .transmit && dup, duplex := dup,
          parked := false, moving := some u, mvAt := s.time.ft, mvSwitch := false,
          hold31 := (s.port k p).hold31 || (s.port k p).st == .transmit } ∧
        ((s.port k p).st = .transmit → (t.port k p).paenNow (s.time.ft + 7999) = (s.port k p).paen ∧
          (t.port k p).paenNow (s.time.ft + 8000) = false) ∧
        (u = .synthOn → (s.port k p).st = .standby → (t.dies[k]).pllRun = true) ∧
        KeepsBut [.dies] s t ∧ OtherDies k s t) ∧
      (u = .transmit → coexBars s k p = false → (s.dies[k]).pllLock = true → (s.port k p).dutyHold = false →
        Answers (exec (.portCommandDequeue k p) s) fun t =>
          (t.port k p).inProg = some .transmit ∧ (t.port k p).moving = some .transmit ∧
          (t.port k p).st = (s.port k p).st ∧ (t.port k p).mvSwitch = false ∧ (t.port k p).mvAt = s.time.ft ∧
          (t.port k p).duplex = dup ∧ (t.port k p).paenNow s.time.ft = false ∧
          (t.port k p).paenNow (s.time.ft + 6000) = true ∧
          KeepsBut [.dies] s t ∧ OtherDies k s t) ∧
      (u = .transmit → (s.dies[k]).pllLock = false → coexBars s k p = false →
        Answers (exec (.portCommandDequeue k p) s) fun t => (t.port k p).inProg = some .transmit ∧
          (t.port k p).moving = none ∧ KeepsBut [.dies] s t ∧ OtherDies k s t)) ∧
    ((T = .transmit → s.handle.versionHeld = false ∧ s.thm.hold = false ∧ freshReading s k = some true) →
      (s.port k p).moving = none → (s.port k p).st = T → Answers (exec (.portCommandDequeue k p) s) fun t =>
        (t.port k p).target = T ∧ (t.port k p).result = .ok ∧ (t.port k p).inProg = none ∧ (t.port k p).pend = none ∧
        (t.port k p).duplex = dup ∧ (t.port k p).st = T ∧ t.regs = s.regs ∧ t.mem = s.mem ∧ OtherDies k s t)) ∧
  (∀ u, (s.port k p).moving = some u →
    ((u = .transmit ∨ (u = .synthOn ∧ (s.port k p).st = .standby)) → (s.dies[k]).pllLock = false →
      Answers (exec (.portTransitionDone k p) s) fun t => t.dies = s.dies ∧ KeepsBut logParts s t) ∧
    ((s.dies[k]).pllLock = true → (s.port k p).inProg = some u → (u = .transmit → isDuplex s k p = false) →
      Answers (exec (.portTransitionDone k p) s) fun t =>
        (t.port k p).st = u ∧ (t.port k p).target = u ∧ (t.port k p).inProg = none ∧ (t.port k p).moving = none ∧
        (t.port k p).result = .ok ∧ (t.port k p).paen = (u == .transmit) ∧
        (t.conv k p).adcReady = (u == .receive || u == .transmit) ∧ 
        (t.conv k p).dacReady = (u == .transmit || (u == .receive && (s.port k p).mvSwitch)) ∧
        KeepsBut (.dies :: .coex :: logParts) s t ∧ OtherDies k s t) ∧
    ((s.dies[k]).pllLock = true → (s.port k p).inProg = some T → u ≠ .transmit → ∀ v, nextState u T = some v →
      v ≠ .transmit → Answers (exec (.portTransitionDone k p) s) fun t =>
        (t.port k p).st = u ∧ (t.port k p).inProg = some T ∧ (t.port k p).moving = some v ∧
        (t.port k p).target = (s.port k p).target ∧ KeepsBut (.dies :: .coex :: logParts) s t ∧ OtherDies k s t))

/-- The die PLL, the RFFE bus and the tuners. At lock the ports that wait for it enter Synth-on; 2 ms without lock refuse
the command with NOT_LOCKED (R305); at a loss of lock every port in Transmit drops PAEN and enters Synth-on with its
TARGET pending, and a transition into Transmit is over (R306); the PLL stops when no port needs it (R293). GO starts a
host transaction on an enabled bus with its USID, address and data, the oldest tuner write follows one, and a read
with bad parity leaves RFFE_DATA (R322). A tuner measurement that is made in the receiver's task gives RL, and a
search writes each state to the bus and takes the one with the highest RL (R319, R320).
Commands that complete here: diePllLock, portLockTimeout, diePllUnlock, diePllStop, rffeCmdGo, rffeTransactionDone,
tunerMeasure, tunerSearch, tunerSearchStep. -/
def Obligations.PllRffeAndTuner : Prop := ∀ (o : Origin) (k : DieIx) (p : PortIx) (data : Nat) (good : Bool)
    (band fwd rev : Int) (s : State),
  ((s.dies[k]).pllRun = true → (s.dies[k]).pllLock = false → s.pwr.refLong = false →
    Answers (exec (.diePllLock k) s) fun t => (t.dies[k]).pllLock = true ∧ (t.lash.srcs[srcOfDie k 6]).active = false ∧
      (∀ q : PortIx, (s.port k q).moving = some .synthOn → (s.port k q).st = .standby → (t.port k q).st = .synthOn) ∧
      OtherDies k s t ∧ t.regs = s.regs ∧ t.mem = s.mem) ∧
  ((s.port k p).inProg = some .transmit → (s.dies[k]).pllLock = false →
    Answers (exec (.portLockTimeout k p) s) fun t => (t.port k p).result = .notLocked ∧ (t.port k p).inProg = none ∧
      (t.port k p).refused = satInc 0xFFFF (s.port k p).refused ∧
      (t.port k p).target = (if (s.port k p).st = .sleep then .sleep else .standby) ∧
      OtherDies k s t ∧ t.regs = s.regs ∧ t.mem = s.mem) ∧
  ((s.dies[k]).pllLock = true → Answers (exec (.diePllUnlock k) s) fun t => (t.dies[k]).pllLock = false ∧
    (∀ q : PortIx, (s.port k q).st = .transmit → (t.port k q).st = .synthOn ∧ (t.port k q).paen = false ∧
      (t.port k q).unlocks = satInc 0xFFFF (s.port k q).unlocks ∧ (t.port k q).inProg = none ∧
      ((s.port k q).pend = none → (s.port k q).inProg = none →
        (t.port k q).pend = some ((s.port k q).target, (s.port k q).duplex)) ∧
      (∀ c, (s.port k q).pend = none → (s.port k q).inProg = some c → (t.port k q).pend = some (c, (s.port k q).duplex)) ∧
      (t.conv k q).dacReady = false ∧ (t.conv k q).adcReady = false) ∧
    (∀ q : PortIx, (s.port k q).st ≠ .transmit → (t.port k q).st = (s.port k q).st ∧
      ((s.port k q).moving = some .transmit → (t.port k q).moving = none)) ∧
    (srcSeen (srcOfDie k 6) s = true → (t.lash.srcs[srcOfDie k 6]).latched = true) ∧
    OtherDies k s t ∧ t.regs = s.regs ∧ t.mem = s.mem) ∧
  (pllNeeded s k = false →
    exec (.diePllStop k) s = .next (s.modDie k fun d => { d with pllRun := false, pllLock := false })) ∧
  (pllNeeded s k = true → exec (.diePllStop k) s = .next s) ∧
  (Admits o ⟨.RFFE_CMD, k.val, 0, 0⟩ (bitsWord ⟨.RFFE_CMD, k.val, 0, 0⟩ 0x80000000 0 s) s → s.Canonical →
    Answers (exec (.rffeCmdGo o k) s) fun t => t.done = ⟨.ok, 0⟩ ∧
      (bit (s.cfg1 .RFFE_CFG k) 8 = true →
        (t.dies[k]).rffe = { (s.dies[k]).rffe with busy := some (true,
          ⟨fld (s.cfg1 .RFFE_CMD k) 26 24, fld (s.cfg1 .RFFE_CMD k) 23 20, bit (s.cfg1 .RFFE_CMD k) 16,
            fld (s.cfg1 .RFFE_CMD k) 7 0, (s.dies[k]).rffe.data⟩) }) ∧
      (bit (s.cfg1 .RFFE_CFG k) 8 = false → t.dies = s.dies) ∧
      KeepsBut (.dies :: .regs :: logParts) s t ∧ OtherDies k s t) ∧
  (∀ h x, (s.dies[k]).rffe.busy = some (h, x) → Answers (exec (.rffeTransactionDone k data good) s) fun t =>
    ((s.dies[k]).rffe.owed = [] → (t.dies[k]).rffe.busy = none ∧ (t.dies[k]).rffe.owed = []) ∧
    (∀ y l, (s.dies[k]).rffe.owed = y :: l → (t.dies[k]).rffe.busy = some (false, y) ∧ (t.dies[k]).rffe.owed = l) ∧
    ((x.ty = 3 ∨ x.ty = 4) → good = false → (t.dies[k]).rffe.parity = true ∧
      (t.dies[k]).rffe.parErr = satInc 0xFFFF (s.dies[k]).rffe.parErr ∧ (t.dies[k]).rffe.data = (s.dies[k]).rffe.data) ∧
    ((x.ty = 3 ∨ (x.ty = 4 ∧ x.long = false)) → good = true → (t.dies[k]).rffe.data = data % 256) ∧
    (x.ty = 4 → x.long = true → good = true → (t.dies[k]).rffe.data = data % 65536) ∧
    (x.ty ≠ 3 → x.ty ≠ 4 → (t.dies[k]).rffe.data = (s.dies[k]).rffe.data) ∧
    KeepsBut [.dies] s t ∧ OtherDies k s t) ∧
  (tuneOn s k p = true → p.val < 2 → uplinksOf s k p ≠ [] → tunerTask s k = true →
    ((-4500 ≤ band ∨ (uplinksOf s k p).all (ugClosed s k) = true) → Answers (exec (.tunerMeasure k p band fwd rev) s) fun t =>
      (t.port k p).rl = sat 16 (fwd - rev) ∧ (t.port k p).measValid = true ∧ (t.port k p).st = (s.port k p).st ∧
      KeepsBut [.dies] s t ∧ OtherDies k s t) ∧
    ((band < -4500 ∧ (uplinksOf s k p).all (ugClosed s k) = false) → Answers (exec (.tunerMeasure k p band fwd rev) s) fun t =>
      (t.port k p) = { s.port k p with measValid := false } ∧ KeepsBut [.dies] s t ∧ OtherDies k s t)) ∧
  (tunerTask s k = false → exec (.tunerMeasure k p band fwd rev) s = .next s ∧ exec (.tunerSearch k p) s = .next s) ∧
  ((s.port k p).wantSearch = true → (∀ q : PortIx, (s.port k q).search = none) → tuneOn s k p = true →
    (uplinksOf s k p).all (ugClosed s k) = true → (∀ i, (s.canc k i).pathCap = false) → tunerTask s k = true →
    Answers (exec (.tunerSearch k p) s) fun t =>
      (t.port k p).search = some ⟨0, none, (s.port k p).tuned⟩ ∧ (t.port k p).wantSearch = false ∧
      ((s.dies[k]).rffe.busy = none → (t.dies[k]).rffe.busy = some (false, tuneOp s k p 0)) ∧
      (∀ b, (s.dies[k]).rffe.busy = some b → (t.dies[k]).rffe.owed = (s.dies[k]).rffe.owed ++ [tuneOp s k p 0]) ∧
      KeepsBut [.dies] s t ∧ OtherDies k s t) ∧
  (∀ x, (s.port k p).search = some x → Answers (exec (.tunerSearchStep k p fwd) s) fun t =>
    (x.j + 1 < fld (s.cfg2 .TUNE_CFG k p) 27 24 → (t.port k p).tuned = (s.port k p).tuned ∧
      ((s.dies[k]).rffe.busy = none → (t.dies[k]).rffe.busy = some (false, tuneOp s k p (x.j + 1))) ∧
      (x.best = none → (t.port k p).search = some ⟨x.j + 1, some (x.j, fwd), x.old⟩) ∧
      (∀ j b, x.best = some (j, b) → (t.port k p).search =
        some ⟨x.j + 1, some (if b < fwd then (x.j, fwd) else (j, b)), x.old⟩)) ∧
    (fld (s.cfg2 .TUNE_CFG k p) 27 24 ≤ x.j + 1 → (t.port k p).search = none ∧
      (t.port k p).searches = satInc 0xFF (s.port k p).searches ∧
      (∀ j b, x.best = some (j, b) → (t.port k p).tuned = if b < fwd then x.j else j)) ∧
    OtherDies k s t ∧ t.regs = s.regs ∧ t.mem = s.mem)

/-- The scan receiver and coexistence. An idle receiver takes the due task of the highest order and retunes where its
frequency is another; a host request yields to tasks 1 and 2 (R309, R312); the time of the next task gives the idle
state (R311); a step of calibration needs Transmit, one without lock stops the receiver, and a failed calibration
raises its source and is due again after 60 s (R310, R314). A requester raises PRI where a masked port's transmission
meets a burst window, and its masked ports in Transmit leave it by the switch as COEX_GNT falls (R323); a grantor
decides at once for COEX_PRI or outside burst windows, switches the masked ports to Receive before COEX_GNT rises, and
takes the grant back as COEX_REQ falls (R324); a die whose control lane is lost takes no part (R27).
Commands that complete here: scanTaskStart, scanTaskDone, scanTransitionDone, scanCalStep, scanCalRetry, scanReqGo,
scanReqAbort, coexReqAssert, coexGntFall, coexGntRise, coexReqRise, coexGrantDecision, coexGntRaise, coexReqFall. -/
def Obligations.ScanAndCoexistence : Prop := ∀ (o : Origin) (k : DieIx) (tdd div tune locked last pri : Bool)
    (next rej : Nat) (power : Int) (cells : List (Bool × Int × Nat)) (s : State),
  (∀ n u, u = s.modDie k (fun d => { d with scan := { d.scan with
      tddDue := d.scan.tddDue || tdd, divDue := d.scan.divDue || div, tuneDue := d.scan.tuneDue || tune } }) →
    dueTask u k = n → n ≠ 0 → ((s.dies[k]).scan.task = 0 ∨ ((s.dies[k]).scan.task = 5 ∧ n ≤ 2)) →
    Answers (exec (.scanTaskStart k tdd div tune) s) fun t => (t.dies[k]).scan.task = n ∧
      (t.dies[k]).scan.reqOn = (s.dies[k]).scan.reqOn ∧ (t.dies[k]).scan.want = (taskTune u k n).1 ∧
      (t.dies[k]).scan.input = (taskTune u k n).2 ∧
      ((s.dies[k]).scan.moving = none → (t.dies[k]).scan.moving =
        scanNext (s.dies[k]).scan.st (if n = 6 then .transmit else .receive)
          (decide ((s.dies[k]).scan.tuned = (taskTune u k n).1))) ∧
      KeepsBut [.dies] s t ∧ OtherDies k s t) ∧
  ((s.dies[k]).scan.task ≠ 0 → ((s.dies[k]).scan.task = 4 → ∀ p : PortIx, (s.port k p).search = none) →
    Answers (exec (.scanTaskDone k next power cells) s) fun t =>
      (t.dies[k]).scan.task = 0 ∧ (t.dies[k]).scan.divAt = s.time.ft + next ∧
      (t.dies[k]).scan.idle =
        (if nextDue t k ≤ 5000000 then .synthOn else if nextDue t k ≤ 2000000000 then .standby else .sleep) ∧
      ((s.dies[k]).scan.task = 5 → (t.dies[k]).scan.reqOn = false ∧ (t.dies[k]).scan.reqDone = true ∧
        (t.dies[k]).scan.reqCode = .ok ∧
        (fld (s.cfg1 .SCAN_REQ k) 29 28 = 0 → (t.dies[k]).scan.power = sat 16 power)) ∧
      KeepsBut [.dies] s t ∧ OtherDies k s t) ∧
  (∀ u f, (s.dies[k]).scan.moving = some u →
    f = (if u = .synthOn ∧ (s.dies[k]).scan.st ≠ .receive ∧ (s.dies[k]).scan.st ≠ .transmit then (s.dies[k]).scan.want
      else (s.dies[k]).scan.tuned) →
    Answers (exec (.scanTransitionDone k) s) fun t => (t.dies[k]).scan.st = u ∧ (t.dies[k]).scan.tuned = f ∧
      (t.dies[k]).scan.lock = decide (2 ≤ u.num) ∧
      (t.dies[k]).scan.moving = scanNext u (scanGoal (s.dies[k]).scan) (decide (f = (s.dies[k]).scan.want)) ∧
      KeepsBut [.dies] s t ∧ OtherDies k s t) ∧
  ((s.dies[k]).scan.task = 6 → (s.dies[k]).scan.st = .transmit → (s.dies[k]).scan.moving = none →
    Answers (exec (.scanCalStep k locked last rej) s) fun t =>
      (locked = false → (t.dies[k]).scan.reqCode = .notLocked ∧ (t.dies[k]).scan.task = 0 ∧
        (t.dies[k]).scan.calDue = true ∧ (t.dies[k]).scan.lock = false ∧ (t.dies[k]).scan.st = .standby) ∧
      (locked = true → last = false → 6 ≤ dueTask s k → (t.dies[k]).scan.task = 6) ∧
      (locked = true → last = false → dueTask s k < 6 → (t.dies[k]).scan.task = 0 ∧ (t.dies[k]).scan.calDue = true) ∧
      (locked = true → last = true → (t.dies[k]).scan.task = 0 ∧ (t.dies[k]).scan.imgRej = min 0xFFFF rej ∧
        (t.dies[k]).scan.calTime = s.time.ft ∧ (t.dies[k]).scan.calOnce = true ∧
        (rej < 6000 → (t.dies[k]).scan.calFail = true ∧
          (srcSeen (srcOfDie k 7) s = true → (t.lash.srcs[srcOfDie k 7]).latched = true)) ∧
        (6000 ≤ rej → (t.dies[k]).scan.calFail = (s.dies[k]).scan.calFail ∧
          (t.lash.srcs[srcOfDie k 7]).active = false)) ∧
      OtherDies k s t ∧ t.regs = s.regs ∧ t.mem = s.mem) ∧
  ((s.dies[k]).scan.task ≠ 6 ∨ (s.dies[k]).scan.st ≠ .transmit → exec (.scanCalStep k locked last rej) s = .next s) ∧
  (((s.dies[k]).scan.calOnce = true ∧ (s.dies[k]).scan.imgRej < 6000 ∧ (s.dies[k]).scan.calTime + 60 * 10 ^ 9 ≤ s.time.ft) →
    exec (.scanCalRetry k) s = .next (s.modDie k fun d => { d with scan := { d.scan with calDue := true } })) ∧
  (Admits o ⟨.SCAN_REQ, k.val, 0, 0⟩ (bitsWord ⟨.SCAN_REQ, k.val, 0, 0⟩ 0x80000000 0 s) s → (s.dies[k]).scan.reqOn = false →
    Answers (exec (.scanReqGo o k) s) fun t => t.done = ⟨.ok, 0⟩ ∧
      (t.dies[k]).scan = { (s.dies[k]).scan with reqOn := true, reqDone := false } ∧
      KeepsBut (.dies :: .regs :: logParts) s t ∧ OtherDies k s t) ∧
  (Admits o ⟨.SCAN_REQ, k.val, 0, 0⟩ (bitsWord ⟨.SCAN_REQ, k.val, 0, 0⟩ 0x40000000 0 s) s → (s.dies[k]).scan.reqOn = true →
    Answers (exec (.scanReqAbort o k) s) fun t => t.done = ⟨.ok, 0⟩ ∧
      (t.dies[k]).scan.reqOn = false ∧ (t.dies[k]).scan.reqDone = true ∧ (t.dies[k]).scan.reqCode = .ok ∧
      ((s.dies[k]).scan.task = 5 → (t.dies[k]).scan.task = 0) ∧
      KeepsBut (.dies :: .regs :: logParts) s t ∧ OtherDies k s t) ∧
  (coexRole s = 1 →
    exec (.coexReqAssert ()) s = .next { s with coex := { s.coex with
      req := true, pri := bit (s.cfg0 .COEX_CFG) 29 &&
        (coexPorts s).any fun x => coexNeed s x.1 x.2 && burstMeets s x.1 x.2 (txSpan s x.1 x.2) } } ∧
    Answers (exec .coexGntFall s) (fun t => t.coex.gnt = false ∧
      (∀ (j : DieIx) (q : PortIx), coexMasked s j q = true → (s.dies[j]).laneLost = false → (s.port j q).st = .transmit →
        (s.port j q).moving = none → (t.port j q).moving = some .receive ∧ (t.port j q).mvSwitch = true ∧
        (t.port j q).mvAt = s.time.ft ∧ paenLevel t j q = false ∧
        (t.port j q).coexHeld = ((s.port j q).goal == .transmit)) ∧
      (∀ (j : DieIx) (q : PortIx), (coexMasked s j q = false ∨ (s.dies[j]).laneLost = true) → t.port j q = s.port j q) ∧
      KeepsBut [.dies, .coex] s t) ∧
    (s.coex.gnt = false → Answers (exec .coexGntRise s) fun t => t.coex.gnt = true ∧
      t.coex.grants = satInc 0xFFFFFFFF s.coex.grants ∧
      (∀ (j : DieIx) (q : PortIx), coexMasked s j q = false → t.port j q = s.port j q) ∧
      t.regs = s.regs ∧ t.mem = s.mem)) ∧
  (coexRole s = 2 →
    (∀ u, wakeCoex s = u →
      ((pri = true ∨ coexWindow u = false) → Answers (exec (.coexReqRise pri ()) s) fun t => t.coex.granting = true ∧
        t.coex.req = true ∧ t.coex.pri = pri ∧
        (∀ (j : DieIx) (q : PortIx), coexMasked s j q = true → (s.dies[j]).laneLost = false → (t.port j q).hold31 = true)) ∧
      ((pri = false ∧ coexWindow u = true) → Answers (exec (.coexReqRise pri ()) s) fun t => t.coex.waiting = true ∧
        t.coex.denials = satInc 0xFFFF s.coex.denials ∧ t.coex.granting = s.coex.granting)) ∧
    (s.coex.waiting = true → s.coex.req = true → Answers (exec .coexGrantDecision s) fun t => t.coex.granting = true ∧
      (∀ (j : DieIx) (q : PortIx), coexMasked s j q = true → (s.dies[j]).laneLost = false → (t.port j q).hold31 = true) ∧
      KeepsBut [.dies, .coex] s t) ∧
    (s.coex.granting = true → Answers (exec .coexGntRaise s) fun t => t.coex.gnt = true ∧ t.coex.granting = false ∧
      t.coex.grants = satInc 0xFFFFFFFF s.coex.grants ∧
      (∀ (j : DieIx) (q : PortIx), coexMasked s j q = true → (s.dies[j]).laneLost = false → (s.port j q).st = .transmit →
        (t.port j q).st = .receive ∧ (t.port j q).paen = false) ∧ KeepsBut [.dies, .coex] s t) ∧
    Answers (exec .coexReqFall s) (fun t => t.coex.req = false ∧ t.coex.granting = false ∧ t.coex.gnt = false ∧
      (∀ (j : DieIx) (q : PortIx), coexMasked s j q = false → t.port j q = s.port j q) ∧ t.regs = s.regs ∧ t.mem = s.mem))

/-! ## The coil engine -/

/-- The commands of the coil engine. The loader takes a command while none is in progress (R359); a LOAD or FETCH of a
good image places it, one that fails a check changes no image, and none of LOAD, FETCH and FREE changes a coil that is
not STOPPED (R359, R360). A START whose checks pass waits for the coil's boundary; a refused one sets START_FAULT and
changes nothing else (R361); one during a LOAD or FETCH of the coil is BUSY (R366). A STOP takes effect at a boundary,
changes nothing on a STOPPED coil, and is refused while the coil's port transmits (R363). APPLY stages the parameters
(R338); ARM starts the trace and FORCE triggers it (R357).
Commands that complete here: coilLoad, coilFetch, coilFree, coilStore, coilCmdDone, coilStart, coilStop,
coilParamApply, traceArm, traceForce. -/
def Obligations.CoilCommands : Prop := ∀ (o : Origin) (c : CoilIx) (lib : Fin 32) (s : State), s.Canonical →
  (s.coilLdr.busy = none →
    (∀ p ∈ [(Instr.coilLoad o c, 1, c.val, 0), (.coilFetch o c lib, 2, c.val, lib.val), (.coilFree o c, 4, c.val, 0)],
      Admits o ⟨.COIL_CMD, 0, 0, 0⟩ (coilWord p.2.1 p.2.2.1 p.2.2.2) s → Answers (exec p.1 s) (Accepted
        { s with coilLdr := { s.coilLdr with
          busy := some ⟨p.2.1, p.2.2.1, p.2.2.2, 0, false, coilWord p.2.1 p.2.2.1 p.2.2.2, o⟩ } })) ∧
    (Admits o ⟨.COIL_CMD, 0, 0, 0⟩ (coilWord 3 0 lib.val) s → Answers (exec (.coilStore o lib) s) fun t =>
      t.done = ⟨.ok, 0⟩ ∧ t.coilLdr.busy = some ⟨3, 0, lib.val, 0, false, coilWord 3 0 lib.val, o⟩ ∧
      KeepsBut (.coilLdr :: .thm :: logParts) s t)) ∧
  (∀ d, s.coilLdr.busy = some d → handleWorks s = true → Fin.ofNat 24 d.slot = c →
    ((d.op = 1 ∨ d.op = 2 ∨ d.op = 4) → (s.coils[c]).st ≠ .stopped → Answers (exec .coilCmdDone s) fun t =>
      t.coilLdr = ⟨none, d.op, d.slot, 0, .busy⟩ ∧ t.coils = s.coils ∧ t.mem = s.mem) ∧
    (∀ l, (d.op = 1 ∧ l = coilLoadBuffer s ∨ d.op = 2 ∧ l = libBytes s d.lib) → (s.coils[c]).st = .stopped →
      (loopFault l ≠ 0 → Answers (exec .coilCmdDone s) fun t =>
        t.coilLdr = ⟨none, d.op, d.slot, loopFault l, .badProgram⟩ ∧ t.coils = s.coils ∧ t.mem = s.mem) ∧
      (loopFault l = 0 → field l 0x17 1 ≠ coilClass c → Answers (exec .coilCmdDone s) fun t =>
        t.coilLdr = ⟨none, d.op, d.slot, 7, .badProgram⟩ ∧ t.coils = s.coils ∧ t.mem = s.mem) ∧
      (loopFault l = 0 → field l 0x17 1 = coilClass c → loopPortsOk (coilClass c) (imageWords l) = true →
        coilUnfitted s c = false → ∀ b, fitRun 8192 (imageWords l).length (coilRuns s (some c)) = some b →
        Answers (exec .coilCmdDone s) fun t => t.coilLdr = ⟨none, d.op, d.slot, 0, .ok⟩ ∧
          t.coils[c] = { s.coils[c] with
            image := some ⟨b, (imageWords l).length, field l 0x18 4, imageDigest l⟩ } ∧
          (∀ e : CoilIx, e ≠ c → t.coils[e] = s.coils[e]) ∧ t.regs = s.regs)) ∧
    (d.op = 4 → (s.coils[c]).st = .stopped → Answers (exec .coilCmdDone s) fun t =>
      t.coilLdr = ⟨none, 4, d.slot, 0, .ok⟩ ∧ t.coils[c] = { s.coils[c] with image := none } ∧
      (∀ e : CoilIx, e ≠ c → t.coils[e] = s.coils[e]) ∧ t.mem = s.mem) ∧
    (d.op = 3 → loopFault (coilLoadBuffer s) = 0 → mramVerdict s = .refused → Answers (exec .coilCmdDone s) fun t =>
      t.coilLdr = ⟨none, 3, d.slot, 0, .thermalHold⟩ ∧ t.coils = s.coils ∧ t.mem = s.mem)) ∧
  (Admits o ⟨.COIL_CTRL, c.val, 0, 0⟩ (bitsWord ⟨.COIL_CTRL, c.val, 0, 0⟩ 1 0 s) s →
    ((s.coils[c]).st ≠ .stopped → Answers (exec (.coilStart o c) s) fun t => t.done = ⟨.ok, 0⟩ ∧ t.coils = s.coils) ∧
    ((s.coils[c]).st = .stopped → coilLoading s c = true → Answers (exec (.coilStart o c) s) fun t => t.done = ⟨.busy, 0⟩ ∧
      t.coils = s.coils ∧ KeepsBut logParts s t) ∧
    ((s.coils[c]).st = .stopped → coilLoading s c = false →
      (coilChecks s c = (.ok, some 0) → Answers (exec (.coilStart o c) s) fun t => t.done = ⟨.ok, 0⟩ ∧
        t.coils[c] = { s.coils[c] with st := .starting, stopWait := false, laValid := false, startFault := 0 } ∧
        (∀ e : CoilIx, e ≠ c → t.coils[e] = s.coils[e]) ∧ KeepsBut (.coils :: .regs :: logParts) s t) ∧
      (∀ k f, k ≠ Code.ok → coilChecks s c = (k, some f) → Answers (exec (.coilStart o c) s) fun t => t.done = ⟨k, 0⟩ ∧
        t.coils[c] = { s.coils[c] with startFault := f } ∧
        (∀ e : CoilIx, e ≠ c → t.coils[e] = s.coils[e]) ∧ KeepsBut (.coils :: logParts) s t) ∧
      (∀ k, k ≠ Code.ok → coilChecks s c = (k, none) → Answers (exec (.coilStart o c) s) fun t => t.done = ⟨k, 0⟩ ∧
        t.coils = s.coils ∧ KeepsBut logParts s t) ∧
      ((s.coils[c]).image = none → coilChecks s c = (.badProgram, some 1)))) ∧
  (Admits o ⟨.COIL_CTRL, c.val, 0, 0⟩ (bitsWord ⟨.COIL_CTRL, c.val, 0, 0⟩ 2 0 s) s →
    ((∀ k p, coilPort c = some (k, p) → (s.port k p).st ≠ .transmit ∧ (s.port k p).cycling = false) →
      Answers (exec (.coilStop o c) s) fun t => t.done = ⟨.ok, 0⟩ ∧
        ((s.coils[c]).st ≠ .stopped → t.coils[c] = { s.coils[c] with stopWait := true }) ∧
        ((s.coils[c]).st = .stopped → t.coils[c] = s.coils[c]) ∧
        (∀ e : CoilIx, e ≠ c → t.coils[e] = s.coils[e]) ∧ KeepsBut (.coils :: .regs :: logParts) s t) ∧
    (∀ k p, coilPort c = some (k, p) → ((s.port k p).st = .transmit ∨ (s.port k p).cycling = true) →
      Answers (exec (.coilStop o c) s) fun t => t.done = ⟨.busy, 0⟩ ∧ KeepsBut logParts s t)) ∧
  (Admits o ⟨.COIL_PCTRL, c.val, 0, 0⟩ 1 s →
    ((s.coils[c]).st ≠ .stopped → Answers (exec (.coilParamApply o c) s) (Accepted (s.modCoil c fun q =>
      { q with paramWait := true, staged := Vector.ofFn fun n : Fin 8 => s.cfg2 .COIL_PARAM c.val n.val }))) ∧
    ((s.coils[c]).st = .stopped → Answers (exec (.coilParamApply o c) s) fun t => t.done = ⟨.ok, 0⟩ ∧
      (∀ n : Fin 8, (t.coils[c]).ctx.s[n.val + 8]'(by omega) = s.cfg2 .COIL_PARAM c.val n.val) ∧
      (∀ n : Fin 16, n.val < 8 → (t.coils[c]).ctx.s[n] = (s.coils[c]).ctx.s[n]) ∧
      KeepsBut (.coils :: logParts) s t)) ∧
  (Admits o ⟨.TRACE_CFG, c.val, 0, 0⟩ (bitsWord ⟨.TRACE_CFG, c.val, 0, 0⟩ 0x80000000 0 s) s →
    Answers (exec (.traceArm o c) s) fun t => t.done = ⟨.ok, 0⟩ ∧
      t.coils[c] = { s.coils[c] with trace := ⟨.armed, 0, 0, 0, 0⟩ } ∧
      (∀ e : CoilIx, e ≠ c → t.coils[e] = s.coils[e]) ∧ KeepsBut (.coils :: .regs :: logParts) s t) ∧
  (Admits o ⟨.TRACE_CFG, c.val, 0, 0⟩ (bitsWord ⟨.TRACE_CFG, c.val, 0, 0⟩ 0x40000000 0 s) s →
    ((s.coils[c]).trace.st = .armed → bit (traceCfg s c) 29 = true → Answers (exec (.traceForce o c) s) fun t =>
      t.done = ⟨.ok, 0⟩ ∧ (t.coils[c]).trace = { (s.coils[c]).trace with
        st := .triggered, trigIdx := (s.coils[c]).trace.written, left := 4096 - 16 * fld (traceCfg s c) 7 0 } ∧
      KeepsBut (.coils :: .regs :: logParts) s t) ∧
    ((s.coils[c]).trace.st ≠ .armed → Answers (exec (.traceForce o c) s) fun t => t.done = ⟨.ok, 0⟩ ∧ t.coils = s.coils))

/-- A period of a coil. At a boundary a waiting STOP takes effect (R363), the channels sample and the duty of the last
period acts (R331, R332); a started coil begins with its set-point at the feedback, held to its range, trim 0, law LOW
(R362); the release latches the inputs and the settings and takes new parameters, and jobs of one cycle queue in
rising coil number (R332, R333, R338, R365); a job still at work at the end is ended, runs the stages up to the law,
keeps the duty and raises the overrun (R334, R335). At HALT the mode, the slew limiter, the law and the duty limits
follow R340, R341, R344, R345 and R347, and the duty is written to the bound pairs.
Commands that complete here: coilBoundary, coilJobRelease, coilOverrun, halt. -/
def Obligations.CoilPeriod : Prop := ∀ (c : CoilIx) (fb cur aux : Fin 16384) (w : WWord) (s : State),
  ((s.coils[c]).job ≠ .released →
    ((s.coils[c]).st ≠ .stopped → (s.coils[c]).stopWait = true → Answers (exec (.coilBoundary c fb cur aux) s) fun t =>
      (t.coils[c]).st = .stopped ∧ (t.coils[c]).stopWait = false ∧
      (∀ e : CoilIx, e ≠ c → t.coils[e] = s.coils[e]) ∧ t.regs = s.regs ∧ t.mem = s.mem ∧ t.dies = s.dies) ∧
    ((s.coils[c]).stopWait = false → bit (s.cfg1 .COIL_CFG c.val) 1 = false → fld (s.cfg1 .COIL_SENSE c.val) 5 0 < 48 →
      ((s.coils[c]).st = .running → Answers (exec (.coilBoundary c fb cur aux) s) fun t =>
        (t.coils[c]).st = .running ∧ (t.coils[c]).job = .idle ∧
        (t.coils[c]).loop.y = snsValue s (fld (s.cfg1 .COIL_SENSE c.val) 5 0) fb.val ∧
        (t.coils[c]).loop.yPrev = (s.coils[c]).loop.y ∧ (t.coils[c]).loop.dAct = (s.coils[c]).loop.d ∧
        (t.coils[c]).loop.d = (s.coils[c]).loop.d ∧ (t.coils[c]).loop.sp = (s.coils[c]).loop.sp ∧
        (t.coils[c]).loop.periods = (s.coils[c]).loop.periods + 1 ∧
        (coilClass c ≠ 0 → (t.coils[c]).loop.lam = -13107200) ∧
        t.sns = (snsSample (fld (s.cfg1 .COIL_SENSE c.val) 21 16) aux.val
          (snsSample (fld (s.cfg1 .COIL_SENSE c.val) 13 8) cur.val
            (snsSample (fld (s.cfg1 .COIL_SENSE c.val) 5 0) fb.val s))).sns ∧
        (∀ e : CoilIx, e ≠ c → t.coils[e] = s.coils[e]) ∧ KeepsBut [.coils, .sns, .freeCtr, .skein, .cane] s t) ∧
      ((s.coils[c]).st = .starting → Answers (exec (.coilBoundary c fb cur aux) s) fun t =>
        (t.coils[c]).st = .running ∧
        (t.coils[c]).loop.y = snsValue s (fld (s.cfg1 .COIL_SENSE c.val) 5 0) fb.val ∧
        (t.coils[c]).loop.sp = min (max (snsValue s (fld (s.cfg1 .COIL_SENSE c.val) 5 0) fb.val)
          (coilVal s .SP_MIN c)) (coilVal s .SP_MAX c) ∧
        (t.coils[c]).loop.trim = 0 ∧ (t.coils[c]).loop.high = false ∧ (t.coils[c]).loop.cnt = 0 ∧
        (coilClass c ≠ 2 → (t.coils[c]).loop.m = (t.coils[c]).loop.y) ∧
        (∀ n : Fin 16, n.val < 8 → (t.coils[c]).ctx.s[n] = 0) ∧
        (∀ n : Fin 16, 8 ≤ n.val → (t.coils[c]).ctx.s[n] = (s.coils[c]).ctx.s[n]) ∧
        (∀ e : CoilIx, e ≠ c → t.coils[e] = s.coils[e]) ∧
        KeepsBut [.coils, .sns, .thm, .freeCtr, .skein, .cane] s t))) ∧
  ((s.coils[c]).st = .running → (s.coils[c]).job = .idle → Answers (exec (.coilJobRelease c) s) fun t =>
    (t.coils[c]).job = .released ∧ (t.coils[c]).ctx.pc = 0 ∧ (t.coils[c]).ctx.running = true ∧
    (t.coils[c]).snsIn[0] = (s.coils[c]).loop.y ∧ (t.coils[c]).snsIn[4] = (s.coils[c]).loop.lam ∧
    (t.coils[c]).snsIn[5] = (s.coils[c]).loop.sp ∧ (t.coils[c]).snsIn[9] = (s.coils[c]).loop.dAct ∧
    (t.coils[c]).paramWait = false ∧ (t.coils[c]).xs = (s.coils[c]).xs ∧
    (∀ n : Fin 8, (t.coils[c]).ctx.s[n.val + 8]'(by omega) =
      if (s.coils[c]).paramWait then (s.coils[c]).staged[n] else (s.coils[c]).ctx.s[n.val + 8]'(by omega)) ∧
    (t.coils[c]).relAt = s.time.ft ∧ (t.coils[c]).fixedSp = coilVal s .FIXED_SP c ∧
    (t.coils[c]).hostSec = bit (s.cfg1 .COIL_CTRL c.val) 2 ∧ (t.coils[c]).traceCfg = s.cfg1 .TRACE_CFG c.val ∧
    ((∀ x ∈ s.coreQ[coilCore s c], coreCycle (s.coils[(Fin.ofNat 24 x : CoilIx)]).relAt ≠ coreCycle s.time.ft) →
      t.coreQ[coilCore s c] = s.coreQ[coilCore s c] ++ [c.val]) ∧
    (∀ (l : List Nat) (x : CoilIx), s.coreQ[coilCore s c] = l ++ [x.val] → c.val < x.val →
      coreCycle (s.coils[x]).relAt = coreCycle s.time.ft → (s.coils[x]).ctx.pc = 0 →
      (∀ y ∈ l, coreCycle (s.coils[(Fin.ofNat 24 y : CoilIx)]).relAt ≠ coreCycle s.time.ft) →
      t.coreQ[coilCore s c] = l ++ [c.val, x.val]) ∧
    (∀ e : CoilIx, e ≠ c → t.coils[e] = s.coils[e]) ∧ KeepsBut [.coils, .coreQ] s t) ∧
  ((s.coils[c]).st = .running → (s.coils[c]).job = .released → srcSeen (srcOf 3) s = true →
    (s.lash.srcs[srcOf 3]).sev < 4 → (s.lash.srcs[srcOf (128 + c.val)]).sev < 4 →
    Answers (exec (.coilOverrun c) s) fun t =>
      (t.coils[c]).job = .idle ∧ LoopStep c s (s.coils[c]).loop (t.coils[c]).loop ∧
      (t.coils[c]).loop.d = (s.coils[c]).loop.d ∧ (t.coils[c]).flags / 64 % 2 = 1 ∧
      (∀ q : Fin 4, c.val ∉ t.coreQ[q]) ∧ (t.lash.srcs[srcOf 3]).latched = true ∧
      (∀ e : CoilIx, e ≠ c → t.coils[e] = s.coils[e]) ∧ t.pairs = s.pairs ∧ t.regs = s.regs) ∧
  (Executes (.coil c) .halt w s → (s.lash.srcs[srcOf (128 + c.val)]).sev < 4 →
    Answers (exec (.halt (.coil c)) s) fun t =>
      LoopStep c s (s.coils[c]).loop (t.coils[c]).loop ∧
      (t.coils[c]).loop.d = min (max ((if (t.coils[c]).loop.high then
            fld (s.cfg2 .BANK_DUTY c.val (t.coils[c]).loop.bank) 31 16
          else fld (s.cfg2 .BANK_DUTY c.val (t.coils[c]).loop.bank) 15 0 : Nat) + (s.coils[c]).loop.out1)
        (fld (s.cfg1 .DUTY_LIM c.val) 15 0 : Nat)) (fld (s.cfg1 .DUTY_LIM c.val) 31 16 : Nat) ∧
      (∀ n : PairIx, n ∈ boundPairs c s → (t.pairs[n]).shW = dutyWidth (t.coils[c]).loop.d (s.pairs[n]).shPeriod) ∧
      (∀ n : PairIx, n ∉ boundPairs c s → t.pairs[n] = s.pairs[n]) ∧ (t.coils[c]).loadReq = true ∧ t.regs = s.regs)

/-! ## Plait -/

/-- Plait. At its boundary a pair begins a whole period with the values in force (R369, R371, R376); the boundary of the
lowest pair of a host request is its load point, at which every pair of the request takes its shadows, a W above 64 ×
PERIOD as 64 × PERIOD with DUTY_CLAMP (R371, R381). A LOAD_ALL and a SYNC are refused while a host request is pending
or for a pair of a running coil (R383); a SYNC restarts each named enabled pair at the first edge after the write
(R384), and EN the pair, whose balls are driven from then on (R380, R385); clearing EN puts it at its safe levels
(R385). A CLEAR is refused while a masked input is asserted (R389). A calibration gives the trim, or sets CAL_FAIL and
keeps it (R372, R373); a trip counts the period once for each pair that names the input (R387).
Commands that complete here: pairBoundary, plLoadAll, plSync, pairEnable, pairDisable, pairClear, plaitCalibration,
tripAssert, tripRelease. -/
def Obligations.PlaitPairs : Prop := ∀ (o : Origin) (n : PairIx) (t : Nat) (ok : Bool) (trim : Byte) (i : Fin 8) (s : State),
  ((s.pairs[n]).en = true →
    ((s.pairs[n]).next = some t ∨ ((s.pairs[n]).next = none ∧ (s.pairs[n]).bound + 2 * (s.pairs[n]).period = (t : Int))) →
    (s.plait.hostReq = 0 → (∀ c : CoilIx, (s.coils[c]).loadReq = false) →
      Nat.land s.plait.tripIn (tripMask s n) = 0 → Answers (exec (.pairBoundary n t) s) fun u =>
        (u.pairs[n]).bound = t ∧ (u.pairs[n]).next = none ∧ (u.pairs[n]).periods = (s.pairs[n]).periods + 1 ∧
        (u.pairs[n]).w = (s.pairs[n]).w ∧ (u.pairs[n]).period = (s.pairs[n]).period ∧
        (u.pairs[n]).dt = fld (s.cfg1 .PAIR_DT n) 9 0 ∧ (u.pairs[n]).minp = fld (s.cfg1 .PAIR_DT n) 26 16 ∧
        (u.pairs[n]).trim = s.plait.trim ∧ (u.pairs[n]).cut = none ∧ (u.pairs[n]).leaving = false ∧
        (u.pairs[n]).sched = wholePeriod (u.pairs[n]) (effW (u.pairs[n])).1 ∧
        (u.pairs[n]).cald = s.plait.calValid ∧ (u.pairs[n]).clamp = (s.pairs[n]).clamp ∧
        (∀ m : PairIx, m ≠ n → u.pairs[m] = s.pairs[m]) ∧ KeepsBut [.pairs, .plait] s u) ∧
    (∀ r, s.plait.hostReq = r → lowestPair r = some n → (∀ c : CoilIx, (s.coils[c]).loadReq = false) →
      Answers (exec (.pairBoundary n t) s) fun u => u.plait.hostReq = 0 ∧
        (∀ m : PairIx, m ∈ maskPairs r → (u.pairs[m]).period = (s.pairs[m]).shPeriod ∧
          (u.pairs[m]).w = min (s.pairs[m]).shW (64 * (s.pairs[m]).shPeriod) ∧
          (u.pairs[m]).phase = (s.pairs[m]).shPhase ∧
          (u.pairs[m]).clamp = ((s.pairs[m]).clamp || decide (64 * (s.pairs[m]).shPeriod < (s.pairs[m]).shW))) ∧
        (∀ m : PairIx, m ∉ maskPairs r → (u.pairs[m]).period = (s.pairs[m]).period ∧ (u.pairs[m]).w = (s.pairs[m]).w) ∧
        u.regs = s.regs ∧ u.mem = s.mem ∧ u.dies = s.dies)) ∧
  (Admits o ⟨.PL_CMD, 0, 0, 0⟩ 1 s →
    (s.plait.hostReq = 0 → (∀ m ∈ maskPairs (hostMask s), pairOwned s m = false) →
      Answers (exec (.plLoadAll o) s) (Accepted { s with plait := { s.plait with hostReq := hostMask s } })) ∧
    ((s.plait.hostReq ≠ 0 ∨ ∃ m ∈ maskPairs (hostMask s), pairOwned s m = true) → Answers (exec (.plLoadAll o) s) fun u =>
      u.done = ⟨.busy, 0⟩ ∧ KeepsBut logParts s u)) ∧
  (Admits o ⟨.PL_CMD, 0, 0, 0⟩ 2 s →
    (s.plait.hostReq = 0 → (∀ m ∈ maskPairs (hostMask s), pairOwned s m = false) → Answers (exec (.plSync o) s) fun u =>
      u.done = ⟨.ok, 0⟩ ∧
      (∀ m : PairIx, m ∈ maskPairs (hostMask s) → (s.pairs[m]).en = true →
        (u.pairs[m]).next = some (plaitCycle s + 1 + (s.pairs[m]).phase % (2 * (s.pairs[m]).period)) ∧
        (u.pairs[m]).w = (s.pairs[m]).w ∧ (u.pairs[m]).latched = (s.pairs[m]).latched) ∧
      (∀ m : PairIx, (m ∉ maskPairs (hostMask s) ∨ (s.pairs[m]).en = false) → u.pairs[m] = s.pairs[m]) ∧
      KeepsBut (.pairs :: logParts) s u) ∧
    ((s.plait.hostReq ≠ 0 ∨ ∃ m ∈ maskPairs (hostMask s), pairOwned s m = true) → Answers (exec (.plSync o) s) fun u =>
      u.done = ⟨.busy, 0⟩ ∧ KeepsBut logParts s u)) ∧
  (Admits o ⟨.PAIR_CTRL, n.val, 0, 0⟩ (bitsWord ⟨.PAIR_CTRL, n.val, 0, 0⟩ 1 0 s) s → s.Canonical →
    Answers (exec (.pairEnable o n) s) fun u => u.done = ⟨.ok, 0⟩ ∧ (u.pairs[n]).en = true ∧
      ((s.pairs[n]).en = false →
        (u.pairs[n]).next = some (plaitCycle s + 1 + (s.pairs[n]).phase % (2 * (s.pairs[n]).period)) ∧
        u.plait.driven = true) ∧
      ((s.pairs[n]).en = true → u.pairs = s.pairs ∧ u.plait = s.plait) ∧ (u.pairs[n]).w = (s.pairs[n]).w ∧
      (∀ m : PairIx, m ≠ n → u.pairs[m] = s.pairs[m]) ∧
      (Nat.land s.plait.tripIn (tripMask s n) = 0 → KeepsBut (.pairs :: .plait :: .regs :: logParts) s u)) ∧
  (Admits o ⟨.PAIR_CTRL, n.val, 0, 0⟩ (bitsWord ⟨.PAIR_CTRL, n.val, 0, 0⟩ 0 1 s) s →
    Answers (exec (.pairDisable o n) s) fun u => u.done = ⟨.ok, 0⟩ ∧ (u.pairs[n]).en = false ∧ atSafe u n = true ∧
      (u.pairs[n]).latched = (s.pairs[n]).latched ∧ (u.pairs[n]).shW = (s.pairs[n]).shW ∧
      (∀ m : PairIx, m ≠ n → u.pairs[m] = s.pairs[m]) ∧ KeepsBut (.pairs :: .regs :: logParts) s u) ∧
  (Admits o ⟨.PAIR_CTRL, n.val, 0, 0⟩ (bitsWord ⟨.PAIR_CTRL, n.val, 0, 0⟩ 0x10000 0 s) s →
    ((s.pairs[n]).latched = true → Nat.land s.plait.tripIn (tripMask s n) ≠ 0 → Answers (exec (.pairClear o n) s) fun u =>
      u.done = ⟨.busy, 0⟩ ∧ u.pairs = s.pairs ∧ KeepsBut logParts s u) ∧
    ((s.pairs[n]).latched = true → Nat.land s.plait.tripIn (tripMask s n) = 0 → Answers (exec (.pairClear o n) s) fun u =>
      u.done = ⟨.ok, 0⟩ ∧ (u.pairs[n]).latched = false ∧ (u.pairs[n]).leaving = true ∧ (u.pairs[n]).tripIdx = [] ∧
      (u.pairs[n]).en = (s.pairs[n]).en ∧ (u.lash.srcs[srcOf (160 + n.val)]).active = false ∧
      (∀ m : PairIx, m ≠ n → u.pairs[m] = s.pairs[m]) ∧ KeepsBut (.pairs :: .lash :: .regs :: logParts) s u) ∧
    ((s.pairs[n]).latched = false → Answers (exec (.pairClear o n) s) fun u => u.done = ⟨.ok, 0⟩ ∧
      (u.pairs[n]).latched = false ∧ (u.pairs[n]).en = (s.pairs[n]).en ∧ (u.pairs[n]).tripIdx = (s.pairs[n]).tripIdx ∧
      (∀ m : PairIx, m ≠ n → u.pairs[m] = s.pairs[m]) ∧ KeepsBut (.pairs :: .regs :: logParts) s u)) ∧
  Answers (exec (.plaitCalibration ok trim) s) (fun u => u.plait.cals = (s.plait.cals + 1) % 2 ^ 16 ∧
    (ok = true → u.plait.trim = trim.toNat ∧ u.plait.calValid = true ∧ u.plait.calFail = s.plait.calFail ∧
      (u.lash.srcs[srcOf 4]).active = false ∧ KeepsBut [.plait, .lash] s u) ∧
    (ok = false → u.plait.trim = s.plait.trim ∧ u.plait.calFail = true ∧ u.plait.calValid = s.plait.calValid ∧
      (srcSeen (srcOf 4) s = true → (u.lash.srcs[srcOf 4]).latched = true) ∧ u.regs = s.regs ∧ u.mem = s.mem)) ∧
  Answers (exec (.tripAssert i t) s) (fun u => u.plait.tripIn / 2 ^ i.val % 2 = 1 ∧ u.plait.seen / 2 ^ i.val % 2 = 1 ∧
    (∀ m : PairIx, (s.pairs[m]).en = true → tripMask s m / 2 ^ i.val % 2 = 1 →
      (u.pairs[m]).trips = (if (s.pairs[m]).tripIdx.head? = some (s.pairs[m]).periods ∨
          (s.pairs[m]).counted = some (s.pairs[m]).periods then (s.pairs[m]).trips
        else satInc 0xFFFF (s.pairs[m]).trips) ∧ (u.pairs[m]).tripIdx.head? = some (s.pairs[m]).periods) ∧
    u.regs = s.regs ∧ u.mem = s.mem ∧ u.dies = s.dies) ∧
  Answers (exec (.tripRelease i t) s) (fun u => u.plait.tripIn / 2 ^ i.val % 2 = 0 ∧ u.plait.seen = s.plait.seen ∧
    (∀ m : PairIx, (u.pairs[m]).tripIdx = (s.pairs[m]).tripIdx ∧ (u.pairs[m]).sched = (s.pairs[m]).sched ∧
      ((s.pairs[m]).cut = none → u.pairs[m] = s.pairs[m])) ∧ KeepsBut [.pairs, .plait] s u)

/-- The outputs of a pair. A and B are never on together (R374); A is on from DT after the rise and B from DT after the
fall, while no trip of the period acts (R374), and a trip that has acted keeps A off for the rest of the period
(R387); the balls are high-impedance until CK_PLAIT first runs and in Foot-only (R380); a pair at its safe levels
whose dead times are over drives SAFE_A and SAFE_B as they stand (R377, R378, R379); a pair goes to its safe levels
with a wait of DT for the output that was not on (R379). -/
def Obligations.PlaitOutputs : Prop := ∀ (n : PairIx) (p : Pair) (x : Int) (s : State),
  ((p.outputs x).1 = false ∨ (p.outputs x).2 = false) ∧
  (p.cald = true → p.off = false → p.cut = none →
    (∀ r, p.sched.rise = some r → (p.outputs x).1 = true → p.origin + r + p.dt ≤ x) ∧
    (∀ f, p.sched.fall = some f → p.origin + f ≤ x → ((p.outputs x).2 = true ↔ p.origin + f + p.dt ≤ x))) ∧
  ((p.off = true ∨ ∃ c : Nat, p.cut = some c ∧ p.origin + c ≤ x) → (p.outputs x).1 = false) ∧
  ((s.plait.driven = false ∨ s.pwr.st = .foot) → pairPins s n x = none) ∧
  (s.plait.driven = true → s.pwr.st ≠ .foot → atSafe s n = true → (s.pairs[n]).safeFrom.1 ≤ x →
    (s.pairs[n]).safeFrom.2 ≤ x →
    pairPins s n x = some (bit (s.cfg1 .PAIR_CTRL n) 10, bit (s.cfg1 .PAIR_CTRL n) 11)) ∧
  (atSafe s n = false →
    ((pairOn s n (plaitFine s)).1 = true → ((pairOff n s).pairs[n]).safeFrom.2 = plaitFine s + (s.pairs[n]).dt) ∧
    ((pairOn s n (plaitFine s)).2 = true → ((pairOff n s).pairs[n]).safeFrom.1 = plaitFine s + (s.pairs[n]).dt))

/-! ## The wale fabric -/

/-- A wale port. EN starts training unless a hold-down runs, and clearing it takes the port DOWN (R398, R424, R425); a
port in TRAIN sends TRAIN words, another word ends the run of them, the 64th in a row begins the handshake, in which
the device sends its own messages and derives the link's keys, a failed one ends in AUTH_FAIL, and a good one with its
first TIME exchange brings the port UP (R397, R398, R399; the layout of a link frame is the model's choice, log entry
73); a cause of R424 takes it DOWN with its cause, its streams lose their slots, and the exit from UP is counted. ACK,
CREDIT, the fifth send and the round act on the channels and the stamps (R406, R407, R420); at a join the device steps
its time once, and from then on steers it (R420, R421).
Commands that complete here: walePortEnable, walePortDisable, train, authHello, authCert, authTimeout, timeRx,
authFailRetry, holdDownEnd, down, timeWordMissing, blockLockLoss, ack, credit, frameReplayTimeout, time, roundTimer. -/
def Obligations.WalePort : Prop := ∀ (o : Origin) (w : WaleIx) (pst pp cs : Byte) (serial key nonce n tm : Nat) (basket : Word)
    (cert : List Byte) (resp : Bool) (q r : Byte) (sq : Fin 65536) (s : State),
  (Admits o ⟨.PORT_CTRL, w.val, 0, 0⟩ (bitsWord ⟨.PORT_CTRL, w.val, 0, 0⟩ 1 0 (clearSent s)) (clearSent s) →
    (s.wport w).st = .down → s.Canonical →
    (noHoldDown s w = true → Answers (exec (.walePortEnable o w) s) fun t => t.done = ⟨.ok, 0⟩ ∧
      (t.wport w).st = .train ∧ (t.wport w).trains = 0 ∧ (1, [1, BitVec.ofNat 8 w.val, 0, 0, 0, 0]) ∈ (t.wport w).words ∧
      KeepsBut (.wale :: .regs :: logParts) s t) ∧
    (noHoldDown s w = false → Answers (exec (.walePortEnable o w) s) fun t => t.done = ⟨.ok, 0⟩ ∧
      (t.wport w).st = .down ∧ KeepsBut (.wale :: .regs :: logParts) s t)) ∧
  (Admits o ⟨.PORT_CTRL, w.val, 0, 0⟩ (bitsWord ⟨.PORT_CTRL, w.val, 0, 0⟩ 0 1 (clearSent s)) (clearSent s) →
    (s.wport w).st ≠ .down → Answers (exec (.walePortDisable o w) s) fun t => t.done = ⟨.ok, 0⟩ ∧
      (t.wport w).st = .down ∧ (t.wport w).cause = 6) ∧
  ((s.wport w).st = .train →
    ((s.wport w).trains + 1 < 64 → Answers (exec (.train w ⟨pst, pp⟩) s) fun t => t.wport w =
      { s.wport w with
        lock := true, peerState := pst.toNat, peerPort := pp.toNat, trains := (s.wport w).trains + 1, sent := []
        words := [(1, [1, BitVec.ofNat 8 w.val, 0, 0, 0, 0])] } ∧ KeepsBut [.wale] s t) ∧
    (64 ≤ (s.wport w).trains + 1 → s.lid.rngFail = false → Answers (exec (.train w ⟨pst, pp⟩) s) fun t =>
      (t.wport w).st = .auth ∧ (t.wport w).session = (s.wport w).session + 1 ∧ (t.wport w).hello = none ∧
      (t.wport w).authed = false ∧ (t.wport w).sent = [linkFrame 1 (ownHello t w)] ∧ KeepsBut [.wale, .freeCtr, .skein, .cane] s t)) ∧
  ((s.wport w).st = .auth →
    (Answers (exec (.authHello w serial basket key nonce) s) fun t =>
      ((t.wport w).st = .auth ∧ (t.wport w).hello = some ⟨serial, basket, key, nonce⟩) ∧
      (t.wport w).sent = [linkFrame 2 (beBytes 256 (Config.otpKey 3) ++
        beBytes 96 (Config.signature s.freeCtr (helloDigest s w ⟨serial, basket, key, nonce⟩)))] ∧
      KeepsBut [.wale, .freeCtr] s t) ∧
    (∀ h, (s.wport w).hello = some h →
      (certValid cert h.serial = true → Config.verifies (beNat ((cert.drop 0x10).take 97)) (helloDigest s w h) n = true →
        h.basket = s.cfg0 .BASKET_ID → Answers (exec (.authCert w cert n) s) fun t => (t.wport w).authed = true ∧
          (t.wport w).peerSerial = h.serial ∧ (t.wport w).st = .auth ∧ (t.wport w).low = decide (s.serial ≤ h.serial) ∧
          (if s.serial ≤ h.serial then ((t.wport w).keyTx, (t.wport w).keyRx) else ((t.wport w).keyRx, (t.wport w).keyTx)) =
            linkKeys s w h ∧ (t.wport w).ctrTx = 0 ∧ (t.wport w).ctrRx = 0 ∧ KeepsBut [.wale] s t) ∧
      ((certValid cert h.serial = false ∨ h.basket ≠ s.cfg0 .BASKET_ID) → Answers (exec (.authCert w cert n) s) fun t =>
        (t.wport w).st = .authFail ∧ KeepsBut [.wale, .skein, .cane] s t)) ∧
    ((s.wport w).authed = false → Answers (exec (.authTimeout w) s) fun t => (t.wport w).st = .authFail ∧
      KeepsBut [.wale, .skein, .cane] s t) ∧
    (∀ t1 t3 t4, (s.wport w).authed = true → (s.wport w).t1 = some t1 → (s.wport w).t3 = some t3 →
      (s.wport w).t4 = some t4 → Answers (exec (.timeRx w tm) s) fun t => (t.wport w).st = .up)) ∧
  ((s.wport w).st = .authFail → portEn s w = true → Answers (exec (.authFailRetry w) s) fun t =>
    (t.wport w).st = .train ∧ (t.wport w).trains = 0 ∧ KeepsBut [.wale, .skein, .cane] s t) ∧
  ((s.wport w).st = .down → portEn s w = true → noHoldDown s w = true → Answers (exec (.holdDownEnd w) s) fun t =>
    (t.wport w).st = .train ∧ KeepsBut [.wale, .skein, .cane] s t) ∧
  (∀ p ∈ [(Instr.down ⟨w, cs⟩, 5), (.timeWordMissing w, 3), (.blockLockLoss w true n, 1)], (s.wport w).st = .up →
    Answers (exec p.1 s) fun t => (t.wport w).st = .down ∧ (t.wport w).cause = p.2 ∧ (t.wport w).lastUp = some s.time.ft ∧
      (t.wport w).downs = satInc 0xFFFF (s.wport w).downs ∧ (t.wport w).peerSerial = 0 ∧ (t.wport w).keyTx = 0 ∧
      (7, [BitVec.ofNat 8 p.2, 0, 0, 0, 0, 0]) ∈ (t.wport w).words ∧
      (∀ h ∈ t.wale.hops, h.uses w = false) ∧ t.regs = s.regs ∧ t.mem = s.mem) ∧
  (Answers (exec (.down ⟨w, cs⟩) s) fun t => (t.wport w).peerCause = cs.toNat) ∧
  (n < 16 → Answers (exec (.blockLockLoss w false n) s) fun t => (t.wport w).st = (s.wport w).st ∧
    (t.wport w).blkErr = satAdd 0xFFFF n (s.wport w).blkErr ∧ KeepsBut [.wale] s t) ∧
  (Answers (exec (.ack w resp sq) s) fun t =>
    ((t.wport w).chan resp).unacked = ((s.wport w).chan resp).unacked.filter (fun u => !seqUpTo u.seq sq.val) ∧
    ((t.wport w).chan resp).queue = ((s.wport w).chan resp).queue ∧ (t.wport w).st = (s.wport w).st ∧
    (t.wport w).trains = 0 ∧ KeepsBut [.wale] s t) ∧
  (Answers (exec (.credit w q r) s) fun t => (((s.wport w).chan false).queue = [] → ((s.wport w).chan true).queue = [] →
    ((t.wport w).chan false).credits = min 16 (((s.wport w).chan false).credits + q.toNat) ∧
    ((t.wport w).chan true).credits = min 16 (((s.wport w).chan true).credits + r.toNat)) ∧ KeepsBut [.wale] s t) ∧
  ((s.wport w).st = .up → ((s.wport w).chan resp).unacked ≠ [] →
    ((∃ u ∈ ((s.wport w).chan resp).unacked, 4 ≤ u.sends) → Answers (exec (.frameReplayTimeout w resp) s) fun t =>
      (t.wport w).st = .down ∧ (t.wport w).cause = 4) ∧
    ((∀ u ∈ ((s.wport w).chan resp).unacked, u.sends < 4) → Answers (exec (.frameReplayTimeout w resp) s) fun t =>
      (t.wport w).st = .up ∧ ((t.wport w).chan resp).unacked = ((s.wport w).chan resp).unacked.map (fun u =>
        { u with sends := u.sends + 1 }) ∧
      (t.wport w).resends = satAdd 0xFFFF ((s.wport w).chan resp).unacked.length (s.wport w).resends ∧
      (t.wport w).sent.length = ((s.wport w).chan resp).unacked.length)) ∧
  (Answers (exec (.time w tm) s) fun t => (t.wport w).t3 = some tm ∧ (t.wport w).t4 = some (s.fab % 2 ^ 48) ∧
    (t.wport w).lastTime = s.time.ft ∧ (t.wport w).trains = 0 ∧ KeepsBut [.wale] s t) ∧
  (Answers (exec .roundTimer s) fun t =>
    (∀ v : WaleIx, (s.wport v).st = .up → (t.wport v).t1 = some (s.fab % 2 ^ 48) ∧
      (4, leBytes 6 s.fab) ∈ (t.wport v).words ∧
      (∀ x, (s.wport v).t4 = some x → (5, leBytes 6 x) ∈ (t.wport v).words)) ∧
    (∀ h ∈ t.wale.hops, h.frames = 0) ∧ KeepsBut [.wale] s t) ∧
  (∀ t1 t3 t4 off, (s.wport w).st = .up → s.wale.upPort = w.val → (s.wport w).t1 = some t1 → (s.wport w).t3 = some t3 →
    (s.wport w).t4 = some t4 → off = 50 * (diff48 tm t1 - diff48 t4 t3) - sfld (s.cfg1 .PORT_CTRL w) 31 16 →
    (s.wale.joined = true → Answers (exec (.timeRx w tm) s) fun t => t.wale.offset = off ∧ t.wale.freqLock = true ∧
      t.wale.steps = s.wale.steps ∧ t.time = { s.time with off := if 0 ≤ off then s.time.off + off / 100 else s.time.off } ∧
      KeepsBut [.wale, .time] s t) ∧
    (s.wale.joined = false → Answers (exec (.timeRx w tm) s) fun t => t.wale.offset = off ∧ t.wale.joined = true ∧
      t.wale.steps = satInc 0xFF s.wale.steps ∧ t.time = { s.time with off := s.time.off + off / 100 } ∧
      (∀ e : EpIx, (t.wale.eps[e]).lock = none) ∧
      (∀ k : DieIx, ∀ m T, (s.dies[k]).armed = some (m, T) → T ≤ t.fab →
        (t.dies[k]).armed = none ∧ (t.dies[k]).missed = true) ∧ t.regs = s.regs ∧ t.mem = s.mem))

/-- Frames and transactions. A frame that the link does not take changes nothing beyond its counters, and one whose zero
bits are not zero sets A2 (R402, R407, R432; A2 for those bits is the model's reading, log entry 152). This device
serves a request once, keeps its response for a repetition (R434), and gives the access the origin of R404; a request
for another device goes on with one hop less (R418). A response with any code but TIMEOUT ends its transaction, one
with TIMEOUT and 5 ms without one begin the backoff, and the ninth attempt is the last; a request that is no
transaction is sent once (R433; which requests these are is the model's reading, log entry 80). A stream frame with an
unknown tag is discarded and counted (R432), a frame of a reserved TYPE is a block error and one of another type no
stream frame (R400).
Commands that complete here: waleRegisterRead, waleRegisterWrite, waleMessage, waleBulkWrite, responseFrameRx,
txnAttemptTimeout, txnRetry, streamFrameRx, streamFrameTx. -/
def Obligations.WaleFrames : Prop := ∀ (w v : WaleIx) (h : WaleHdr) (a value : Word) (data : List Byte) (code : Byte)
    (n : Nat) (k : DieIx) (i : StrandIx) (s : State),
  (∀ p ∈ [(Instr.waleRegisterRead w h a, [1, 0, 0, 0] ++ wordBytes a),
      (.waleRegisterWrite w h a value, [2, 0, 0, 0] ++ wordBytes a ++ wordBytes value),
      (.waleMessage w h data, [3, 0, 0, 0] ++ data), (.waleBulkWrite w h a data, [4, 0, 0, 0] ++ wordBytes a ++ data)],
    ((s.wport w).st ≠ .up → exec p.1 s = .next (clearSent s)) ∧
    ((s.wport w).st = .up → h.zeros ≠ 0 → Answers (exec p.1 s) fun t => t.wale.a2 = true ∧
      (t.wport w).tagFail = satInc 0xFFFF (s.wport w).tagFail ∧ (t.wport w).req = (s.wport w).req ∧
      t.regs = s.regs ∧ t.mem = s.mem ∧ t.done = s.done ∧ t.dies = s.dies) ∧
    ((s.wport w).st = .up → h.zeros = 0 → p.2.length ≤ 256 → frameOk s w (frameOf h false p.2) h.seq.val h.tag = false →
      exec p.1 s = .next ((clearSent s).modWport w fun x =>
        { x with tagFail := satInc 0xFFFF x.tagFail, ctrRx := x.ctrRx + 1 })) ∧
    ((s.wport w).st = .up → h.zeros = 0 → p.2.length ≤ 256 → frameOk s w (frameOf h false p.2) h.seq.val h.tag = true →
      h.seq.val ≠ ((s.wport w).chan false).seqRx → exec p.1 s = .next ((clearSent s).modWport w fun x =>
        { x with ctrRx := x.ctrRx + 1 })) ∧
    (LinkTakes w h false p.2 s → h.dst.val = s.wale.addr → h.dst.val ≠ 63 → ∀ r,
      keptFor (linkTaken w h false s) (portFrame w h false p.2) = some r →
      exec p.1 s = .next (answer (portFrame w h false p.2) r.payload (linkTaken w h false s))) ∧
    (Serves w h p.2 s → h.host = true → h.src.val ≠ 0 → Answers (exec p.1 s) fun t => t.done = s.done ∧
      t.wale.kept.getLast? = some ⟨h.src.val, h.txn.val, codeBytes .accessDenied [], s.time.ft⟩ ∧ KeepsBut [.wale] s t) ∧
    (LinkTakes w h false p.2 s → h.dst.val ≠ s.wale.addr → h.dst.val ≠ 63 → 1 < h.hops.val →
      routePort s h.dst.val = some v → Answers (exec p.1 s) fun t =>
        Outgoing t v { portFrame w h false p.2 with hops := h.hops.val - 1 } ∧ KeepsBut [.wale] s t)) ∧
  (Serves w h ([1, 0, 0, 0] ++ wordBytes a) s → (h.host = true → h.src.val = 0) →
    ∀ r, readAt (frameOrigin (portFrame w h false ([1, 0, 0, 0] ++ wordBytes a))) 4 a (linkTaken w h false s) = r →
    Answers (exec (.waleRegisterRead w h a) s) fun t => t.done = ⟨r.1, r.2.1⟩ ∧
      t.wale.kept.getLast? = some ⟨h.src.val, h.txn.val,
        (if r.1 = .ok then codeBytes .ok (wordBytes r.2.1) else codeBytes r.1 []), r.2.2.time.ft⟩ ∧
      KeepsBut [.done, .wale] r.2.2 t) ∧
  (Serves w h ([2, 0, 0, 0] ++ wordBytes a ++ wordBytes value) s → (h.host = true → h.src.val = 0) →
    ∀ r, writeAt (frameOrigin (portFrame w h false ([2, 0, 0, 0] ++ wordBytes a ++ wordBytes value))) 4 a value
      (linkTaken w h false s) = r →
    Answers (exec (.waleRegisterWrite w h a value) s) fun t => t.done = ⟨r.1, 0⟩ ∧ KeepsBut (.wale :: logParts) r.2 t) ∧
  (Serves w h ([3, 0, 0, 0] ++ data) s → (h.host = true → h.src.val = 0) → Answers (exec (.waleMessage w h data) s) fun t =>
    (∀ g, boundImage s k i = some g → (s.strand k i).st ≠ .stopped → ∀ (r : Fin 4) x, g.res[r.val]? = some x → x.kind = 2 →
      x.ep = h.dstEp.val → ((t.prog k i).msg[r]) = data ∧ ((t.prog k i).msgNew[r]) = true) ∧
    KeepsBut [.wale, .dies] s t) ∧
  (Serves w h ([4, 0, 0, 0] ++ wordBytes a ++ data) s → (h.host = true → h.src.val = 0) →
    ∀ r, bulkWrite (frameOrigin (portFrame w h false ([4, 0, 0, 0] ++ wordBytes a ++ data))) a.toNat data 0
      (linkTaken w h false s) = r →
    Answers (exec (.waleBulkWrite w h a data) s) fun t => t.done = ⟨r.1, 0⟩ ∧ KeepsBut (.wale :: logParts) r.2.2 t) ∧
  (∀ t0, LinkTakes w h true (code :: data) s → h.dst.val = s.wale.addr → findTxn s h.txn.val h.src.val = some t0 →
    (codeOf code.toNat ≠ .timeout → Answers (exec (.responseFrameRx w h code data) s) fun t =>
      (t0.owner ≠ .device → t0 ∉ t.wale.txns) ∧ (∀ tag : Fin 16, t0.owner = .cane tag → ∃ r, (t.cane.tags[tag]).ready = some r ∧ r.code = codeOf code.toNat)) ∧
    (codeOf code.toNat = .timeout → isTransaction t0.f = true → t0.waiting = false → t0.attempts < 9 →
      Answers (exec (.responseFrameRx w h code data) s) fun t =>
        { t0 with waiting := true, since := s.time.ft } ∈ t.wale.txns ∧ KeepsBut [.wale] s t)) ∧
  (∀ (x : Fin 65536) (d : Fin 64) t0, findTxn s x.val d.val = some t0 →
    (isTransaction t0.f = true → t0.waiting = false → t0.attempts < 9 → Answers (exec (.txnAttemptTimeout x d) s) fun t =>
      { t0 with waiting := true, since := s.time.ft } ∈ t.wale.txns ∧ t.wale.txnTimeout = s.wale.txnTimeout ∧
      KeepsBut [.wale] s t) ∧
    (isTransaction t0.f = false → t0.waiting = false → t0.owner ≠ .device → Answers (exec (.txnAttemptTimeout x d) s) fun t =>
      t0 ∉ t.wale.txns ∧ t.wale.txnTimeout = s.wale.txnTimeout) ∧
    (isTransaction t0.f = true → t0.waiting = false → 9 ≤ t0.attempts → (∀ tag, t0.owner = .cane tag → Answers (exec (.txnAttemptTimeout x d) s) fun t =>
      t0 ∉ t.wale.txns ∧ t.wale.txnTimeout = satInc 0xFFFF s.wale.txnTimeout ∧
      ∃ r, (t.cane.tags[tag]).ready = some r ∧ r.code = .timeout)) ∧
    (t0.waiting = true → ∀ u, routePort s t0.f.dst = some u → Answers (exec (.txnRetry x d) s) fun t =>
      { t0 with waiting := false, attempts := t0.attempts + 1, since := s.time.ft } ∈ t.wale.txns ∧
      t.wale.retries = satInc 0xFFFF s.wale.retries ∧ Outgoing t u t0.f ∧ KeepsBut [.wale] s t)) ∧
  (5 ≤ field data 0 1 / 16 → exec (.streamFrameRx w data n) s = .next ((clearSent s).modWport w fun x =>
    { x with blkErr := satInc 0xFFFF x.blkErr })) ∧
  (field data 0 1 / 16 < 5 → field data 0 1 / 16 ≠ 1 → exec (.streamFrameRx w data n) s = .next (clearSent s)) ∧
  ((s.wport w).st = .up → field data 0 1 / 16 = 1 →
    ((s.wale.hops.find? fun x => x.inPort == some (w.val, field data 1 1)) = none →
      Answers (exec (.streamFrameRx w data n) s) fun t => t.wale.policed = satInc 0xFF s.wale.policed ∧ t.wale.a4 = true ∧
        (∀ e : EpIx, t.wale.eps[e] = s.wale.eps[e]) ∧ t.regs = s.regs ∧ t.mem = s.mem) ∧
    (∀ x p tag, (s.wale.hops.find? fun x => x.inPort == some (w.val, field data 1 1)) = some x →
      x.admits data.length = true → x.outPort = some (p, tag) →
      data.length = (if field data 0 1 / 8 % 2 = 1 then 199 else 263) → Answers (exec (.streamFrameRx w data n) s) fun t =>
        (∃ l, (t.wport (Fin.ofNat 8 p)).sent = [l] ∧ l.length = data.length ∧ l.take 1 = data.take 1 ∧
          l[1]? = some (BitVec.ofNat 8 tag)) ∧
        (2 ≤ n → t.wale.contend = true) ∧ KeepsBut [.wale] s t)) ∧
  (∀ b rest, (s.strand k i).toGate = b :: rest → outKind s k i = 2 → (s.ep (outEp s k i)).st = .admitted →
    ∀ x p tag, (s.wale.hops.find? fun x => x.inPort.isNone && x.srcEp == outEp s k i && x.admitted) = some x →
    x.outPort = some (p, tag) → Answers (exec (.streamFrameTx k i n) s) fun t => (t.strand k i).toGate = rest ∧
      (∃ xs, (t.wport (Fin.ofNat 8 p)).sent = [streamBytes (bit (s.cfg1 .EP_CFG (outEp s k i)) 4) b.valid tag
        (s.fab - samplesNs (rdlH s k i) 64) xs] ∧
        ((s.strand k i).gate = 0 → muteBits s k i ≠ 0 → xs = List.replicate 64 Cx.zero)) ∧
      KeepsBut [.dies, .wale, .freeCtr] s t ∧ OtherDies k s t)

/-- Streams, the root and its routes. An admission at a source endpoint ends with the first failing cause, or reserves its
slots and asks the next hop; a sink that finds its checks met is ADMITTED with the source (R410); a release frees the
slots (R410); no answer within 2 ms ends the admission with FAULT 7 and sends a Release (the Release is the model's
reading, log entry 140); a request with HOST from another device than the root is denied (R404); a broken stream is
admitted again (R427). A better claim is taken and passed on, and the loss of the root's Cane link followed where the
up port tells it (R415; the port is the model's choice, log entry 81), a probe gives the address and the level (R416),
a table load the routes unless the host's are in force (R418, R419); a link event makes the root discover again
(R426), and a partition that has lost its root chooses its own (R427).
Commands that complete here: epAdmit, readmit, epRelease, admissionTimeout, admissionAnswer, admissionRequest,
releaseRequest, discoveryClaim, discoveryProbe, routeTableLoad, linkEvent, rediscover, routeCommit, rootLossTimeout. -/
def Obligations.StreamsAndRoutes : Prop := ∀ (o : Origin) (e : EpIx) (w p : WaleIx) (h : WaleHdr) (half cane : Bool)
    (block : Fin 8) (tag tree : Byte) (hops addr level : Fin 64) (serial route : Nat) (fault : Fin 16) (version : Word)
    (codes : List Byte) (st : Fin 5) (s : State),
  (∀ c, s.cfg1 .EP_CFG e.val = c → (s.ep e.val).asked = none →
    ∀ x ∈ [(true, exec (.epAdmit o e) s), (false, exec (.readmit e) s)],
      (x.1 = true → Admits o ⟨.EP_CTRL, e.val, 0, 0⟩ 0x80000000 (clearSent s)) →
      (x.1 = false → (s.ep e.val).st = .broken ∧ (s.ep e.val).reroute = true) →
      (fld c 1 0 ≠ 1 ∨ (s.ep e.val).st = .admitted → Answers x.2 fun t => (t.ep e.val).fault = 1 ∧
        (t.ep e.val).st = (s.ep e.val).st ∧ (t.ep e.val).asked = none ∧
        (∀ g ∈ s.wale.hops, g.inPort = none ∧ g.srcEp = e.val ∧ g.admitted = false ∨ g ∈ t.wale.hops) ∧
        t.regs = s.regs ∧ t.mem = s.mem) ∧
      (fld c 1 0 = 1 → (s.ep e.val).st ≠ .admitted → fld c 21 16 = s.wale.addr → fld c 21 16 ≠ 63 →
        sinkFault s (fld c 31 24) s.wale.addr e.val (bit c 4) (fld c 10 8) (dRoute (fld c 10 8) 0 (bit c 4)) = 0 →
        fld c 31 24 ≠ e.val → Answers x.2 fun t =>
          (t.ep e.val).st = .admitted ∧ (t.ep (fld c 31 24)).st = .admitted ∧ (t.ep e.val).fault = 0 ∧
          (t.ep e.val).asked = none ∧ (t.ep e.val).hops = 0 ∧
          (∃ g ∈ t.wale.hops, g.srcEp = e.val ∧ g.sinkEp = fld c 31 24 ∧ g.admitted = true) ∧ t.regs = s.regs) ∧
      (fld c 1 0 = 1 → (s.ep e.val).st ≠ .admitted → fld c 21 16 ≠ s.wale.addr → fld c 21 16 ≠ 63 →
        routePort s (fld c 21 16) = some p →
        (128 < slotsUsed s p + slotsOf (fld c 10 8) (bit c 4) → Answers x.2 fun t => (t.ep e.val).fault = 4 ∧
          (t.ep e.val).asked = none ∧ (t.ep e.val).st = (s.ep e.val).st) ∧
        (slotsUsed s p + slotsOf (fld c 10 8) (bit c 4) ≤ 128 → Answers x.2 fun t =>
          (t.ep e.val).asked = some s.time.ft ∧ (t.ep e.val).st = (s.ep e.val).st ∧
          (∃ g ∈ t.wale.hops, g.srcEp = e.val ∧ g.inPort = none ∧ g.outPort = some (p.val, freeTag s p) ∧
            g.slots = slotsOf (fld c 10 8) (bit c 4) ∧ g.admitted = false) ∧ t.regs = s.regs))) ∧
  (Admits o ⟨.EP_CTRL, e.val, 0, 0⟩ 0x40000000 (clearSent s) →
    ((s.ep e.val).st = .idle → Answers (exec (.epRelease o e) s) fun t => t.done = ⟨.ok, 0⟩ ∧ t.wale.eps = s.wale.eps) ∧
    ((s.ep e.val).st = .broken → Answers (exec (.epRelease o e) s) fun t => t.done = ⟨.ok, 0⟩ ∧
      t.ep e.val = { s.ep e.val with st := .idle, reroute := false } ∧ KeepsBut (.wale :: logParts) s t) ∧
    ((s.ep e.val).st = .admitted → Answers (exec (.epRelease o e) s) fun t => t.done = ⟨.ok, 0⟩ ∧
      (t.ep e.val).st = .idle ∧ (∀ g ∈ t.wale.hops, ¬(g.inPort = none ∧ g.srcEp = e.val)) ∧
      KeepsBut (.wale :: logParts) s t)) ∧
  ((s.ep e.val).asked ≠ none → Answers (exec (.admissionTimeout e) s) fun t => (t.ep e.val).fault = 7 ∧
    (t.ep e.val).asked = none ∧ (t.ep e.val).st = (s.ep e.val).st ∧
    (∀ g ∈ t.wale.hops, ¬(g.inPort = none ∧ g.srcEp = e.val ∧ g.admitted = false)) ∧
    (∀ g ∈ s.wale.hops, ∀ u tg v, g.inPort = none → g.srcEp = e.val → g.admitted = false → g.outPort = some (u, tg) →
      routePort s (fld (s.cfg1 .EP_CFG e.val) 21 16) = some v →
      ∃ y, y.payload = [0x11, BitVec.ofNat 8 tg] ∧ y.dst = fld (s.cfg1 .EP_CFG e.val) 21 16 ∧ Outgoing t v y) ∧ KeepsBut [.wale, .skein, .cane] s t) ∧
  (∀ d t0, d = codeBytes .ok (if fault = 0 then [0] ++ leBytes 4 route ++ [tag] else [BitVec.ofNat 8 fault.val]) →
    LinkTakes w h true d s → h.dst.val = s.wale.addr → findTxn s h.txn.val h.src.val = some t0 → t0.owner = .device →
    field t0.f.payload 0 1 = 0x10 → t0.f.srcEp = e.val → (s.ep e.val).asked ≠ none →
    (fault = 0 → route < 2 ^ 32 → Answers (exec (.admissionAnswer w h fault route tag) s) fun t =>
      (t.ep e.val).st = .admitted ∧ (t.ep e.val).dRoute = route ∧ (t.ep e.val).fault = 0 ∧ (t.ep e.val).asked = none ∧
      (∀ g ∈ t.wale.hops, g.inPort = none → g.srcEp = e.val → g.admitted = true) ∧ t.regs = s.regs) ∧
    (fault ≠ 0 → Answers (exec (.admissionAnswer w h fault route tag) s) fun t =>
      (t.ep e.val).st = (s.ep e.val).st ∧ (t.ep e.val).fault = fault.val ∧
      (∀ g ∈ t.wale.hops, ¬(g.inPort = none ∧ g.srcEp = e.val ∧ g.admitted = false)) ∧ t.regs = s.regs)) ∧
  (Serves w h [0x10, BitVec.ofNat 8 (b2n half), BitVec.ofNat 8 block.val, tag, BitVec.ofNat 8 hops.val] s →
    (h.host = true → h.src.val = 0) → ∀ f, sinkFault s h.dstEp.val h.src.val h.srcEp.val half block.val (dRoute block.val hops.val half) = f →
    (f = 0 → Answers (exec (.admissionRequest w h half block tag hops) s) fun t => (t.ep h.dstEp.val).st = .admitted ∧
      (t.ep h.dstEp.val).hops = hops.val ∧ (∃ g ∈ t.wale.hops, g.inPort = some (w.val, tag.toNat) ∧ g.outPort = none ∧
        g.sinkEp = h.dstEp.val ∧ g.admitted = true) ∧ KeepsBut [.wale] s t) ∧
    (f ≠ 0 → Answers (exec (.admissionRequest w h half block tag hops) s) fun t => t.wale.eps = s.wale.eps ∧
      t.wale.hops = s.wale.hops ∧ t.wale.kept = s.wale.kept ∧ (∀ u, routePort s h.src.val = some u →
        Outgoing t u ⟨true, h.src.val, s.wale.addr, false, 63, h.srcEp.val, h.dstEp.val, h.txn.val,
          codeBytes .ok [BitVec.ofNat 8 f], 8⟩) ∧ KeepsBut [.wale] s t)) ∧
  (LinkTakes w h false [0x10, BitVec.ofNat 8 (b2n half), BitVec.ofNat 8 block.val, tag, BitVec.ofNat 8 hops.val] s →
    (h.host = true → h.src.val = 0) → h.dst.val ≠ s.wale.addr → routePort s h.dst.val = some p → slotsUsed s p + slotsOf block.val half ≤ 128 → 1 < h.hops.val →
    Answers (exec (.admissionRequest w h half block tag hops) s) fun t =>
      (∃ g ∈ t.wale.hops, g.inPort = some (w.val, tag.toNat) ∧ g.outPort = some (p.val, freeTag s p) ∧
        g.slots = slotsOf block.val half ∧ g.admitted = false) ∧ t.wale.eps = s.wale.eps ∧ KeepsBut [.wale] s t) ∧
  (LinkTakes w h false [0x11, tag] s → (h.host = true → h.src.val = 0) → ∀ g, (s.wale.hops.find? fun g => g.inPort == some (w.val, tag.toNat)) = some g →
    Answers (exec (.releaseRequest w h tag) s) fun t =>
      (∀ g' ∈ t.wale.hops, g'.inPort ≠ some (w.val, tag.toNat)) ∧
      (g.outPort = none → (t.ep g.sinkEp).st = .idle) ∧ (g.outPort ≠ none → t.wale.eps = s.wale.eps) ∧
      KeepsBut [.wale] s t) ∧
  (LinkTakes w h false ([0x20] ++ leBytes 8 serial ++ [BitVec.ofNat 8 (b2n cane), BitVec.ofNat 8 level.val]) s → (h.host = true → h.src.val = 0) →
    ((⟨serial, cane, level.val + 1⟩ : RootView).better (rootView s) = true →
      Answers (exec (.discoveryClaim w h serial cane level) s) fun t => t.wale.root = ⟨serial, cane, level.val + 1⟩ ∧
        (t.wport w).peerLevel = level.val ∧ t.wale.addr = s.wale.addr ∧ t.regs = s.regs ∧ t.mem = s.mem) ∧
    ((⟨serial, cane, level.val + 1⟩ : RootView).better (rootView s) = false →
      (serial ≠ (rootView s).serial ∨ cane = true ∨ w.val ≠ s.wale.upPort) →
      ((s.wport w).peerLevel = level.val ∨ bit (s.cfg0 .WALE_CTRL) 1 = false) → Answers (exec (.discoveryClaim w h serial cane level) s) fun t => t.wale.root = s.wale.root ∧
        (t.wport w).peerLevel = level.val ∧ KeepsBut [.wale] s t) ∧
    (serial = (rootView s).serial → (rootView s).cane = true → cane = false → w.val = s.wale.upPort →
      (ownView s).better ⟨serial, false, level.val + 1⟩ = false →
      Answers (exec (.discoveryClaim w h serial cane level) s) fun t => t.wale.root = ⟨serial, false, level.val + 1⟩)) ∧
  (LinkTakes w h false [0x21, BitVec.ofNat 8 addr.val, BitVec.ofNat 8 level.val, tree] s → (h.host = true → h.src.val = 0) → h.dst.val = 63 →
    (tree.toNat < 8 → Answers (exec (.discoveryProbe w h addr level tree) s) fun t => t.wale.addr = addr.val ∧
      t.wale.level = level.val ∧ t.wale.upPort = w.val ∧ (t.wport w).tree = true ∧
      (addr.val ≠ 63 → t.wale.unaddressed = false) ∧ (addr.val = 63 → t.wale.unaddressed = true) ∧
      t.regs = s.regs ∧ t.mem = s.mem) ∧
    (8 ≤ tree.toNat → Answers (exec (.discoveryProbe w h addr level tree) s) fun t => t.wale.addr = s.wale.addr ∧
      t.wale.level = s.wale.level ∧ KeepsBut [.wale] s t)) ∧
  (LinkTakes w h false ([0x22] ++ wordBytes version ++ codes) s → (h.host = true → h.src.val = 0) → h.dst.val = 63 →
    Answers (exec (.routeTableLoad w h version codes) s) fun t =>
      (bit (s.cfg0 .WALE_CTRL) 1 = false → t.wale.version = version.toNat % 65536 ∧
        ∀ d : Fin 64, (t.wale.routes)[d] = (match codes[d.val]? with | some c => c.toNat | none => 15)) ∧
      (bit (s.cfg0 .WALE_CTRL) 1 = true → t.wale.routes = s.wale.routes ∧ t.wale.version = s.wale.version) ∧
      KeepsBut [.wale] s t) ∧
  (Serves w h ([0x23, BitVec.ofNat 8 p.val, BitVec.ofNat 8 st.val] ++ leBytes 8 serial) s → (h.host = true → h.src.val = 0) →
    (isRoot s = false → Answers (exec (.linkEvent w h p st serial) s) fun t => t.wale.found = s.wale.found ∧
      t.wale.routes = s.wale.routes ∧ KeepsBut [.wale] s t) ∧
    (isRoot s = true → Answers (exec (.linkEvent w h p st serial) s) fun t => t.wale.addr = 0 ∧ t.wale.level = 0 ∧
      (∃ ups, t.wale.found = [⟨0, s.serial, 0, 0, 15, ups⟩]) ∧ t.wale.edges = [] ∧
      (∀ u, (upPorts s).head? = some u → t.wale.probing = some (0, u.val)) ∧ t.regs = s.regs ∧ t.mem = s.mem)) ∧
  (Admits o ⟨.WALE_CTRL, 0, 0, 0⟩ (bitsWord ⟨.WALE_CTRL, 0, 0, 0⟩ 1 0 (clearSent s)) (clearSent s) → isRoot s = true →
    Answers (exec (.rediscover o) s) fun t => t.done = ⟨.ok, 0⟩ ∧ t.wale.addr = 0 ∧ t.wale.level = 0 ∧
      (∃ ups, t.wale.found = [⟨0, s.serial, 0, 0, 15, ups⟩]) ∧
      (∀ u, (upPorts s).head? = some u → t.wale.probing = some (0, u.val)) ∧
      (upPorts s = [] → t.wale.probing = none ∧ t.wale.version = (s.wale.version + 1) % 65536)) ∧
  (Admits o ⟨.ROUTE_CMD, 0, 0, 0⟩ 1 (clearSent s) → bit (s.cfg0 .WALE_CTRL) 1 = true →
    (Config.routesLegal s.wale.hostRoutes.toList (neighbourLevels s) = true → Answers (exec (.routeCommit o) s) fun t =>
      t.done = ⟨.ok, 0⟩ ∧ t.wale.routes = s.wale.hostRoutes ∧ t.wale.version = (s.wale.version + 1) % 65536 ∧
      KeepsBut (.wale :: logParts) s t) ∧
    (Config.routesLegal s.wale.hostRoutes.toList (neighbourLevels s) = false → Answers (exec (.routeCommit o) s) fun t =>
      t.done = ⟨.badProgram, 0⟩ ∧ t.wale.routes = s.wale.routes ∧ KeepsBut (.wale :: logParts) s t)) ∧
  (∀ x ∈ [(Instr.admissionRequest w h half block tag hops,
        [0x10, BitVec.ofNat 8 (b2n half), BitVec.ofNat 8 block.val, tag, BitVec.ofNat 8 hops.val]),
      (.releaseRequest w h tag, [0x11, tag]), (.discoveryClaim w h serial cane level,
        [0x20] ++ leBytes 8 serial ++ [BitVec.ofNat 8 (b2n cane), BitVec.ofNat 8 level.val]),
      (.discoveryProbe w h addr level tree, [0x21, BitVec.ofNat 8 addr.val, BitVec.ofNat 8 level.val, tree]),
      (.routeTableLoad w h version codes, [0x22] ++ wordBytes version ++ codes),
      (.linkEvent w h p st serial, [0x23, BitVec.ofNat 8 p.val, BitVec.ofNat 8 st.val] ++ leBytes 8 serial)],
    LinkTakes w h false x.2 s → h.host = true → h.src.val ≠ 0 →
      exec x.1 s = .next (answer (portFrame w h false x.2) (codeBytes .accessDenied []) (linkTaken w h false s))) ∧
  (s.wale.rootLost ≠ none → Answers (exec .rootLossTimeout s) fun t => t.wale.root.serial = s.serial ∧ t.wale.addr = 0 ∧
    t.wale.level = 0 ∧ t.wale.rootLost = none ∧ t.regs = s.regs ∧ t.mem = s.mem)

/-! ## The Cane host link -/

/-- The Cane link. Its states follow nudges, synchronisation, HELLO, QUIET and the 10 ms of training (R452, R453, R454,
R457, R458, R461). A request of a BUSY tag is not carried out, a retry of a DONE one sends the kept response again,
and any other makes its tag BUSY and is carried out (R455): as an access of origin host here, or forwarded as a wale
transaction with TXN t + 16 n (R451). A ready response makes the tag DONE and leaves (R455); one that cannot leave
within 1 ms is discarded and stays kept (R432, R455); an event frame spends a credit (R460).
Commands that complete here: caneNudgeDetected, caneSyncAcquired, caneSyncLoss, hello, helloTimer, caneTrainFail,
quiet, quietAck, quietAckSend, quietAfterExpiry, caneBadFrame, caneRegisterRead, caneRegisterWrite, caneBulkWrite,
caneBulkRead, caneWake, caneResponseReady, caneResponseDrop, caneEventSend, caneSelfNudge. -/
def Obligations.CaneLink : Prop := ∀ (h : CaneHdr) (a word : Word) (data : List Byte) (n : Fin 63) (tag : Fin 16)
    (seen codeBad : Bool) (ec : Fin 256) (sq : Fin 65536) (s : State),
  (s.pwr.inReset = false → Answers (exec .caneNudgeDetected s) fun t => t.cane.nudges = satInc 0xFFFF s.cane.nudges ∧
    (s.cane.st = .quiet → hubOn s = true → t.cane.st = .align ∧ t.cane.since = s.time.ft) ∧
    (s.cane.st ≠ .quiet → t.cane.st = s.cane.st) ∧ t.regs = s.regs ∧ t.mem = s.mem) ∧
  (s.cane.st = .align → Answers (exec .caneSyncAcquired s) fun t => t.cane.st = .hello ∧ t.cane.helloSent = false ∧
    (∃ l, t.cane.sent = [l] ∧ l.take 2 = [0x40, 1]) ∧ t.cane.tags = s.cane.tags ∧ KeepsBut [.cane, .wale] s t) ∧
  ((s.cane.st = .hello ∨ s.cane.st = .up) → Answers (exec .caneSyncLoss s) fun t => t.cane.st = .align ∧
    t.cane.syncLoss = satInc 0xFF s.cane.syncLoss ∧ t.cane.tags = s.cane.tags ∧ t.cane.credits = s.cane.credits ∧
    t.regs = s.regs ∧ t.mem = s.mem) ∧
  (s.cane.st = .hello → Answers (exec (.hello seen ec sq) s) fun t => t.cane.helloSeen = true ∧
    ((seen = true ∨ s.cane.helloBoth = true) → s.cane.helloSent = true → t.cane.st = .up ∧ t.cane.seqRx = 0 ∧
      t.cane.txQ = [] ∧ t.cane.waitQ = []) ∧
    (s.cane.helloSent = false → t.cane.st = .hello) ∧ t.cane.tags = s.cane.tags ∧ t.regs = s.regs ∧ t.mem = s.mem) ∧
  (s.cane.st = .up → Answers (exec (.hello seen ec sq) s) fun t => t.cane.st = .hello ∧ t.cane.credits = 0 ∧
    t.cane.tags = s.cane.tags ∧ t.regs = s.regs ∧ t.mem = s.mem) ∧
  (s.cane.st = .hello → Answers (exec .helloTimer s) fun t => (∃ l rest, t.cane.sent = l :: rest ∧ l.take 2 = [0x40, 1]) ∧
    (s.cane.helloBoth = true → (s.cane.helloSent = true ∨ s.cane.helloSeen = true) → t.cane.st = .up) ∧
    (s.cane.helloBoth = false → t.cane.st = .hello) ∧ t.cane.tags = s.cane.tags ∧ t.regs = s.regs ∧ t.mem = s.mem) ∧
  ((s.cane.st = .align ∨ s.cane.st = .hello) → Answers (exec .caneTrainFail s) fun t => t.cane.st = .quiet ∧
    t.cane.trainFail = satInc 0xFF s.cane.trainFail ∧ KeepsBut [.cane, .wale, .skein] s t) ∧
  (s.cane.st = .up → Answers (exec (.quiet ec sq) s) fun t => t.cane.st = .up ∧ t.cane.quietAsked = true ∧
    t.cane.credits = min 255 (s.cane.credits + ec.val) ∧ KeepsBut [.cane, .wale] s t) ∧
  (s.cane.st = .up → Answers (exec (.quietAck ec sq) s) fun t =>
    (s.cane.quietSent = true → t.cane.st = .quiet) ∧ (s.cane.quietSent = false → t.cane.st = .up) ∧
    t.cane.tags = s.cane.tags ∧ t.regs = s.regs ∧ t.mem = s.mem) ∧
  (s.cane.st = .up → s.cane.quietAsked = true → caneIdle s = true → Answers (exec .quietAckSend s) fun t =>
    t.cane.st = .quiet ∧ (∃ l, t.cane.sent = [l] ∧ l.take 2 = [0x40, 3]) ∧ t.regs = s.regs ∧ t.mem = s.mem) ∧
  (s.cane.st = .up → fld (s.cfg0 .CANE_CTRL) 7 0 ≠ 0 → caneIdle s = true → s.cane.quietSent = false →
    (caneEventWaits s = false ∨ s.cane.credits = 0) → Answers (exec .quietAfterExpiry s) fun t => t.cane.st = .up ∧
      t.cane.quietSent = true ∧ (∃ l, t.cane.sent = [l] ∧ l.take 2 = [0x40, 2]) ∧ KeepsBut [.cane, .wale] s t) ∧
  (s.cane.st ≠ .quiet → Answers (exec (.caneBadFrame codeBad) s) fun t =>
    (codeBad = true → t.cane.codeErr = satInc 0xFFFF s.cane.codeErr ∧ t.cane.crcErr = s.cane.crcErr) ∧
    (codeBad = false → t.cane.crcErr = satInc 0xFFFF s.cane.crcErr ∧ t.cane.codeErr = s.cane.codeErr) ∧
    t.cane.tags = s.cane.tags ∧ KeepsBut [.cane, .wale] s t) ∧
  (∀ c ∈ [Instr.caneRegisterRead h a, .caneRegisterWrite h a word, .caneBulkWrite h a data, .caneBulkRead h a n, .caneWake h],
    (s.cane.st ≠ .up → exec c s = .next (caneClear s)) ∧
    (s.cane.st = .up → (s.cane.tags[h.tag]).st = .busy → Answers (exec c s) fun t =>
      t.cane.tags = s.cane.tags ∧ (h.retry = true → t.cane.dups = satInc 0xFF s.cane.dups) ∧
      (h.retry = false → t.cane.tagErr = satInc 0xFF s.cane.tagErr) ∧ KeepsBut [.cane, .wale] s t) ∧
    (∀ r, s.cane.st = .up → (s.cane.tags[h.tag]).st = .done r → h.retry = true → Answers (exec c s) fun t =>
      t.cane.tags = s.cane.tags ∧ (∃ l, t.cane.sent = [l] ∧ l.take 1 = [BitVec.ofNat 8 (0x20 + r.tag)]) ∧
      KeepsBut [.cane, .wale] s t)) ∧
  (CaneTakes h s → caneLocal s h = true →
    (∀ r, readAt .host 4 a (caneTaken h s) = r → Answers (exec (.caneRegisterRead h a) s) fun t => t.done = ⟨r.1, r.2.1⟩ ∧
      CaneAnswered t h.tag r.1 (if r.1 = .ok then wordBytes r.2.1 else []) ∧ KeepsBut [.done, .cane] r.2.2 t) ∧
    (∀ r, writeAt .host 4 a word (caneTaken h s) = r → Answers (exec (.caneRegisterWrite h a word) s) fun t =>
      t.done = ⟨r.1, 0⟩ ∧ CaneAnswered t h.tag r.1 [] ∧ KeepsBut logParts r.2 t) ∧
    (∀ r, bulkWrite .host a.toNat data 0 (caneTaken h s) = r → Answers (exec (.caneBulkWrite h a data) s) fun t =>
      t.done = ⟨r.1, 0⟩ ∧ CaneAnswered t h.tag r.1 (leBytes 2 r.2.1) ∧ KeepsBut logParts r.2.2 t) ∧
    (∀ r, bulkRead .host a.toNat n.val [] (caneTaken h s) = r → Answers (exec (.caneBulkRead h a n) s) fun t =>
      t.done = ⟨r.1, 0⟩ ∧ CaneAnswered t h.tag r.1 r.2.1 ∧ KeepsBut [.done, .cane] r.2.2 t) ∧
    (s.pwr.st = .active → s.pwr.transit = none → Answers (exec (.caneWake h) s) fun t =>
      CaneAnswered t h.tag .ok [] ∧ KeepsBut [.cane, .wale] s t) ∧
    (∀ r, writeAt .host 4 wakeAddr 2 (caneTaken h s) = r → (s.pwr.st ≠ .active ∨ s.pwr.transit ≠ none) →
      (r.1 = .ok → (r.2.pwr.st ≠ .active ∨ r.2.pwr.transit ≠ none) → Answers (exec (.caneWake h) s) fun t =>
        h.tag ∈ t.pwr.wakeTags ∧ KeepsBut [.done, .pwr] r.2 t) ∧
      (r.1 ≠ .ok → Answers (exec (.caneWake h) s) fun t => CaneAnswered t h.tag r.1 []))) ∧
  (CaneTakes h s → caneLocal s h = false →
    (h.dst.val ≠ 63 → s.wale.routes[h.dst] < 8 → ∀ p ∈ [(Instr.caneRegisterRead h a, [1, 0, 0, 0] ++ wordBytes a),
        (.caneRegisterWrite h a word, [2, 0, 0, 0] ++ wordBytes a ++ wordBytes word),
        (.caneBulkWrite h a data, [4, 0, 0, 0] ++ wordBytes a ++ data),
        (.caneWake h, [2, 0, 0, 0] ++ wordBytes wakeAddr ++ wordBytes 2)],
      Answers (exec p.1 s) fun t => (∃ u ∈ t.wale.txns, u.owner = .cane h.tag ∧ u.attempts = 1 ∧ u.f.dst = h.dst.val ∧
        u.f.payload = p.2 ∧ u.f.host = isRoot s ∧
        u.f.txn = (h.tag.val + 16 * (((s.cane.tags[h.tag]).n + 1) % 4096)) % 65536) ∧
        (t.cane.tags[h.tag]).st = .busy ∧ KeepsBut [.cane, .wale] s t) ∧
    ((h.dst.val = 63 ∨ 8 ≤ s.wale.routes[h.dst]) → ∀ c ∈ [Instr.caneRegisterRead h a, .caneRegisterWrite h a word,
        .caneBulkWrite h a data, .caneBulkRead h a n, .caneWake h], Answers (exec c s) fun t =>
      CaneAnswered t h.tag .noSuchAddress [] ∧ KeepsBut [.cane, .wale] s t)) ∧
  (∀ r, (s.cane.tags[tag]).ready = some r → Answers (exec (.caneResponseReady tag) s) fun t =>
    (t.cane.tags[tag]).st = .done r ∧ (t.cane.tags[tag]).ready = none ∧
    (s.cane.st = .up → ∃ l, t.cane.sent = [l]) ∧
    (s.cane.st ≠ .up → s.cane.txQ.length < 16 → t.cane.txQ = s.cane.txQ ++ [r]) ∧ KeepsBut [.cane, .wale] s t) ∧
  (s.cane.waitQ = [] → (s.cane.txQ.any fun r => r.tag == tag.val) = true → Answers (exec (.caneResponseDrop tag) s) fun t =>
    t.cane.txQ = s.cane.txQ.filter (fun r => !(r.tag == tag.val)) ∧ t.wale.drainDrop = satInc 0xFF s.wale.drainDrop ∧
    t.wale.a3 = true ∧ t.cane.tags = s.cane.tags ∧ t.regs = s.regs ∧ t.mem = s.mem) ∧
  (s.cane.st = .up → bit (s.cfg0 .CANE_CTRL) 16 = true → 0 < s.cane.credits → caneEventWaits s = true →
    Answers (exec .caneEventSend s) fun t => t.cane.credits = s.cane.credits - 1 ∧
      (s.cane.evtMissed ≠ 0 → t.cane.evtMissed = 0 ∧ t.cane.evtQ = s.cane.evtQ) ∧
      (s.cane.evtMissed = 0 → t.cane.evtQ = s.cane.evtQ.drop 8 ∧
        t.cane.evtSent = satAdd 0xFFFF (s.cane.evtQ.take 8).length s.cane.evtSent) ∧ KeepsBut [.cane, .wale] s t) ∧
  (s.cane.st = .quiet → hubOn s = true → caneEventWaits s = true → 0 < s.cane.credits →
    Answers (exec .caneSelfNudge s) fun t => t.cane.st = .align ∧ KeepsBut [.cane, .wale] s t)

/-! ## Handle, boot and updates -/

/-- Resets, boot and Handle restarts. Power-on, which waits while POWER_FAIL_N is low (R590), and an accepted RESET boot
the device (R472, R473), READY begins the replay (R473, R478). A Handle restart ends what the Handle had in hand with
TIMEOUT, clears the chunk buffer, counts and raises source 2, while dies, coils and pairs run on; it ends with the
firmware verified or in a device reset (R465).
Commands that complete here: powerOnResetRelease, deviceReset, bootReady, watchdogExpiry, handleSramEcc,
handleRestartDone. -/
def Obligations.HandleAndBoot : Prop := ∀ (o : Origin) (hub : Option Int) (s : State),
  (s.pwr.failLow = true → exec (.powerOnResetRelease hub) s = .next s) ∧
  (s.pwr.failLow = false → Answers (exec (.powerOnResetRelease hub) s) fun t => Booted hub s t ∧ t.time.wtSet = false ∧ t.lid.fails = 0) ∧
  (s.pwr.resetDue = false → Admits o ⟨.RST_CTRL, 0, 0, 0⟩ 0xA501 s → Answers (exec (.deviceReset o hub) s) fun t =>
    Booted hub s t ∧ t.time.epoch = s.time.epoch ∧ t.time.wtSet = s.time.wtSet ∧ t.lid.fails = s.lid.fails ∧
    t.handle.restarts = s.handle.restarts) ∧
  (s.handle.recovery = false → s.handle.ready = false → s.handle.st = .boot → s.handle.hubVer ≠ 0 →
    Answers (exec .bootReady s) fun t => t.handle.ready = true ∧ t.handle.st = .sleep ∧
      (s.handle.half = none → t.handle.replay = none ∧ t.handle.cfgDone = true) ∧
      (s.handle.half ≠ none → t.handle.replay = some ⟨0, false, none⟩ ∧ t.handle.cfgDone = false) ∧
      t.handle.upd = s.handle.upd ∧ KeepsBut [.handle] s t) ∧
  (∀ c ∈ [Instr.watchdogExpiry, .handleSramEcc], s.handle.st ≠ .restart → s.handle.hubVer ≠ 0 →
    (c = .watchdogExpiry → s.tap.haltHandle = false) → Answers (exec c s) fun t =>
      t.handle.st = .restart ∧ t.handle.restarts = satInc 0xFF s.handle.restarts ∧
      (t.lash.srcs[srcOf 2]).latched = true ∧ (t.lash.srcs[srcOf 2]).active = true ∧
      (∀ k : DieIx, (t.dies[k]).loader.busy = none ∧
        ((s.dies[k]).loader.busy ≠ none → (t.dies[k]).loader.code = .timeout) ∧
        { t.dies[k] with loader := (s.dies[k]).loader } = s.dies[k]) ∧
      t.coilLdr.busy = none ∧ (s.coilLdr.busy ≠ none → t.coilLdr.code = .timeout) ∧
      t.reg.busy = none ∧ (s.reg.busy ≠ none → t.reg.code = .timeout) ∧
      t.handle.upd.busy = none ∧ (s.handle.upd.busy ≠ none → t.handle.upd.code = .timeout) ∧
      (∀ a, a < 4096 → memGet t.mem (Space.chunk.base + a) = 0) ∧
      (∀ a, (a < Space.chunk.base ∨ Space.chunk.base + 4096 ≤ a) → memGet t.mem a = memGet s.mem a) ∧
      ((s.lash.srcs[srcOf 2]).sev < 4 → t.coils = s.coils ∧ t.pairs = s.pairs) ∧
      KeepsBut [.dies, .coils, .coreQ, .pairs, .coilLdr, .reg, .handle, .mem, .lash, .skein, .tally, .cane] s t) ∧
  (s.handle.st = .restart →
    (pkgHeaderOk (pkgHeader s s.handle.slot) = true → pkgSigned s s.handle.slot = true →
      Answers (exec (.handleRestartDone hub) s) fun t =>
        t.handle = { s.handle with st := if s.handle.ready then .sleep else .boot } ∧
        (t.lash.srcs[srcOf 2]).active = false ∧ (t.lash.srcs[srcOf 2]).latched = (s.lash.srcs[srcOf 2]).latched ∧
        KeepsBut [.handle, .lash, .skein, .cane, .pwr] s t) ∧
    ((pkgHeaderOk (pkgHeader s s.handle.slot) = false ∨ pkgSigned s s.handle.slot = false) →
      Answers (exec (.handleRestartDone hub) s) (Booted hub s)))

/-- Updates, the replay and telemetry. An OP is taken while none runs (R474) and ends by R474 and R475: BEGIN marks its
target invalid, CHUNK writes the chunk buffer to its place, VERIFY and ACTIVATE pass a good target on, CONFIRM ends
the trial and raises the minimum SVN (R472), ABORT ends the update; a write that the thermal window refuses ends with
THERMAL_HOLD (R467). The replay runs entry by entry (R478); telemetry reads both channels and checks the limits
(R479).
Commands that complete here: updBegin, updChunk, updVerify, updActivate, updConfirm, updAbort, updOpDone,
configReplay, replayWaitTimeout, replayDelayEnd, telemetryReading. -/
def Obligations.UpdatesAndReplay : Prop := ∀ (o : Origin) (tg : Fin 4) (ix : Fin 65536) (s : State),
  (∀ p ∈ [(Instr.updBegin o tg, 1, tg.val, 0), (.updChunk o tg ix, 2, tg.val, ix.val), (.updVerify o tg, 3, tg.val, 0),
      (.updActivate o tg, 4, tg.val, 0), (.updConfirm o, 5, 0, 0), (.updAbort o tg, 6, tg.val, 0)],
    Admits o ⟨.UPD_CTRL, 0, 0, 0⟩ (updWord p.2.1 p.2.2.1 p.2.2.2) s →
      (s.handle.upd.busy = none → s.handle.st ≠ .restart → Answers (exec p.1 s) (Accepted (s.modUpd fun u =>
        { u with
          busy := some ⟨p.2.1, p.2.2.1, p.2.2.2, updWord p.2.1 p.2.2.1 p.2.2.2, o⟩ }))) ∧
      (s.handle.upd.busy ≠ none → Answers (exec p.1 s) fun t => t.done = ⟨.busy, 0⟩ ∧ KeepsBut logParts s t)) ∧
  (∀ u, Memory.wf s.mem = true → s.handle.upd.busy = some u → handleWorks s = true →
    (u.op = 1 → ((s.cfg0 .UPD_SIZE).toNat = 0 ∨ (if u.target = 2 then 0x00200000 else 0x00600000) < (s.cfg0 .UPD_SIZE).toNat) →
      Answers (exec .updOpDone s) fun t => KeepsBut [.skein, .cane] (updFailed .badProgram 1 s) t) ∧
    (u.op = 1 → (s.cfg0 .UPD_SIZE).toNat ≠ 0 → (s.cfg0 .UPD_SIZE).toNat ≤ (if u.target = 2 then 0x00200000 else 0x00600000) →
      (u.target ≠ 2 → (s.handle.trial = true ∨ s.handle.recovery = false ∧ u.target = b2n s.handle.slot) →
        Answers (exec .updOpDone s) fun t => KeepsBut [.skein, .cane] (updFailed .busy 8 s) t) ∧
      ((u.target = 2 ∨ (s.handle.trial = false ∧ (s.handle.recovery = true ∨ u.target ≠ b2n s.handle.slot))) →
        mramVerdict s = .allowed → Answers (exec .updOpDone s) fun t =>
          t.handle.upd = ⟨none, some u.target, [], false, s.handle.upd.dig, .ok, 0⟩ ∧
          (u.target = 0 → slotBad t false = true) ∧ (u.target = 1 → slotBad t true = true) ∧
          (u.target < 2 → s.handle.mcSlot = some (u.target == 1) → t.handle.lent = true) ∧
          t.handle.copyA = s.handle.copyA ∧ t.handle.copyB = s.handle.copyB ∧ KeepsBut [.handle, .tally] s t)) ∧
    (u.op = 2 → s.handle.upd.target ≠ some u.target → Answers (exec .updOpDone s) fun t =>
      KeepsBut [.skein, .cane] (updFailed .badProgram 7 s) t) ∧
    (u.op = 2 → s.handle.upd.target = some u.target →
      ((s.cfg0 .UPD_SIZE).toNat ≤ u.index * 4096 → Answers (exec .updOpDone s) fun t =>
        KeepsBut [.skein, .cane] (updFailed .badProgram 2 s) t) ∧
      (u.index * 4096 < (s.cfg0 .UPD_SIZE).toNat → mramVerdict s = .allowed →
        ∀ base n, base = (if u.target = 2 then halfBase (freeHalf s.handle) else slotBase (u.target == 1)) + u.index * 4096 →
          n = min 4096 ((s.cfg0 .UPD_SIZE).toNat - u.index * 4096) → Answers (exec .updOpDone s) fun t =>
            readBytes .mram base n t = readBytes .chunk 0 n s ∧ u.index ∈ t.handle.upd.chunks ∧
            t.handle.upd.code = .ok ∧ t.handle.upd.fault = 0 ∧ t.handle.upd.verified = false ∧
            (∀ a, (a < Space.mram.base + base ∨ Space.mram.base + base + n ≤ a) → a ≠ Space.marker.base + base →
              memGet t.mem a = memGet s.mem a) ∧ KeepsBut [.handle, .mem, .tally] s t)) ∧
    (u.op = 3 → s.handle.upd.target = some u.target → u.target < 2 →
      (verifyPkg (u.target == 1) s ≠ 0 → Answers (exec .updOpDone s) fun t =>
        KeepsBut [.skein, .cane] (updFailed .badProgram (verifyPkg (u.target == 1) s) s) t) ∧
      (verifyPkg (u.target == 1) s = 0 → Answers (exec .updOpDone s) fun t =>
        t.handle.upd = { s.handle.upd with
          busy := none, code := .ok, fault := 0, verified := true,
          dig := BitVec.ofNat 32 (digestLead (sha384 (pkgBody s (u.target == 1)))) } ∧ KeepsBut [.handle, .tally] s t)) ∧
    (u.op = 4 → (s.handle.upd.target ≠ some u.target ∨ s.handle.upd.verified = false) → Answers (exec .updOpDone s) fun t =>
      KeepsBut [.skein, .cane] (updFailed .badProgram 7 s) t) ∧
    (u.op = 4 → s.handle.upd.target = some u.target → s.handle.upd.verified = true → mramVerdict s = .allowed →
      Answers (exec .updOpDone s) fun t => t.handle.upd.code = .ok ∧ t.handle.upd.target = none ∧
        (u.target < 2 → (bootBlock t.handle).2 = ⟨true, (bootBlock s.handle).2.seq + 1, u.target == 1, true, 0⟩ ∧
          slotBad t (u.target == 1) = false) ∧
        (u.target = 2 → t.handle.half = some (freeHalf s.handle)) ∧ KeepsBut [.handle, .tally] s t) ∧
    (u.op = 5 → (s.handle.trial = false → Answers (exec .updOpDone s) fun t =>
        KeepsBut [.skein, .cane] (updFailed .badProgram 7 s) t) ∧
      (s.handle.trial = true → mramVerdict s = .allowed → Answers (exec .updOpDone s) fun t => t.handle.trial = false ∧
        t.handle.svnMin = max s.handle.svnMin (pkgSvn (pkgHeader s s.handle.slot)) ∧
        (bootBlock t.handle).2.trial = false ∧ (bootBlock t.handle).2.sel = s.handle.slot ∧
        t.handle.upd.code = .ok ∧ KeepsBut [.handle, .tally] s t)) ∧
    (u.op = 6 → Answers (exec .updOpDone s) fun t => t.handle.upd.target = none ∧ t.handle.upd.verified = false ∧
      t.handle.upd.code = .ok ∧ t.handle.badA = s.handle.badA ∧ t.handle.badB = s.handle.badB ∧ KeepsBut [.handle, .tally] s t) ∧
    (u.op = 5 → s.handle.trial = true → mramVerdict s = .refused → Answers (exec .updOpDone s) fun t =>
      KeepsBut [.skein, .cane] (updFailed .thermalHold 9 s) t)) ∧
  (handleWorks s = false → exec .updOpDone s = .next s ∧ exec .configReplay s = .next s ∧
    exec .replayWaitTimeout s = .next s ∧ exec .replayDelayEnd s = .next s ∧ exec .telemetryReading s = .next s) ∧
  (∀ r b, s.handle.replay = some r → s.handle.half = some b → handleWorks s = true →
    (replayCount s b ≤ r.entry → Answers (exec .configReplay s) fun t => t.handle.replay = none ∧ t.handle.cfgDone = true ∧
      t.handle.cfgFault = s.handle.cfgFault ∧ t.handle.cfgErrs = s.handle.cfgErrs ∧
      KeepsBut [.handle, .skein, .cane, .pwr] s t) ∧
    (∀ e a v, r.entry < replayCount s b → replayEntry s b r.entry = e → (r.wake = true → field e 1 1 ≠ 0) →
      a = BitVec.ofNat 32 (field e 4 4) → v = BitVec.ofNat 32 (field e 8 4) →
      (field e 0 1 = 1 → exec .configReplay s = .next (leanReport (replayRun (replayCount s b - r.entry)
          (replayAt (r.entry + 1) none (replayWrite r.entry a v s)))) ∧
        (∀ q, writeAt .replay 4 a v s = q → q.1 ≠ .ok →
          (replayWrite r.entry a v s).handle.cfgErrs = satInc 0xFFFF q.2.handle.cfgErrs ∧
          (q.2.handle.cfgFirstSet = false → (replayWrite r.entry a v s).handle.cfgFirst = r.entry))) ∧
      (∀ q, field e 0 1 = 2 → readAt .replay 4 a s = q → ¬(q.1 = .ok ∧ q.2.1 &&& BitVec.ofNat 32 (field e 12 4) = v) →
        exec .configReplay s = .next (leanReport (replayAt r.entry (some (r.since.getD s.time.ft)) q.2.2))) ∧
      (field e 0 1 = 3 → r.since = none →
        exec .configReplay s = .next (leanReport (replayAt r.entry (some s.time.ft) s))))) ∧
  (∀ i, handleWorks s = true → replayWaits s 2 = some i → exec .replayWaitTimeout s = .next { s with
    handle := { s.handle with replay := none, cfgDone := true, cfgFault := true, cfgFirst := i, cfgFirstSet := true } }) ∧
  (∀ i, handleWorks s = true → replayWaits s 3 = some i →
    exec .replayDelayEnd s = exec .configReplay (replayAt (i + 1) none s)) ∧
  (∀ (v i : Fin 48), handleWorks s = true → fld (s.cfg0 .TEL_CFG) 5 0 = v.val → fld (s.cfg0 .TEL_CFG) 13 8 = i.val →
    ∀ x y, snsValue s v s.sns[v] = x → snsValue s i s.sns[i] = y → Answers (exec .telemetryReading s) fun t =>
      t.handle.telV = x ∧ t.handle.telI = y ∧ t.handle.telP = q16 (roundDiv (x * y) 65536) ∧ t.handle.telValid = true ∧
      (∀ z, s.handle.vMin = some z → t.handle.vMin = some (min z x)) ∧
      (∀ z, s.handle.vMax = some z → t.handle.vMax = some (max z x)) ∧
      (x ≤ sfld (s.cfg0 .TEL_VMAX) 31 0 → y ≤ sfld (s.cfg0 .TEL_IMAX) 31 0 →
        t.handle.telOver = 0 ∧ t.handle.telOut = s.handle.telOut ∧ (t.lash.srcs[srcOf 6]).active = false) ∧
      ((sfld (s.cfg0 .TEL_VMAX) 31 0 < x ∨ sfld (s.cfg0 .TEL_IMAX) 31 0 < y) →
        (s.handle.telOver = 0 → t.handle.telOver = 1 ∧ t.handle.telOut = s.handle.telOut) ∧
        (1 ≤ s.handle.telOver → t.handle.telOut = true ∧ (t.lash.srcs[srcOf 6]).active = true ∧
          ((s.lash.srcs[srcOf 6]).active = false → (t.lash.srcs[srcOf 6]).latched = true))) ∧
      KeepsBut [.handle, .lash, .coils, .coreQ, .pairs, .skein, .tally, .cane] s t)

/-! ## Skein and Tally -/

/-- The Skein. The newest record closes when HOLD passes, as an entry of its own if a flush has written it (R490, R491); a
wanted flush takes every unflushed record and writes them to the ring, oldest first (R492, R493, R494), and the loss
record follows (R495); FLUSH, FREEZE, UNFREEZE and CLEAR of SKN_CTRL (R493, R497, R499); a freeze ends by itself
(R497).
Commands that complete here: skeinHoldExpiry, skeinFlush, skeinFlushPeriod, skeinFlushDone, sknFlush, sknFreeze,
sknUnfreeze, sknClear, freezeTimeout. -/
def Obligations.SkeinRecorder : Prop := ∀ (o : Origin) (s : State), s.Canonical →
  ((s.skein.newest = none → exec .skeinHoldExpiry s = .next s) ∧
    (∀ r, s.skein.newest = some (r, false) → Answers (exec .skeinHoldExpiry s) fun t =>
      t.skein = { s.skein with
        newest := none, buffer := s.skein.buffer ++ [{ r with st := 0 }] } ∧ KeepsBut [.skein, .cane] s t) ∧
    (∀ r, s.skein.newest = some (r, true) → Answers (exec .skeinHoldExpiry s) fun t =>
      (skeinPlace { s.skein with newest := none } r.sev = true → t.skein = { s.skein with
        newest := none, buffer := s.skein.buffer ++ [{ r with st := 2 }] }) ∧
      (skeinPlace { s.skein with newest := none } r.sev = false → t.skein = { s.skein with
        newest := none, lost := satInc 0xFFFF s.skein.lost, unreported := s.skein.unreported + 1 }) ∧
      KeepsBut [.skein, .cane] s t)) ∧
  (handleWorks s = true → s.skein.flushing = none →
    ((s.skein.wanted = false ∨ s.skein.frozen ≠ none ∨ mramVerdict s = .refused) → exec .skeinFlush s = .next s) ∧
    (s.skein.wanted = true → s.skein.frozen = none →
      (mramVerdict s = .allowed → Answers (exec .skeinFlush s) fun t =>
        (∀ r, s.skein.newest = some (r, false) → t.skein.flushing = some (s.skein.buffer ++ [r]) ∧ t.skein.newest = some (r, true)) ∧
        ((∀ r, s.skein.newest ≠ some (r, false)) → t.skein.flushing = some s.skein.buffer ∧ t.skein.newest = s.skein.newest) ∧
        t.skein.buffer = [] ∧ t.skein.wanted = false ∧ KeepsBut [.skein] s t) ∧
      (mramVerdict s = .waits → convertible s 0 = true → Answers (exec .skeinFlush s) fun t =>
        (⟨0, .mram⟩ : ThmReq) ∈ t.thm.queue ∧ KeepsBut [.thm] s t))) ∧
  ((s.skein.buffer ≠ [] ∨ (∃ r, s.skein.newest = some (r, false))) →
    exec .skeinFlushPeriod s = .next { s with skein := { s.skein with wanted := true } }) ∧
  (s.skein.buffer = [] → (∀ r, s.skein.newest ≠ some (r, false)) → exec .skeinFlushPeriod s = .next s) ∧
  (∀ l, handleWorks s = true → s.skein.flushing = some l → s.skein.clearWait = [] → l.length ≤ 65536 →
    mramVerdict s = .allowed → Answers (exec .skeinFlushDone s) fun t =>
      t.skein.flushing = none ∧ t.skein.ringPos = s.skein.ringPos + l.length ∧
      (∀ i, ∀ h : i < l.length, readBytes .mram (skeinRingBase + (s.skein.ringPos + i) % 65536 * 32) 32 t = skeinBytes l[i]) ∧
      (∀ a, a < 2 ^ 40 → (a < skeinRingBase ∨ skeinRingBase + 0x00200000 ≤ a) →
        memGet t.mem (Space.mram.base + a) = memGet s.mem (Space.mram.base + a)) ∧
      (s.skein.unreported = 0 → t.skein = { s.skein with
        flushing := none, ringPos := s.skein.ringPos + l.length }) ∧
      (s.skein.unreported ≠ 0 → s.skein.buffer.length < 3000 →
        (∃ r f, t.skein.newest = some (r, f) ∧ r.code = 0x0F01) ∨ ∃ r ∈ t.skein.buffer, r.code = 0x0F01) ∧
      KeepsBut [.skein, .mem, .cane] s t) ∧
  (Admits o ⟨.SKN_CTRL, 0, 0, 0⟩ (bitsWord ⟨.SKN_CTRL, 0, 0, 0⟩ 1 0 s) s → Answers (exec (.sknFlush o) s) fun t =>
    t.done = ⟨.ok, 0⟩ ∧ t.skein.wanted = true ∧ t.skein.clearMark = s.skein.clearMark ∧
    fld (t.cfg0 .SKN_CTRL) 31 16 = fld (s.cfg0 .SKN_CTRL) 31 16 ∧ KeepsBut (.regs :: logParts) s t) ∧
  (Admits o ⟨.SKN_CTRL, 0, 0, 0⟩ (bitsWord ⟨.SKN_CTRL, 0, 0, 0⟩ 4 0 s) s → skeinUsed s.skein < 3000 →
    Answers (exec (.sknFreeze o) s) fun t => t.done = ⟨.ok, 0⟩ ∧
      (s.skein.frozen = none → t.skein.frozen = some s.skein.next) ∧
      (s.skein.frozen ≠ none → t.skein.frozen = s.skein.frozen) ∧ KeepsBut (.regs :: logParts) s t) ∧
  (Admits o ⟨.SKN_CTRL, 0, 0, 0⟩ (bitsWord ⟨.SKN_CTRL, 0, 0, 0⟩ 8 0 s) s → Answers (exec (.sknUnfreeze o) s) fun t =>
    t.done = ⟨.ok, 0⟩ ∧ t.skein.frozen = none ∧ t.skein.clearMark = s.skein.clearMark ∧ KeepsBut (.regs :: logParts) s t) ∧
  (Admits o ⟨.SKN_CTRL, 0, 0, 0⟩ (bitsWord ⟨.SKN_CTRL, 0, 0, 0⟩ 2 0 s) s →
    (mramVerdict s = .refused → Answers (exec (.sknClear o) s) fun t =>
      t.done = ⟨.thermalHold, 0⟩ ∧ t.skein.clearMark = s.skein.clearMark ∧ KeepsBut logParts s t) ∧
    (mramVerdict s = .allowed → s.skein.flushing = none → Answers (exec (.sknClear o) s) fun t =>
      t.done = ⟨.ok, 0⟩ ∧ t.skein.clearMark = s.skein.next ∧ t.skein.frozen = none ∧
      readBytes .mram clearMarkOff 4 t = leBytes 4 s.skein.next ∧
      (∃ r ∈ t.tally.staged, r.seq = s.tally.next ∧ r.target = 0x00020000 ∧ r.origin = originCode o ∧
        r.new = s.skein.next % 2 ^ 32) ∧
      (∀ a, a < clearMarkOff → memGet t.mem (Space.mram.base + a) = memGet s.mem (Space.mram.base + a)) ∧
      KeepsBut (.regs :: .mem :: logParts) s t) ∧
    (mramVerdict s = .allowed → s.skein.flushing ≠ none → Answers (exec (.sknClear o) s) fun t => t.done = ⟨.ok, 0⟩ ∧
      t.skein.clearWait = s.skein.clearWait ++ [(o, bitsWord ⟨.SKN_CTRL, 0, 0, 0⟩ 2 0 s)] ∧
      t.skein.clearMark = s.skein.clearMark ∧ KeepsBut logParts s t)) ∧
  ((s.skein.frozen = none → exec .freezeTimeout s = .next s) ∧
    (s.skein.frozen ≠ none → Answers (exec .freezeTimeout s) fun t => t.skein.frozen = none ∧ t.skein.thawed = true ∧
      t.skein.clearMark = s.skein.clearMark ∧ KeepsBut [.skein, .cane] s t))

/-- Tally, wall time and the seal. TLY_ACK takes a value from the present ACK up to below TLY_NEXT, which MRAM keeps
(R485, R506); the oldest staged record is written out with its chain link (R502, R505); APPLY sets wall time, counts
EPOCH where it goes back, and is recorded (R483, R500, R510); a seal holds the number and link of the newest record
(R503).
Commands that complete here: tlyAck, tallyWriteOut, wtApply, seal, sealDone. -/
def Obligations.TallyLog : Prop := ∀ (o : Origin) (seq : Word) (s : State), s.Canonical →
  (Admits o ⟨.TLY_ACK, 0, 0, 0⟩ seq s →
    (seqLt seq.toNat s.tally.ack = false → seqLt seq.toNat s.tally.next = true → Answers (exec (.tlyAck o seq) s) fun t =>
      t.done = ⟨.ok, 0⟩ ∧ t.tally.ack = seq.toNat ∧ t.tally.next = s.tally.next ∧ t.tally.staged = s.tally.staged ∧
      (mramVerdict s = .allowed → readBytes .mram ackOff 4 t = leBytes 4 seq.toNat) ∧
      (∀ a, a < ackOff → memGet t.mem (Space.mram.base + a) = memGet s.mem (Space.mram.base + a)) ∧
      KeepsBut (.mem :: .thm :: logParts) s t) ∧
    ((seqLt seq.toNat s.tally.ack = true ∨ seqLt seq.toNat s.tally.next = false) → Answers (exec (.tlyAck o seq) s) fun t =>
      t.done = ⟨.badProgram, 0⟩ ∧ t.tally = s.tally ∧ KeepsBut logParts s t)) ∧
  ((s.tally.staged = [] ∨ mramVerdict s = .refused) → exec .tallyWriteOut s = .next s) ∧
  (∀ r rest, s.tally.staged = r :: rest → mramVerdict s = .allowed → Answers (exec .tallyWriteOut s) fun t =>
    t.tally = { s.tally with
      staged := rest, link := some (tallyLink (chainHead s) r) } ∧
    readBytes .mram (tallyBase + r.seq % 131072 * 64) 64 t =
      tallyBytes r ++ beBytes 16 (tallyLink (chainHead s) r) ++ List.replicate 16 0 ∧
    (∀ a, a < 2 ^ 40 → (a < tallyBase + r.seq % 131072 * 64 ∨ tallyBase + r.seq % 131072 * 64 + 64 ≤ a) →
      memGet t.mem (Space.mram.base + a) = memGet s.mem (Space.mram.base + a)) ∧ KeepsBut [.tally, .mem] s t) ∧
  (Admits o ⟨.WT_CTRL, 0, 0, 0⟩ 1 s → ∀ w, w = (s.cfg0 .WT_SET_HI).toNat * 2 ^ 32 + (s.cfg0 .WT_SET_LO).toNat →
    Answers (exec (.wtApply o) s) fun t => t.done = ⟨.ok, 0⟩ ∧ t.wall = w ∧ t.time.wtSet = true ∧ t.time.ft = s.time.ft ∧
      t.time.epoch = (if w < s.wall then (s.time.epoch + 1) % 65536 else s.time.epoch) ∧
      (∃ r ∈ t.tally.staged, r.seq = s.tally.next ∧ r.target = 0x00030030 ∧ r.origin = originCode o ∧
        r.old = (wtCtrl s).toNat ∧ r.new = (wtCtrl t).toNat ∧ r.time = w) ∧ KeepsBut (.time :: logParts) s t) ∧
  (Admits o ⟨.TLY_SEAL, 0, 0, 0⟩ 1 s →
    (s.tally.sealing = false → Answers (exec (.seal o) s) fun t => t.done = ⟨.ok, 0⟩ ∧ t.tally.sealing = true ∧
      t.tally.sealWin = none ∧ KeepsBut logParts s t) ∧
    (s.tally.sealing = true → Answers (exec (.seal o) s) fun t => t.done = ⟨.busy, 0⟩ ∧ t.tally = s.tally)) ∧
  (s.tally.sealing = false → exec .sealDone s = .next s) ∧
  (s.tally.sealing = true → Answers (exec .sealDone s) fun t => t.tally.sealing = false ∧
    (∃ x, t.tally.sealWin = some x ∧ x.seq = (s.tally.next + 2 ^ 32 - 1) % 2 ^ 32 ∧
      x.sig = Config.signature s.freeCtr (sha384 (leBytes 8 s.serial ++ leBytes 4 x.seq ++ beBytes 16 x.link)) ∧
      (s.tally.staged = [] → x.link = chainHead s) ∧
      (∀ r, s.tally.staged = [r] → x.link = tallyLink (chainHead s) r)) ∧
    t.tally.staged = s.tally.staged ∧ KeepsBut [.tally, .freeCtr] s t)

/-! ## The Lashing -/

/-- Sources and reactions. A source that becomes active latches, counts and is recorded, and stays latched when its unit
stops (R512, R524); a MUTE severity mutes the dies in its scope, a SAFE one puts the device into the safe state (R517,
R518, R519); an AUTO reaction ends with its latch kept, and a port in Transmit that is then covered by no reaction
holds its DAC input at zero and its strands muted for 8 µs (R520). A broken pair makes its source active and raises
the wire source (R514); a die mutes itself on a broken broadcast pair (R515); a self-fault sets COLLECTOR (R516). An
unseen source is ignored (R513).
Commands that complete here: lashingSourceActive, faultPairBroken, lashingSourceInactive, muteAutoEnd,
broadcastPairBroken, collectorSelfFault. -/
def Obligations.LashingSources : Prop := ∀ (n : SrcIx) (unit : Fin 4096) (hold : Bool) (s : State),
  (srcSeen n s = false → exec (.lashingSourceActive n unit hold) s = .next s ∧ exec (.faultPairBroken n) s = .next s) ∧
  (srcSeen n s = true → Answers (exec (.lashingSourceActive n unit hold) s) fun t =>
    t.lash.srcs[n] = { s.lash.srcs[n] with
      active := (s.lash.srcs[n]).active || hold, latched := true, dry := false, injected := false, ended := false,
      count := satInc 0xFFFF (s.lash.srcs[n]).count } ∧ OtherSrcs [n] s t ∧
    (2 < (s.lash.srcs[n]).sev → (s.lash.srcs[n]).scope = true → ∀ k, lashMute t k = true) ∧
    (∀ k, 2 < (s.lash.srcs[n]).sev → srcDie n = some k → lashMute t k = true) ∧
    ((s.lash.srcs[n]).sev < 4 → t.lash.safe = s.lash.safe ∧ t.coils = s.coils ∧ t.pairs = s.pairs) ∧
    (3 < (s.lash.srcs[n]).sev → SafeIn s t ∧ (s.lash.safe = false → t.lash.safeCause = n.val)) ∧
    ((s.lash.srcs[n]).sev < 3 → s.skein.newest = none → skeinUsed s.skein < 3000 → ∃ r, t.skein.newest = some (r, false) ∧
      r.seq = s.skein.next ∧ r.source = 0 ∧ r.sev = (s.lash.srcs[n]).sev ∧ r.loc = srcLoc n unit.val ∧ r.code = n.val ∧
      r.injected = false ∧ r.data = (s.lash.srcs[n]).sev + 512 * b2n (s.lash.srcs[n]).wire ∧ r.time = s.wall ∧ t.tally = s.tally) ∧
    (¬ n.val % 16 = 5 → t.dies = s.dies) ∧
    (∀ k, srcDie n = some k → n.val % 16 = 5 → (t.prog k (Fin.ofNat 16 unit.val)).eccNow = true ∧ OtherDies k s t) ∧
    KeepsBut (.dies :: reactParts) s t) ∧
  (Answers (exec (.lashingSourceInactive n) s) fun t =>
    t.lash.srcs[n] = { s.lash.srcs[n] with active := false, wire := false } ∧ OtherSrcs [n] s t ∧
    (∀ k : DieIx, (t.dies[k]).bcastBroken = ((s.dies[k]).bcastBroken && n != srcOfDie k 1)) ∧
    (n.val % 16 ≠ 1 → t.dies = s.dies) ∧ t.lash.safe = s.lash.safe ∧ KeepsBut [.lash, .dies] s t) ∧
  ((s.lash.srcs[n]).auto = true → (s.lash.srcs[n]).mutes = true → (s.lash.srcs[n]).sev = 3 → (s.lash.srcs[n]).still = false →
    Answers (exec (.muteAutoEnd n) s) fun t => t.lash.srcs[n] = { s.lash.srcs[n] with ended := true } ∧
      (t.lash.srcs[n]).mutes = false ∧ (t.lash.srcs[n]).latched = true ∧ OtherSrcs [n] s t ∧ MuteEnded s t ∧
      KeepsBut [.lash, .dies, .skein, .tally, .cane] s t) ∧
  (((s.lash.srcs[n]).auto = false ∨ (s.lash.srcs[n]).still = true ∨ (s.lash.srcs[n]).sev ≠ 3) →
    exec (.muteAutoEnd n) s = .next s) ∧
  (∀ w, w = (match srcDie n with | some k => srcOfDie k 1 | none => srcOf 8) → srcSeen n s = true → n ≠ w →
    Answers (exec (.faultPairBroken n) s) fun t =>
      (t.lash.srcs[n]).latched = true ∧ (t.lash.srcs[n]).wire = true ∧ (t.lash.srcs[n]).still = true ∧
      (t.lash.srcs[w]).latched = true ∧ (t.lash.srcs[w]).active = true ∧ OtherSrcs [n, w] s t ∧
      ((s.lash.srcs[w]).sev = 4 → SafeIn s t) ∧ KeepsBut reactParts s t) ∧
  (∀ k : DieIx, s.isFitted k = true → (s.dies[k]).powered = true → Answers (exec (.broadcastPairBroken (some k)) s) fun t =>
    (∀ p : PortIx, t.port k p = { s.port k p with selfMuted := true }) ∧ OtherDies k s t ∧
    ((s.dies[k]).released = true → (t.lash.srcs[srcOfDie k 1]).latched = true ∧ (t.lash.srcs[srcOfDie k 1]).active = true ∧
      ((s.lash.srcs[srcOfDie k 1]).sev = 4 → SafeIn s t)) ∧ KeepsBut (.dies :: reactParts) s t) ∧
  (Answers (exec (.broadcastPairBroken none) s) fun t => (t.lash.srcs[srcOf 8]).latched = true ∧
    (t.lash.srcs[srcOf 8]).active = true ∧ ((s.lash.srcs[srcOf 8]).sev = 4 → SafeIn s t) ∧ KeepsBut reactParts s t) ∧
  (Answers (exec .collectorSelfFault s) fun t => t.lash.collector = true ∧ (t.lash.srcs[srcOf 0]).latched = true ∧
    ((s.lash.srcs[srcOf 0]).sev = 4 → SafeIn s t) ∧ KeepsBut reactParts s t)

/-- Commands of the Lashing. ENTER_SAFE pulses source 9 (R617); SAFE_EXIT ends the safe state unless a SAFE source is
latched or active, COLLECTOR is 1 or a pin-driving TAP instruction is current (R520, R567), and SAFE_N follows the
safe state (R521; its level before READY is the model's reading, log entry 148); a W1C clears LATCHED while the source
is inactive, and a MUTE reaction with it (R512, R520). GO latches its source with INJECTED, and without a reaction
when DRY (R522), a real latch staying as it is (R523); STOP and the end of LEN end it.
Commands that complete here: enterSafe, safeExit, latchedClear, injectionGo, injectionStop, injectionEnd. -/
def Obligations.LashingCommands : Prop := ∀ (o : Origin) (n : SrcIx) (dry at_ : Bool) (len : Fin 65536) (s : State),
  s.Canonical →
  (Admits o ⟨.LSH_CTRL, 0, 0, 0⟩ 2 s → Answers (exec (.enterSafe o) s) fun t => t.done = ⟨.ok, 0⟩ ∧
    (t.lash.srcs[srcOf 9]).latched = true ∧ (t.lash.srcs[srcOf 9]).active = (s.lash.srcs[srcOf 9]).active ∧
    OtherSrcs [srcOf 9] s t ∧ ((s.lash.srcs[srcOf 9]).sev = 4 → SafeIn s t ∧ safeN t = false) ∧ KeepsBut (.done :: .pwr :: reactParts) s t) ∧
  (Admits o ⟨.LSH_CTRL, 0, 0, 0⟩ 1 s →
    (s.lash.safe = false → Answers (exec (.safeExit o) s) (Accepted s)) ∧
    (s.lash.safe = true →
      ((s.lash.collector = true ∨ s.tap.ir ∈ [TapInstr.extest, .clamp, .highz] ∨
          ∃ m : SrcIx, 4 ≤ (s.lash.srcs[m]).sev ∧ ((s.lash.srcs[m]).latched = true ∨ (s.lash.srcs[m]).still = true)) →
        Answers (exec (.safeExit o) s) fun t => t.done = ⟨.busy, 0⟩ ∧ t.lash = s.lash ∧ KeepsBut logParts s t) ∧
      (s.lash.collector = false → s.tap.ir ∉ [TapInstr.extest, .clamp, .highz] →
        (∀ m : SrcIx, 4 ≤ (s.lash.srcs[m]).sev → (s.lash.srcs[m]).latched = false ∧ (s.lash.srcs[m]).still = false) →
        Answers (exec (.safeExit o) s) fun t => t.done = ⟨.ok, 0⟩ ∧ t.lash = { s.lash with safe := false } ∧
          (s.handle.ready = true → s.pwr.inReset = false → s.pwr.st ≠ .foot → safeN t = true) ∧ MuteEnded s t ∧
          KeepsBut (.lash :: .dies :: .pairs :: logParts) s t))) ∧
  (Admits o ⟨.LSH_SRC_STAT, n.val, 0, 0⟩ 1 s →
    ((s.lash.srcs[n]).still = true → Answers (exec (.latchedClear o n) s) fun t => t.done = ⟨.busy, 0⟩ ∧ t.lash = s.lash ∧
      KeepsBut logParts s t) ∧
    ((s.lash.srcs[n]).still = false → Answers (exec (.latchedClear o n) s) fun t => t.done = ⟨.ok, 0⟩ ∧
      t.lash.srcs[n] = { s.lash.srcs[n] with
        latched := false, dry := false, injected := false, ended := false } ∧ OtherSrcs [n] s t ∧
      t.lash.safe = s.lash.safe ∧ MuteEnded s t ∧ KeepsBut (.lash :: .dies :: logParts) s t)) ∧
  (∀ w, w = mkWord [(31, 31, 1), (29, 29, b2n dry), (28, 28, b2n at_), (23, 8, len.val), (7, 0, n.val)] →
    Admits o ⟨.LSH_INJ, 0, 0, 0⟩ w s →
    ((at_ = true ∧ dry = true ∨ n.val = 0 ∨ n.val = 8 ∨ n.val = 9 ∨ srcUsed n = false) →
      Answers (exec (.injectionGo o n dry at_ len) s) fun t => t.done = ⟨.badProgram, 0⟩ ∧ t.lash = s.lash ∧ KeepsBut logParts s t) ∧
    (¬(at_ = true ∧ dry = true) → ¬(n.val = 0 ∨ n.val = 8 ∨ n.val = 9) → srcUsed n = true →
      (s.lash.inj ≠ none → Answers (exec (.injectionGo o n dry at_ len) s) fun t => t.done = ⟨.busy, 0⟩ ∧ t.lash = s.lash ∧
        KeepsBut logParts s t) ∧
      (s.lash.inj = none → Answers (exec (.injectionGo o n dry at_ len) s) fun t => t.done = ⟨.ok, 0⟩ ∧
        t.lash.inj = some ⟨n, dry, at_, len.val⟩ ∧ OtherSrcs [n] s t ∧
        (srcSeen n s = true → (t.lash.srcs[n]).latched = true ∧ (t.lash.srcs[n]).still = true ∧
          (t.lash.srcs[n]).count = satInc 0xFFFF (s.lash.srcs[n]).count ∧
          ((s.lash.srcs[n]).latched = false → (t.lash.srcs[n]).injected = true ∧ (t.lash.srcs[n]).dry = dry) ∧
          ((s.lash.srcs[n]).latched = true → (s.lash.srcs[n]).injected = false →
            (t.lash.srcs[n]).injected = false ∧ (t.lash.srcs[n]).dry = (s.lash.srcs[n]).dry)) ∧
        (srcSeen n s = false → t.lash.srcs[n] = s.lash.srcs[n]) ∧
        ((s.lash.srcs[n]).latched = false → dry = true → (t.lash.srcs[n]).mutes = false ∧ t.lash.safe = s.lash.safe ∧
          t.coils = s.coils ∧ t.pairs = s.pairs) ∧
        (srcSeen n s = true → dry = false → (s.lash.srcs[n]).dry = false → (s.lash.srcs[n]).ended = false →
          (s.lash.srcs[n]).sev = 4 → SafeIn s t) ∧
        KeepsBut (.regs :: .done :: .pwr :: reactParts) s t))) ∧
  (∀ j, s.lash.inj = some j →
    (Admits o ⟨.LSH_INJ, 0, 0, 0⟩ (bitsWord ⟨.LSH_INJ, 0, 0, 0⟩ 0x40000000 0 s) s → Answers (exec (.injectionStop o) s) fun t =>
      t.done = ⟨.ok, 0⟩ ∧ t.lash.inj = none ∧ t.lash.srcs[j.source] = { s.lash.srcs[j.source] with inj := false } ∧
      OtherSrcs [j.source] s t ∧ t.lash.safe = s.lash.safe ∧ KeepsBut (.lash :: .regs :: logParts) s t) ∧
    (j.len ≠ 0 → Answers (exec .injectionEnd s) fun t =>
      t.lash.inj = none ∧ t.lash.srcs[j.source] = { s.lash.srcs[j.source] with inj := false } ∧ OtherSrcs [j.source] s t ∧
      t.lash.safe = s.lash.safe ∧ KeepsBut [.lash, .skein, .cane] s t) ∧
    (j.len = 0 → exec .injectionEnd s = .next s)) ∧
  (s.lash.inj = none → exec .injectionEnd s = .next s)

/-! ## The thermal guard -/

/-- Conversions. The converter takes the oldest request of the highest priority with every request for the same die
(R529); a conversion that ends shows its reading, BROKEN and the rate (R530, R531), and the die's source follows its
state (R533); requests come from the confirmation, the guard timer and CONV for every die that may be converted (R528,
R529).
Commands that complete here: thermalConversionStart, thermalConversionDone, conversionTimeout, confirmationDue,
guardTimer, thmConv. -/
def Obligations.ThermalConversions : Prop := ∀ (o : Origin) (d : Fin 8) (temp : Int) (s : State),
  (s.thm.cur ≠ none → exec .thermalConversionStart s = .next s) ∧
  (∀ q, s.thm.cur = none → q = s.thm.queue.filter (fun r => convertible s r.die) →
    (q = [] → exec .thermalConversionStart s = .next { s with thm := { s.thm with queue := [] } }) ∧
    (∀ r, q.find? (fun x => q.all fun y => decide (x.who.prio ≤ y.who.prio)) = some r →
      exec .thermalConversionStart s = .next { s with thm := { s.thm with
        cur := some (r.die, s.time.ft, (q.filter fun x => x.die == r.die).map (·.who)),
        queue := q.filter fun x => x.die != r.die } })) ∧
  (s.thm.cur = none → exec (.thermalConversionDone temp false) s = .next s ∧ exec .conversionTimeout s = .next s) ∧
  (∀ t0 who, s.thm.cur = some (d, t0, who) → ∀ p ∈ [(Instr.thermalConversionDone temp true, true, (none : Option Int)),
      (.thermalConversionDone temp false, decide (temp < -600 ∨ 1750 < temp), some temp), (.conversionTimeout, true, none)],
    Answers (exec p.1 s) fun t => (t.thm.dies[d]).broken = p.2.1 ∧ (t.thm.dies[d]).shown = p.2.2 ∧
      (t.thm.dies[d]).lastAt = some s.time.ft ∧ t.thm.cur = none ∧
      (p.2.1 = true → (t.thm.dies[d]).rate = 0 ∧ (t.thm.dies[d]).past = (s.thm.dies[d]).past) ∧
      (∀ m, p.2.1 = false → (s.thm.dies[d]).past.find? (fun r => decide (r.t + 500000000 ≤ s.time.ft)) = some m →
        (t.thm.dies[d]).rate = roundDiv ((temp - m.temp) * 1000000000) (s.time.ft - m.t : Nat)) ∧
      (p.2.1 = false → (s.thm.dies[d]).past.find? (fun r => decide (r.t + 500000000 ≤ s.time.ft)) = none →
        (t.thm.dies[d]).rate = 0) ∧
      (∀ e : Fin 8, e ≠ d → t.thm.dies[e] = s.thm.dies[e]) ∧ t.time = s.time ∧
      (∀ n, n = (match thmDie d with | some k => srcOfDie k 8 | none => srcOf 7) → srcSeen n s = true →
        ((t.lash.srcs[n]).active = true ↔ p.2.1 = true ∨ (t.thm.dies[d]).st ∈ [ThmState.warn, .throttle, .shutdown]))) ∧
  (((s.thm.dies[d]).first ≠ none ∨ (s.thm.dies[d]).again = true) → convertible s d = true →
    Answers (exec (.confirmationDue d) s) fun t => (⟨d, .confirm⟩ : ThmReq) ∈ t.thm.queue ∧
      (t.thm.dies[d]).first = (s.thm.dies[d]).first ∧ (t.thm.dies[d]).st = (s.thm.dies[d]).st ∧ KeepsBut [.thm] s t) ∧
  (Answers (exec .guardTimer s) fun t => (∀ e, convertible s e = true → (⟨e, .timer⟩ : ThmReq) ∈ t.thm.queue) ∧
    (∀ r ∈ s.thm.queue, r ∈ t.thm.queue) ∧ t.thm.dies = s.thm.dies ∧ t.thm.cur = s.thm.cur ∧ KeepsBut [.thm] s t) ∧
  (∀ w, w = bitsWord ⟨.THM_CTRL, 0, 0, 0⟩ (mkWord [(15, 15, 1), (14, 12, d.val)]) 0x7000 s → s.thm.hold = false →
    Admits o ⟨.THM_CTRL, 0, 0, 0⟩ w s → Answers (exec (.thmConv o d) s) fun t => t.done = ⟨.ok, 0⟩ ∧
      (convertible s d = true → (⟨d, .host⟩ : ThmReq) ∈ t.thm.queue) ∧
      (convertible s d = false → t.thm.queue = s.thm.queue) ∧ t.thm.dies = s.thm.dies ∧
      KeepsBut (.regs :: .thm :: logParts) s t)

/-- States of the dies. One reading changes no state but that of a die in OFF; a second one, at least 10 ms later,
confirms a crossing as far as both agree, or cancels it (R532). A confirmed SHUTDOWN stops every strand and holds the
transmitters off (R535); REARM or the automatic re-arm ends the hold once no die is in SHUTDOWN (R536); one hub
reading outside closes the MRAM window, a confirmation reopens it, and a stale reading leaves it undecided (R537).
Commands that complete here: thermalConversionDone, rearm, mramReadingStale, rearmWindowExpiry. -/
def Obligations.ThermalStates : Prop := ∀ (o : Origin) (d : Fin 8) (temp : Int) (s : State),
  (∀ t0 who r, s.thm.cur = some (d, t0, who) → -600 ≤ temp → temp ≤ 1750 → mkReading d false temp s = r →
    Answers (exec (.thermalConversionDone temp false) s) fun t =>
    ((s.thm.dies[d]).st = .off → (t.thm.dies[d]).again = true ∧ (t.thm.dies[d]).st =
      (if 1250 ≤ temp then .shutdown else if 1150 ≤ temp ∨ r.fast = true then .throttle
       else if 1050 ≤ temp then .warn else .normal)) ∧
    ((s.thm.dies[d]).st ≠ .off → (s.thm.dies[d]).first = none → (t.thm.dies[d]).st = (s.thm.dies[d]).st ∧
      ((s.thm.dies[d]).st = .normal → ((t.thm.dies[d]).first ≠ none ↔ 1050 ≤ temp ∨ r.fast = true))) ∧
    (∀ a, (s.thm.dies[d]).first = some a → (s.thm.dies[d]).st ≠ .off →
      (s.time.ft < a.t + 10000000 → (t.thm.dies[d]).st = (s.thm.dies[d]).st ∧ (t.thm.dies[d]).first = some a) ∧
      (a.t + 10000000 ≤ s.time.ft →
        ((s.thm.dies[d]).st = .normal → (t.thm.dies[d]).st =
          (if a.meets .shutdown = true ∧ 1250 ≤ temp then .shutdown
           else if a.meets .throttle = true ∧ (1150 ≤ temp ∨ r.fast = true) then .throttle
           else if a.meets .warn = true ∧ 1050 ≤ temp then .warn else .normal)) ∧
        ((s.thm.dies[d]).st = .normal → (t.thm.dies[d]).st = .throttle →
          (t.thm.dies[d]).n = 1 ∧ (t.thm.dies[d]).stepAt = s.time.ft) ∧
        ((s.thm.dies[d]).st = .warn → a.meets .shutdown = true → 1250 ≤ temp → (t.thm.dies[d]).st = .shutdown) ∧
        ((s.thm.dies[d]).st = .warn → a.level < 1000 → a.fast = false → temp < 1000 → r.fast = false →
          (t.thm.dies[d]).st = .normal) ∧
        ((s.thm.dies[d]).st = .throttle → a.level < 1100 → a.fast = false → temp < 1100 → r.fast = false →
          (t.thm.dies[d]).st = .warn) ∧
        ((s.thm.dies[d]).st = .shutdown → a.level < 1000 → temp < 1000 → (t.thm.dies[d]).st = .normal))) ∧
    ((s.thm.dies[d]).st ≠ .shutdown → (t.thm.dies[d]).st = .shutdown → t.thm.hold = true ∧ t.thm.shutDie = d.val ∧
      t.thm.shutCause = 1 ∧ t.thm.shutdowns = satInc 0xFF s.thm.shutdowns ∧
      ∀ k i, (t.strand k i).st ≠ .running ∧ (t.strand k i).st ≠ .starting) ∧
    (d = 0 → (-400 ≤ temp → temp ≤ 1300 →
        (s.thm.win = .opened → t.thm.win = .opened) ∧ (s.thm.win = .neither → t.thm.win = .opened) ∧
        (s.thm.win = .closed → s.thm.winFirst = none → t.thm.win = .closed ∧ t.thm.winFirst = some s.time.ft) ∧
        (∀ a, s.thm.win = .closed → s.thm.winFirst = some a →
          t.thm.win = (if s.time.ft < a + 10000000 then .closed else .opened))) ∧
      ((temp < -400 ∨ 1300 < temp) → t.thm.win = .closed) ∧ t.thm.hubAt = s.time.ft ∧ t.thm.stale = false) ∧
    (d ≠ 0 → t.thm.win = s.thm.win)) ∧
  (∀ w, w = bitsWord ⟨.THM_CTRL, 0, 0, 0⟩ 0x10000 0 s → Admits o ⟨.THM_CTRL, 0, 0, 0⟩ w s →
    (anyShut s = true → Answers (exec (.rearm o) s) fun t => t.done = ⟨.busy, 0⟩ ∧ t.thm = s.thm ∧ KeepsBut logParts s t) ∧
    (anyShut s = false → s.thm.hold = false → Answers (exec (.rearm o) s) fun t => t.done = ⟨.ok, 0⟩ ∧ t.thm = s.thm ∧
      KeepsBut (.regs :: logParts) s t) ∧
    (anyShut s = false → s.thm.hold = true → autoOk s = false → s.Canonical → Answers (exec (.rearm o) s) fun t =>
      t.done = ⟨.ok, 0⟩ ∧ t.thm = { s.thm with hold := false } ∧
      (∀ k p, (s.port k p).parked = true → (s.port k p).pend = none → (t.port k p).pend = some ((s.port k p).target, (s.port k p).duplex)) ∧
      KeepsBut (.regs :: .thm :: .dies :: logParts) s t) ∧
    (anyShut s = false → s.thm.hold = true → autoOk s = true → s.Canonical → Answers (exec (.rearm o) s) fun t =>
      t.done = ⟨.ok, 0⟩ ∧ t.thm = { s.thm with
        hold := false, rearms := s.thm.rearms + 1 } ∧ KeepsBut (.regs :: .thm :: .dies :: logParts) s t)) ∧
  (exec .mramReadingStale s = .next { s with thm := { s.thm with stale := true } }) ∧
  (s.thm.hold = false → exec .rearmWindowExpiry s = .next { s with thm := { s.thm with rearms := s.thm.rearms - 1 } }) ∧
  (s.thm.hold = true → anyShut s = false → bit (s.cfg0 .THM_CTRL) 8 = true → s.thm.rearms = 3 →
    Answers (exec .rearmWindowExpiry s) fun t => t.thm.hold = false ∧ t.thm.rearms = 3 ∧ t.thm.dies = s.thm.dies ∧
      KeepsBut [.thm, .dies, .skein, .tally, .cane] s t)

/-! ## Clocks and power -/

/-- Power states. DOZE and FOOT close the Lid and stop the strands, and are refused while R476 holds or an entry or wake
is in progress (R550, R553, R563); at the end of an entry the band dies lose their state, or all but the foot domain
(R546, R550, R553); the enabled wake sources wake (R551), one during an entry once it has ended (R557); leaving
Foot-only boots the device with fabric time from 0 and wall time kept, or fails after 100 ms (R554).
Commands that complete here: doze, foot, dozeReached, wake, wakeTimer, coexWakeEdge, footOnlyReached,
footExitRailsReady, mainEnTimeout. -/
def Obligations.PowerStates : Prop := ∀ (o : Origin) (hub : Option Int) (s : State),
  (∀ p ∈ [(Instr.doze o, (1 : Word)), (.foot o, 0x5A04)], Admits o ⟨.PWR_CTRL, 0, 0, 0⟩ p.2 s →
    (s.handle.lent = true ∨ s.pwr.transit ≠ none) → Answers (exec p.1 s) fun t => t.done = ⟨.busy, 0⟩ ∧
      t.pwr.transit = s.pwr.transit ∧ t.pwr.st = s.pwr.st ∧ KeepsBut logParts s t) ∧
  (∀ p ∈ [(Instr.doze o, (1 : Word), Transit.toDoze), (.foot o, 0x5A04, .toFoot)], Admits o ⟨.PWR_CTRL, 0, 0, 0⟩ p.2.1 s →
    s.handle.lent = false → s.pwr.transit = none → s.pwr.st = .active → (p.2.2 = .toFoot → mramVerdict s = .allowed) →
    Answers (exec p.1 s) fun t => t.done = ⟨.ok, 0⟩ ∧ t.pwr.transit = some p.2.2 ∧ t.pwr.st = .active ∧ t.lid.st = .closed ∧
      (∀ k i, (t.strand k i).st ≠ .running ∧ (t.strand k i).st ≠ .starting) ∧
      (∀ c : CoilIx, coilClass c = 0 → (t.coils[c]).st ≠ .stopped → (t.coils[c]).stopWait = true) ∧
      (∀ c : CoilIx, coilClass c ≠ 0 → t.coils[c] = s.coils[c]) ∧ t.wale = s.wale ∧ t.plait = s.plait ∧ t.pairs = s.pairs ∧
      t.regs = s.regs ∧ t.mem = s.mem ∧ t.handle = s.handle) ∧
  (Admits o ⟨.PWR_CTRL, 0, 0, 0⟩ 1 s → s.handle.lent = false → s.pwr.transit = none → s.pwr.st ≠ .active →
    Answers (exec (.doze o) s) (Accepted s)) ∧
  (Admits o ⟨.PWR_CTRL, 0, 0, 0⟩ 0x5A04 s → s.handle.lent = false → s.pwr.transit = none → mramVerdict s = .refused →
    Answers (exec (.foot o) s) fun t => t.done = ⟨.thermalHold, 0⟩ ∧ t.pwr.transit = none ∧ t.pwr.st = s.pwr.st ∧
      KeepsBut logParts s t) ∧
  (s.pwr.transit ≠ some .toDoze → exec .dozeReached s = .next s) ∧
  (s.pwr.transit = some .toDoze → allQuiet s = true → s.pwr.wakePend = none → Answers (exec .dozeReached s) fun t =>
    t.pwr.st = .doze ∧ t.pwr.transit = none ∧ t.pwr.entered = s.time.ft ∧ (∀ k : DieIx, t.dies[k] = Die.reset) ∧
    (∀ n : SrcIx, (t.lash.srcs[n]).latched = (s.lash.srcs[n]).latched) ∧
    (∀ x : RegKey, keyAddr x < 0x01400000 → regGet t.regs x = regGet s.regs x) ∧
    KeepsBut [.pwr, .dies, .regs, .mem, .lash, .thm, .skein, .cane] s t) ∧
  (∀ c, s.pwr.transit = some .toDoze → allQuiet s = true → s.pwr.wakePend = some c → s.handle.mcSlot ≠ none → 0 < s.fitted →
    Answers (exec .dozeReached s) fun t => t.pwr.transit = some .wake ∧ t.pwr.lastWake = c ∧ t.pwr.wakePend = none ∧
      ∀ k : DieIx, t.dies[k] = { Die.reset with powered := s.isFitted k }) ∧
  (∀ p ∈ [(Instr.wake o, 2), (.wakeTimer, 3), (.coexWakeEdge, 4)],
    (p.2 = 2 → Admits o ⟨.PWR_CTRL, 0, 0, 0⟩ 2 s) → (p.2 = 3 → fld (s.cfg0 .WAKE_CFG) 31 16 ≠ 0) →
    (p.2 = 4 → bit (s.cfg0 .WAKE_CFG) 2 = true ∧ (coexRole s = 1 ∨ coexRole s = 2)) → s.pwr.st = .doze →
    (s.pwr.transit = none → s.handle.mcSlot ≠ none → (∃ k : DieIx, s.isFitted k = true ∧ (s.dies[k]).released = false) →
      Answers (exec p.1 s) fun t => t.pwr.transit = some .wake ∧ t.pwr.lastWake = p.2 ∧ t.pwr.st = .doze ∧
        t.pwr.wakes = satInc 0xFFFF s.pwr.wakes ∧ (∀ k : DieIx, t.dies[k] = { s.dies[k] with powered := s.isFitted k }) ∧
        KeepsBut (.dies :: logParts) s t) ∧
    (s.pwr.transit = some .toFoot → s.pwr.wakePend = none → Answers (exec p.1 s) fun t => t.pwr.wakePend = some p.2 ∧
      t.pwr.transit = some .toFoot ∧ KeepsBut logParts s t)) ∧
  (Admits o ⟨.PWR_CTRL, 0, 0, 0⟩ 2 s → s.pwr.st = .active → s.pwr.transit = none → Answers (exec (.wake o) s) (Accepted s)) ∧
  (fld (s.cfg0 .WAKE_CFG) 31 16 = 0 → exec .wakeTimer s = .next s) ∧
  (s.pwr.st ≠ .doze → exec .coexWakeEdge s = .next s) ∧
  (s.pwr.st = .foot → s.pwr.transit = none → fld (s.cfg0 .WAKE_CFG) 31 16 ≠ 0 → Answers (exec .wakeTimer s) fun t =>
    t.pwr.transit = some .fromFoot ∧ t.pwr.mainEn = true ∧ t.pwr.lastWake = 3 ∧ KeepsBut [.pwr] s t) ∧
  (s.pwr.transit = some .toFoot → (s.pwr.st ≠ .active ∨ allQuiet s = true) → mramVerdict s = .allowed → s.pwr.wakePend = none →
    Answers (exec .footOnlyReached s) fun t => t.pwr.st = .foot ∧ t.pwr.transit = none ∧ t.pwr.mainEn = false ∧
      t.pwr.footEntries = satInc 0xFF s.pwr.footEntries ∧ (∀ k : DieIx, t.dies[k] = Die.reset) ∧
      (∀ c : CoilIx, (t.coils[c]).st = .stopped) ∧ (∀ n : PairIx, (t.pairs[n]).en = false) ∧ t.cane.st = .quiet ∧
      (∀ w : WaleIx, (t.wport w).st ≠ .up) ∧ t.plait.driven = false ∧ t.wall = s.wall ∧ t.time.epoch = s.time.epoch ∧ t.thm.mailbox = s.thm.mailbox ∧
      t.lid.fails = s.lid.fails ∧ t.cfg0 .WAKE_CFG = s.cfg0 .WAKE_CFG) ∧
  (s.pwr.transit ≠ some .fromFoot → Answers (exec (.footExitRailsReady hub) s) fun t => KeepsBut [.skein, .cane, .pwr] s t) ∧
  (s.pwr.transit = some .fromFoot → Answers (exec (.footExitRailsReady hub) s) fun t => Booted hub s t ∧ t.time.ft = 0 ∧
    t.wall = s.wall ∧ (s.pwr.st = .foot → t.pwr.fromFoot = true)) ∧
  (s.pwr.transit = some .fromFoot → Answers (exec .mainEnTimeout s) fun t => t.pwr.transit = none ∧ t.pwr.mainEn = false ∧
    t.pwr.st = s.pwr.st ∧ KeepsBut [.pwr, .skein, .cane] s t) ∧
  (s.pwr.transit ≠ some .fromFoot → exec .mainEnTimeout s = .next s)

/-- Power failure, rails, references and clock domains. A fall of POWER_FAIL_N starts the writes, sends every port to
Sleep and stops every coil but the input coils (R555); its rise resets the device once the writes have ended (R496,
R556); a rail out of its window resets all but MRAM and OTP (R548). The losses and returns of the references are shown
(R542, R543), and after 10 ms no die PLL is locked (R543). A domain runs while it is wanted and until its stop (R545).
Commands that complete here: powerFailFall, powerFailWriteEnd, powerFailRise, railOutOfRange, refLost, refRestored,
refHoldoverExpiry, xtalLost, xtalRestored, clockDomainStop. -/
def Obligations.PowerFailAndClocks : Prop := ∀ (hub : Option Int) (d : ClockDom) (s : State),
  (s.pwr.inReset = true → exec .powerFailFall s = .next { s with pwr := { s.pwr with failLow := true } }) ∧
  (s.pwr.inReset = false → s.pwr.st = .foot → Answers (exec .powerFailFall s) fun t => t.pwr.pfails = satInc 0xFF s.pwr.pfails ∧
    t.pwr.failLow = true ∧ t.pwr.failWrites = s.pwr.failWrites ∧ KeepsBut [.pwr, .skein, .cane] s t) ∧
  (s.pwr.inReset = false → s.pwr.st ≠ .foot → Answers (exec .powerFailFall s) fun t => t.pwr.pfails = satInc 0xFF s.pwr.pfails ∧
    t.pwr.failLow = true ∧ t.pwr.failWrites = true ∧ t.pwr.transit = none ∧ t.pwr.st = s.pwr.st ∧
    (∀ k p, (t.port k p).parked = true ∧ (t.port k p).inProg = none ∧ (t.port k p).pend = none) ∧
    (∀ c : CoilIx, coilClass c ≠ 1 → (t.coils[c]).st = .stopped) ∧
    (mramVerdict s = .allowed → s.skein.flushing = none → t.skein.flushing ≠ none ∧ t.skein.buffer = []) ∧ t.regs = s.regs ∧ t.mem = s.mem) ∧
  (s.pwr.failWrites = false → exec .powerFailWriteEnd s = .next s) ∧
  (s.pwr.failWrites = true → mramVerdict s = .allowed → s.skein.clearWait = [] → s.skein.unreported = 0 →
    Answers (exec .powerFailWriteEnd s) fun t => t.pwr = { s.pwr with failWrites := false } ∧ t.tally.staged = [] ∧
      t.skein.flushing = none ∧ t.skein.buffer = [] ∧ t.skein.next = s.skein.next ∧ t.tally.next = s.tally.next ∧
      (∀ r, t.skein.newest ≠ some (r, false)) ∧ KeepsBut [.pwr, .tally, .skein, .mem] s t) ∧
  (s.pwr.failLow = true → s.pwr.st ≠ .foot → s.pwr.inReset = false → Answers (exec (.powerFailRise hub) s) fun t =>
    Booted hub (powerFailEnd s) t ∧ t.pwr.failLow = false ∧ t.pwr.pfails = s.pwr.pfails) ∧
  (s.pwr.failLow = true → (s.pwr.st = .foot ∨ s.pwr.inReset = true) →
    exec (.powerFailRise hub) s = .next { s with pwr := { s.pwr with failLow := false } }) ∧
  (s.pwr.failLow = false → exec (.powerFailRise hub) s = .next s) ∧
  (Answers (exec .railOutOfRange s) fun t => t.pwr.inReset = true ∧ t.pwr.failLow = s.pwr.failLow ∧ t.regs = [] ∧ t.dies = State.reset.dies ∧
    t.coils = State.reset.coils ∧ t.lash = State.reset.lash ∧ t.wale = State.reset.wale ∧ t.lid.st = .closed ∧
    t.handle.svnMin = s.handle.svnMin ∧ t.handle.copyA = s.handle.copyA ∧ t.handle.copyB = s.handle.copyB ∧
    ∀ a, a < 2 ^ 40 → memGet t.mem (Space.mram.base + a) = memGet s.mem (Space.mram.base + a)) ∧
  (upPortUp s = false → s.pwr.refLost = false → Answers (exec .refLost s) fun t => t.pwr = { s.pwr with refLost := true } ∧
    KeepsBut [.pwr, .skein, .cane] s t) ∧
  (upPortUp s = true → exec .refLost s = .next s) ∧
  (s.pwr.refLost = true → Answers (exec .refRestored s) fun t => t.pwr = { s.pwr with refLost := false, refLong := false } ∧
    KeepsBut [.pwr, .skein, .cane] s t) ∧
  (s.pwr.refLost = false → exec .refRestored s = .next s ∧ exec .refHoldoverExpiry s = .next s) ∧
  (s.pwr.refLost = true → s.pwr.refLong = false → Answers (exec .refHoldoverExpiry s) fun t =>
    t.pwr = { s.pwr with refLong := true } ∧ ∀ k : DieIx, (t.dies[k]).pllLock = false) ∧
  (∀ p ∈ [(Instr.xtalLost, true), (.xtalRestored, false)],
    (s.pwr.footRc = p.2 → exec p.1 s = .next s) ∧
    (s.pwr.footRc ≠ p.2 → Answers (exec p.1 s) fun t => t.pwr = { s.pwr with footRc := p.2 } ∧
      KeepsBut [.pwr, .skein, .cane] s t)) ∧
  (Answers (exec (.clockDomainStop d) s) fun t =>
    (clockWanted s d = false → clockRuns t d = false) ∧ (clockWanted s d = true → s.pwr.st ≠ .foot → clockRuns t d = true) ∧
    (∀ e, e ≠ d → clockRuns t e = clockRuns s e) ∧ KeepsBut [.pwr] s t)

/-! ## The Lid, the TAP and the random generator -/

/-- The Lid. OPEN and SET_PW are taken with a length from 8 to 32 (R560, R561), OPEN not while a check runs, in a lockout
or with a stopped generator (R564, R569); a check ends in Service, or counts a failure, from the tenth on with a
lockout that doubles (R560, R564); a close discards the staging window, ends the halts and returns the TAP to IDCODE
(R563).
Commands that complete here: lidOpen, lidClose, setPw, passwordCheckDone, lockoutEnd, lidIdleExpiry. -/
def Obligations.LidStates : Prop := ∀ (o : Origin) (len : Fin 64) (s : State),
  (Admits o ⟨.LID_CTRL, 0, 0, 0⟩ (mkWord [(13, 8, len.val), (0, 0, 1)]) s →
    ((len.val < 8 ∨ 32 < len.val) → Answers (exec (.lidOpen o len) s) fun t => t.done = ⟨.badProgram, 0⟩ ∧ t.lid = s.lid ∧
      KeepsBut logParts s t) ∧
    (8 ≤ len.val → len.val ≤ 32 →
      ((s.lid.rngFail = true ∨ s.lid.lockLeft ≠ 0 ∨ s.lid.checking ≠ none) → Answers (exec (.lidOpen o len) s) fun t =>
        t.done = ⟨.busy, 0⟩ ∧ t.lid = s.lid ∧ KeepsBut logParts s t) ∧
      (s.lid.rngFail = false → s.lid.lockLeft = 0 → s.lid.checking = none → Answers (exec (.lidOpen o len) s)
        (Accepted { s with lid := { s.lid with checking := some ⟨len.val, pwWords s, false⟩ } })))) ∧
  (Admits o ⟨.LID_CTRL, 0, 0, 0⟩ 2 s →
    (s.lid.st = .closed → Answers (exec (.lidClose o) s) (Accepted s)) ∧
    (s.lid.st ≠ .closed → Answers (exec (.lidClose o) s) fun t => t.done = ⟨.ok, 0⟩ ∧
      t.lid = { s.lid with st := .closed } ∧ t.tap.ir = .idcode ∧ t.tap.haltHandle = false ∧ t.tap.haltCores = 0 ∧
      (s.reg.busy = none → t.reg = { s.reg with staged := false }) ∧
      (s.reg.busy ≠ none → t.reg = { s.reg with dropAfter := true }) ∧ KeepsBut (.lid :: .tap :: .reg :: logParts) s t)) ∧
  (Admits o ⟨.LID_CTRL, 0, 0, 0⟩ (mkWord [(13, 8, len.val), (2, 2, 1)]) s → 8 ≤ len.val → len.val ≤ 32 →
    (s.lid.st = .closed → Answers (exec (.setPw o len) s) fun t => t.done = ⟨.lidClosed, 0⟩ ∧ t.lid = s.lid ∧
      KeepsBut logParts s t) ∧
    (s.lid.st ≠ .closed → s.lid.rngFail = false → mramVerdict s = .refused → Answers (exec (.setPw o len) s) fun t =>
      t.done = ⟨.thermalHold, 0⟩ ∧ lidRecord t = lidRecord s) ∧
    (s.lid.st ≠ .closed → s.lid.rngFail = false → mramVerdict s = .allowed → Answers (exec (.setPw o len) s) fun t =>
      t.done = ⟨.ok, 0⟩ ∧ t.lid.st = s.lid.st ∧ t.lid.pwInitial = false ∧ t.lid.result = .ok ∧
      (∃ b r, lidRecord t = some (b, r) ∧ r.hash = pwHash r.salt (leBytes len.val (pwWords s)) ∧
        r.salt = Config.random s.freeCtr % 2 ^ 128) ∧ KeepsBut (.lid :: .freeCtr :: logParts) s t)) ∧
  (s.lid.checking = none → exec .passwordCheckDone s = .next s) ∧
  (∀ c, s.lid.checking = some c → Answers (exec .passwordCheckDone s) fun t => t.lid.checking = none ∧
    t.lid.pw = Vector.replicate 8 0 ∧
    (∀ b r, lidRecord s = some (b, r) → r.hash = pwHash r.salt (leBytes c.len c.pw) →
      t.lid.result = .ok ∧ t.lid.fails = 0 ∧ t.lid.lockLeft = 0 ∧
      (s.lid.st = .closed → t.lid.st = .service ∧ t.lid.openedBy = b2n c.tap) ∧ (s.lid.st ≠ .closed → t.lid.st = s.lid.st)) ∧
    ((∀ b r, lidRecord s = some (b, r) → r.hash ≠ pwHash r.salt (leBytes c.len c.pw)) →
      t.lid.result = .accessDenied ∧ t.lid.fails = satInc 255 s.lid.fails ∧ t.lid.st = s.lid.st ∧
      t.lid.lockLeft = (if 10 ≤ satInc 255 s.lid.fails then min (2 ^ (satInc 255 s.lid.fails - 10)) 65536 else s.lid.lockLeft) ∧
      (10 ≤ satInc 255 s.lid.fails → t.lid.lockAt = s.time.ft)) ∧
    t.reg = s.reg ∧ KeepsBut [.lid, .skein, .tally, .cane] s t) ∧
  (exec .lockoutEnd s = .next { s with lid := { s.lid with lockLeft := 0 } }) ∧
  ((fld (s.cfg0 .LID_CFG) 7 0 = 0 ∨ s.lid.st = .closed) → exec .lidIdleExpiry s = .next s) ∧
  (fld (s.cfg0 .LID_CFG) 7 0 ≠ 0 → s.lid.st ≠ .closed → Answers (exec .lidIdleExpiry s) fun t =>
    t.lid = { s.lid with st := .closed } ∧ t.tap.ir = .idcode ∧ KeepsBut [.lid, .tap, .reg, .skein, .tally, .cane] s t)

/-- The TAP and the generator. An instruction that the Lid state does not allow acts as BYPASS (R559, R565); EXTEST, CLAMP
and HIGHZ raise source 9 first (R567); a challenge answers one response within 60 s, and only a good one opens Factory
(R562, R564); REGACC accesses with origin Lid (R566), HALT and HMEM reach the processors and memories (R565, R566). A
failed health test stops the generator until a test passes (R569).
Commands that complete here: tapReset, bypass, idcode, extest, highz, clamp, lidclose, tapHalt, hmem, samplePreload,
regacc, lidchal, lidresp, lidpw, rngHealthFail, rngRetest. -/
def Obligations.TapInstructions : Prop := ∀ (bits sig pw : Nat) (len : Fin 64) (addr w : Word) (wr pass : Bool) (s : State),
  (exec .tapReset s = .next { s with tap := { s.tap with ir := .idcode } }) ∧
  (exec .bypass s = .next { s with tap := { s.tap with ir := .bypass } }) ∧
  (Answers (exec .idcode s) fun t => t.tap = { s.tap with
      ir := .idcode, shiftOut := (mkWord [(31, 28, 1), (27, 12, partCode s), (11, 1, 0x2E5), (0, 0, 1)]).toNat } ∧
    KeepsBut [.tap] s t) ∧
  (∀ c ∈ [Instr.extest bits, .clamp, .highz, .lidclose, .tapHalt bits, .hmem addr w wr], s.lid.st ≠ .factory →
    Answers (exec c s) fun t => t.tap = { s.tap with ir := .bypass } ∧ KeepsBut [.tap, .skein, .cane] s t) ∧
  (∀ c ∈ [Instr.samplePreload bits, .regacc addr w wr], s.lid.st = .closed → Answers (exec c s) fun t =>
    t.tap = { s.tap with ir := .bypass } ∧ KeepsBut [.tap, .skein, .cane] s t) ∧
  (∀ p ∈ [(Instr.extest bits, TapInstr.extest, bits), (.clamp, .clamp, s.tap.scan), (.highz, .highz, s.tap.scan)],
    s.lid.st = .factory → Answers (exec p.1 s) fun t => t.tap = { s.tap with ir := p.2.1, scan := p.2.2 } ∧
      (t.lash.srcs[srcOf 9]).latched = true ∧ ((s.lash.srcs[srcOf 9]).sev = 4 → SafeIn s t ∧ tapDrives t = true) ∧
      KeepsBut (.tap :: reactParts) s t) ∧
  (s.lid.st ≠ .closed → exec (.samplePreload bits) s = .next { s with
    tap := { s.tap with ir := .samplePreload, scan := bits } }) ∧
  (s.lid.rngFail = false → Answers (exec .lidchal s) fun t =>
    t.lid = { s.lid with
      chalSeq := seqNext s.lid.chalSeq,
      chal := some (seqNext s.lid.chalSeq, Config.random s.freeCtr % 2 ^ 256, s.time.ft) } ∧
    t.tap.shiftOut = leNat (challenge s (seqNext s.lid.chalSeq) (Config.random s.freeCtr % 2 ^ 256)) ∧
    KeepsBut [.tap, .lid, .freeCtr] s t) ∧
  (s.lid.rngFail = true → Answers (exec .lidchal s) fun t => t.tap.shiftOut = 0 ∧ KeepsBut [.tap] s t) ∧
  (s.lid.lockLeft ≠ 0 → Answers (exec (.lidresp sig) s) fun t => t.lid = { s.lid with result := .busy } ∧
    t.tap.shiftOut = Code.busy.num ∧ KeepsBut [.tap, .lid] s t) ∧
  (∀ q n t0, s.lid.lockLeft = 0 → s.lid.chal = some (q, n, t0) → s.time.ft < t0 + 60000000000 →
    Config.verifies (Config.otpKey 1) (sha384 (challenge s q n)) (sig % 2 ^ 768) = true →
    Answers (exec (.lidresp sig) s) fun t => t.lid.st = .factory ∧ t.lid.fails = 0 ∧ t.lid.result = .ok ∧ t.lid.chal = none ∧
      t.tap.shiftOut = 0 ∧ KeepsBut [.tap, .lid, .skein, .tally, .cane] s t) ∧
  (s.lid.lockLeft = 0 → (∀ q n t0, s.lid.chal = some (q, n, t0) → t0 + 60000000000 ≤ s.time.ft ∨
      Config.verifies (Config.otpKey 1) (sha384 (challenge s q n)) (sig % 2 ^ 768) = false) →
    Answers (exec (.lidresp sig) s) fun t => t.lid.st = s.lid.st ∧ t.lid.fails = satInc 255 s.lid.fails ∧
      t.lid.result = .accessDenied ∧ t.lid.chal = none ∧ t.tap.shiftOut = Code.accessDenied.num) ∧
  ((len.val < 8 ∨ 32 < len.val) → Answers (exec (.lidpw len pw) s) fun t => t.lid = { s.lid with result := .badProgram } ∧
    KeepsBut [.tap, .lid] s t) ∧
  (8 ≤ len.val → len.val ≤ 32 → s.lid.rngFail = false → s.lid.lockLeft = 0 → s.lid.checking = none →
    Answers (exec (.lidpw len pw) s) fun t => t.lid = { s.lid with checking := some ⟨len.val, pw % 2 ^ 256, true⟩ } ∧
      KeepsBut [.tap, .lid] s t) ∧
  (s.lid.st = .factory → Answers (exec .lidclose s) fun t => t.lid = { s.lid with st := .closed } ∧ t.tap.ir = .idcode ∧
    t.tap.haltHandle = false ∧ t.tap.haltCores = 0 ∧ KeepsBut [.lid, .tap, .reg, .skein, .tally, .cane] s t) ∧
  (s.lid.st ≠ .closed → s.tap.hmWait = none →
    (∀ r, readAt .lid 4 addr { s with tap := { s.tap with ir := .regacc } } = r → wr = false →
      Answers (exec (.regacc addr w wr) s) fun t => t.tap.resCode = r.1 ∧ t.tap.resDone = true ∧
        t.tap.resData = (if r.1 = .ok then r.2.1 else 0) ∧ KeepsBut [.done, .tap] r.2.2 t) ∧
    (∀ r, writeAt .lid 4 addr w { s with tap := { s.tap with ir := .regacc } } = r → wr = true →
      Answers (exec (.regacc addr w wr) s) fun t => t.tap.resCode = r.1 ∧ t.tap.resDone = true ∧ t.tap.resData = 0)) ∧
  (s.lid.st = .factory → Answers (exec (.tapHalt bits) s) fun t => t.tap.haltHandle = (bits % 2 == 1) ∧
    t.tap.haltCores = bits / 16 % 16 ∧ handleWorks t = (s.handle.st != .restart && !(bits % 2 == 1)) ∧
    KeepsBut [.tap, .skein, .cane] s t) ∧
  (∀ sp off, s.lid.st = .factory → s.tap.hmWait = none → hmemPlace (addr.toNat / 4 * 4) = some (sp, off) →
    (wr = false → Answers (exec (.hmem addr w wr) s) fun t => t.tap.resData = readWord sp off s ∧ t.tap.resCode = .ok ∧
      t.tap.resDone = true ∧ KeepsBut [.tap] s t) ∧
    (wr = true → (sp = .handleSram ∨ mramVerdict s = .allowed) → Memory.wf s.mem = true →
      Answers (exec (.hmem addr w wr) s) fun t => readWord sp off t = w ∧ t.tap.resCode = .ok ∧ t.tap.resDone = true ∧
        (∀ a, (a < sp.base + off ∨ sp.base + off + 4 ≤ a) → memGet t.mem a = memGet s.mem a) ∧ KeepsBut [.tap, .mem] s t)) ∧
  (s.lid.rngFail = false → Answers (exec .rngHealthFail s) fun t => t.lid = { s.lid with rngFail := true } ∧
    KeepsBut [.lid, .skein, .cane] s t) ∧
  (s.lid.rngFail = true → exec .rngHealthFail s = .next s ∧ (pass = true → Answers (exec (.rngRetest pass) s) fun t =>
    t.lid = { s.lid with rngFail := false } ∧ KeepsBut [.lid, .skein, .cane] s t)) ∧
  ((s.lid.rngFail = false ∨ pass = false) → exec (.rngRetest pass) s = .next s)
end

