-- ==== Sys2Proof/Laws/State.lean ====
section
/-!
SUPPORT. Laws/State.lean: what each update of State leaves and what it changes, one lemma per field, so that no later
proof unfolds a record update.
-/
namespace Sys2Proof.Machine
open Sys2Proof

/-! ## Vectors -/

@[simp] theorem vset_getElem {α : Type} {n : Nat} (v : Vector α n) (i : Fin n) (x : α) (j : Nat) (h : j < n) :
    (vset v i x)[j] = if i.val = j then x else v[j] := by
  simp only [vset, Vector.getElem_set]

@[simp] theorem vmod_getElem {α : Type} {n : Nat} (v : Vector α n) (i : Fin n) (f : α → α) (j : Nat) (h : j < n) :
    (vmod v i f)[j] = if i.val = j then f v[j] else v[j] := by
  by_cases e : i.val = j
  · subst e; simp [vmod]
  · simp [vmod, e]

@[simp] theorem vmod_vmod {α : Type} {n : Nat} (v : Vector α n) (i : Fin n) (f g : α → α) :
    vmod (vmod v i f) i g = vmod v i fun x => g (f x) := by
  ext j h
  by_cases e : i.val = j <;> simp [e]

theorem vset_eq_vmod {α : Type} {n : Nat} (v : Vector α n) (i : Fin n) (x : α) : vset v i x = vmod v i fun _ => x := rfl

/-! ## A band die -/

@[simp] theorem State.modDie_pending (s : State) (k : DieIx) (f : Die → Die) : (s.modDie k f).pending = s.pending := rfl
@[simp] theorem State.modDie_done (s : State) (k : DieIx) (f : Die → Die) : (s.modDie k f).done = s.done := rfl
@[simp] theorem State.modDie_freeCtr (s : State) (k : DieIx) (f : Die → Die) : (s.modDie k f).freeCtr = s.freeCtr := rfl
@[simp] theorem State.modDie_fitted (s : State) (k : DieIx) (f : Die → Die) : (s.modDie k f).fitted = s.fitted := rfl
@[simp] theorem State.modDie_serial (s : State) (k : DieIx) (f : Die → Die) : (s.modDie k f).serial = s.serial := rfl
@[simp] theorem State.modDie_regs (s : State) (k : DieIx) (f : Die → Die) : (s.modDie k f).regs = s.regs := rfl
@[simp] theorem State.modDie_mem (s : State) (k : DieIx) (f : Die → Die) : (s.modDie k f).mem = s.mem := rfl
@[simp] theorem State.modDie_time (s : State) (k : DieIx) (f : Die → Die) : (s.modDie k f).time = s.time := rfl
@[simp] theorem State.modDie_skein (s : State) (k : DieIx) (f : Die → Die) : (s.modDie k f).skein = s.skein := rfl
@[simp] theorem State.modDie_tally (s : State) (k : DieIx) (f : Die → Die) : (s.modDie k f).tally = s.tally := rfl
@[simp] theorem State.modDie_lash (s : State) (k : DieIx) (f : Die → Die) : (s.modDie k f).lash = s.lash := rfl
@[simp] theorem State.modDie_lid (s : State) (k : DieIx) (f : Die → Die) : (s.modDie k f).lid = s.lid := rfl
@[simp] theorem State.modDie_tap (s : State) (k : DieIx) (f : Die → Die) : (s.modDie k f).tap = s.tap := rfl
@[simp] theorem State.modDie_coils (s : State) (k : DieIx) (f : Die → Die) : (s.modDie k f).coils = s.coils := rfl
@[simp] theorem State.modDie_coreQ (s : State) (k : DieIx) (f : Die → Die) : (s.modDie k f).coreQ = s.coreQ := rfl
@[simp] theorem State.modDie_coilLdr (s : State) (k : DieIx) (f : Die → Die) : (s.modDie k f).coilLdr = s.coilLdr := rfl
@[simp] theorem State.modDie_sns (s : State) (k : DieIx) (f : Die → Die) : (s.modDie k f).sns = s.sns := rfl
@[simp] theorem State.modDie_pairs (s : State) (k : DieIx) (f : Die → Die) : (s.modDie k f).pairs = s.pairs := rfl
@[simp] theorem State.modDie_plait (s : State) (k : DieIx) (f : Die → Die) : (s.modDie k f).plait = s.plait := rfl
@[simp] theorem State.modDie_coex (s : State) (k : DieIx) (f : Die → Die) : (s.modDie k f).coex = s.coex := rfl
@[simp] theorem State.modDie_wale (s : State) (k : DieIx) (f : Die → Die) : (s.modDie k f).wale = s.wale := rfl
@[simp] theorem State.modDie_cane (s : State) (k : DieIx) (f : Die → Die) : (s.modDie k f).cane = s.cane := rfl
@[simp] theorem State.modDie_reg (s : State) (k : DieIx) (f : Die → Die) : (s.modDie k f).reg = s.reg := rfl
@[simp] theorem State.modDie_handle (s : State) (k : DieIx) (f : Die → Die) : (s.modDie k f).handle = s.handle := rfl
@[simp] theorem State.modDie_thm (s : State) (k : DieIx) (f : Die → Die) : (s.modDie k f).thm = s.thm := rfl
@[simp] theorem State.modDie_pwr (s : State) (k : DieIx) (f : Die → Die) : (s.modDie k f).pwr = s.pwr := rfl

@[simp] theorem State.modDie_dies (s : State) (k : DieIx) (f : Die → Die) : (s.modDie k f).dies = vmod s.dies k f := rfl

@[simp] theorem State.modDie_modDie (s : State) (k : DieIx) (f g : Die → Die) :
    (s.modDie k f).modDie k g = s.modDie k fun d => g (f d) := by
  simp [State.modDie]

/-! ## The units of a die, as changes of the die -/

@[simp] theorem State.modStrand_eq (s : State) (k : DieIx) (i : StrandIx) (f : Strand → Strand) :
    s.modStrand k i f = s.modDie k (fun d => { d with strands := vmod d.strands i f }) := rfl
@[simp] theorem State.modRid_eq (s : State) (k : DieIx) (i : StrandIx) (f : Riddle → Riddle) :
    s.modRid k i f = s.modDie k (fun d => { d with rid := vmod d.rid i f }) := rfl
@[simp] theorem State.modProg_eq (s : State) (k : DieIx) (i : StrandIx) (f : Prog → Prog) :
    s.modProg k i f = s.modDie k (fun d => { d with prog := vmod d.prog i f }) := rfl
@[simp] theorem State.modPort_eq (s : State) (k : DieIx) (p : PortIx) (f : Port → Port) :
    s.modPort k p f = s.modDie k (fun d => { d with ports := vmod d.ports p f }) := rfl
@[simp] theorem State.modConv_eq (s : State) (k : DieIx) (p : PortIx) (f : Conv → Conv) :
    s.modConv k p f = s.modDie k (fun d => { d with conv := vmod d.conv p f }) := rfl
@[simp] theorem State.modLim_eq (s : State) (k : DieIx) (p : PortIx) (f : Limiter → Limiter) :
    s.modLim k p f = s.modDie k (fun d => { d with lims := vmod d.lims p f }) := rfl
@[simp] theorem State.modCanc_eq (s : State) (k : DieIx) (i : StrandIx) (f : Canc → Canc) :
    s.modCanc k i f = s.modDie k (fun d => { d with canc := vmod d.canc i f }) := rfl
@[simp] theorem State.modGuard_eq (s : State) (k : DieIx) (i : StrandIx) (f : Guard → Guard) :
    s.modGuard k i f = s.modDie k (fun d => { d with guards := vmod d.guards i f }) := rfl
@[simp] theorem State.modProt_eq (s : State) (k : DieIx) (i : StrandIx) (f : Prot → Prot) :
    s.modProt k i f = s.modDie k (fun d => { d with prot := vmod d.prot i f }) := rfl
@[simp] theorem State.modList_eq (s : State) (k : DieIx) (e : Fin 8) (f : PresList → PresList) :
    s.modList k e f = s.modDie k (fun d => { d with lists := vmod d.lists e f }) := rfl

theorem State.strand_eq (s : State) (k : DieIx) (i : StrandIx) : s.strand k i = (s.dies[k]).strands[i] := rfl
theorem State.rid_eq (s : State) (k : DieIx) (i : StrandIx) : s.rid k i = (s.dies[k]).rid[i] := rfl
theorem State.prog_eq (s : State) (k : DieIx) (i : StrandIx) : s.prog k i = (s.dies[k]).prog[i] := rfl
theorem State.port_eq (s : State) (k : DieIx) (p : PortIx) : s.port k p = (s.dies[k]).ports[p] := rfl
theorem State.conv_eq (s : State) (k : DieIx) (p : PortIx) : s.conv k p = (s.dies[k]).conv[p] := rfl
theorem State.canc_eq (s : State) (k : DieIx) (i : StrandIx) : s.canc k i = (s.dies[k]).canc[i] := rfl
theorem State.guard_eq (s : State) (k : DieIx) (i : StrandIx) : s.guard k i = (s.dies[k]).guards[i] := rfl
theorem State.prot_eq (s : State) (k : DieIx) (i : StrandIx) : s.prot k i = (s.dies[k]).prot[i] := rfl

/-! ## A coil -/

@[simp] theorem State.modCoil_pending (s : State) (c : CoilIx) (f : Coil → Coil) : (s.modCoil c f).pending = s.pending := rfl
@[simp] theorem State.modCoil_done (s : State) (c : CoilIx) (f : Coil → Coil) : (s.modCoil c f).done = s.done := rfl
@[simp] theorem State.modCoil_freeCtr (s : State) (c : CoilIx) (f : Coil → Coil) : (s.modCoil c f).freeCtr = s.freeCtr := rfl
@[simp] theorem State.modCoil_fitted (s : State) (c : CoilIx) (f : Coil → Coil) : (s.modCoil c f).fitted = s.fitted := rfl
@[simp] theorem State.modCoil_serial (s : State) (c : CoilIx) (f : Coil → Coil) : (s.modCoil c f).serial = s.serial := rfl
@[simp] theorem State.modCoil_regs (s : State) (c : CoilIx) (f : Coil → Coil) : (s.modCoil c f).regs = s.regs := rfl
@[simp] theorem State.modCoil_mem (s : State) (c : CoilIx) (f : Coil → Coil) : (s.modCoil c f).mem = s.mem := rfl
@[simp] theorem State.modCoil_time (s : State) (c : CoilIx) (f : Coil → Coil) : (s.modCoil c f).time = s.time := rfl
@[simp] theorem State.modCoil_skein (s : State) (c : CoilIx) (f : Coil → Coil) : (s.modCoil c f).skein = s.skein := rfl
@[simp] theorem State.modCoil_tally (s : State) (c : CoilIx) (f : Coil → Coil) : (s.modCoil c f).tally = s.tally := rfl
@[simp] theorem State.modCoil_lash (s : State) (c : CoilIx) (f : Coil → Coil) : (s.modCoil c f).lash = s.lash := rfl
@[simp] theorem State.modCoil_lid (s : State) (c : CoilIx) (f : Coil → Coil) : (s.modCoil c f).lid = s.lid := rfl
@[simp] theorem State.modCoil_tap (s : State) (c : CoilIx) (f : Coil → Coil) : (s.modCoil c f).tap = s.tap := rfl
@[simp] theorem State.modCoil_dies (s : State) (c : CoilIx) (f : Coil → Coil) : (s.modCoil c f).dies = s.dies := rfl
@[simp] theorem State.modCoil_coreQ (s : State) (c : CoilIx) (f : Coil → Coil) : (s.modCoil c f).coreQ = s.coreQ := rfl
@[simp] theorem State.modCoil_coilLdr (s : State) (c : CoilIx) (f : Coil → Coil) : (s.modCoil c f).coilLdr = s.coilLdr := rfl
@[simp] theorem State.modCoil_sns (s : State) (c : CoilIx) (f : Coil → Coil) : (s.modCoil c f).sns = s.sns := rfl
@[simp] theorem State.modCoil_pairs (s : State) (c : CoilIx) (f : Coil → Coil) : (s.modCoil c f).pairs = s.pairs := rfl
@[simp] theorem State.modCoil_plait (s : State) (c : CoilIx) (f : Coil → Coil) : (s.modCoil c f).plait = s.plait := rfl
@[simp] theorem State.modCoil_coex (s : State) (c : CoilIx) (f : Coil → Coil) : (s.modCoil c f).coex = s.coex := rfl
@[simp] theorem State.modCoil_wale (s : State) (c : CoilIx) (f : Coil → Coil) : (s.modCoil c f).wale = s.wale := rfl
@[simp] theorem State.modCoil_cane (s : State) (c : CoilIx) (f : Coil → Coil) : (s.modCoil c f).cane = s.cane := rfl
@[simp] theorem State.modCoil_reg (s : State) (c : CoilIx) (f : Coil → Coil) : (s.modCoil c f).reg = s.reg := rfl
@[simp] theorem State.modCoil_handle (s : State) (c : CoilIx) (f : Coil → Coil) : (s.modCoil c f).handle = s.handle := rfl
@[simp] theorem State.modCoil_thm (s : State) (c : CoilIx) (f : Coil → Coil) : (s.modCoil c f).thm = s.thm := rfl
@[simp] theorem State.modCoil_pwr (s : State) (c : CoilIx) (f : Coil → Coil) : (s.modCoil c f).pwr = s.pwr := rfl

@[simp] theorem State.modCoil_coils (s : State) (c : CoilIx) (f : Coil → Coil) : (s.modCoil c f).coils = vmod s.coils c f := rfl

/-! ## A pair -/

@[simp] theorem State.modPair_pending (s : State) (n : PairIx) (f : Pair → Pair) : (s.modPair n f).pending = s.pending := rfl
@[simp] theorem State.modPair_done (s : State) (n : PairIx) (f : Pair → Pair) : (s.modPair n f).done = s.done := rfl
@[simp] theorem State.modPair_freeCtr (s : State) (n : PairIx) (f : Pair → Pair) : (s.modPair n f).freeCtr = s.freeCtr := rfl
@[simp] theorem State.modPair_fitted (s : State) (n : PairIx) (f : Pair → Pair) : (s.modPair n f).fitted = s.fitted := rfl
@[simp] theorem State.modPair_serial (s : State) (n : PairIx) (f : Pair → Pair) : (s.modPair n f).serial = s.serial := rfl
@[simp] theorem State.modPair_regs (s : State) (n : PairIx) (f : Pair → Pair) : (s.modPair n f).regs = s.regs := rfl
@[simp] theorem State.modPair_mem (s : State) (n : PairIx) (f : Pair → Pair) : (s.modPair n f).mem = s.mem := rfl
@[simp] theorem State.modPair_time (s : State) (n : PairIx) (f : Pair → Pair) : (s.modPair n f).time = s.time := rfl
@[simp] theorem State.modPair_skein (s : State) (n : PairIx) (f : Pair → Pair) : (s.modPair n f).skein = s.skein := rfl
@[simp] theorem State.modPair_tally (s : State) (n : PairIx) (f : Pair → Pair) : (s.modPair n f).tally = s.tally := rfl
@[simp] theorem State.modPair_lash (s : State) (n : PairIx) (f : Pair → Pair) : (s.modPair n f).lash = s.lash := rfl
@[simp] theorem State.modPair_lid (s : State) (n : PairIx) (f : Pair → Pair) : (s.modPair n f).lid = s.lid := rfl
@[simp] theorem State.modPair_tap (s : State) (n : PairIx) (f : Pair → Pair) : (s.modPair n f).tap = s.tap := rfl
@[simp] theorem State.modPair_dies (s : State) (n : PairIx) (f : Pair → Pair) : (s.modPair n f).dies = s.dies := rfl
@[simp] theorem State.modPair_coils (s : State) (n : PairIx) (f : Pair → Pair) : (s.modPair n f).coils = s.coils := rfl
@[simp] theorem State.modPair_coreQ (s : State) (n : PairIx) (f : Pair → Pair) : (s.modPair n f).coreQ = s.coreQ := rfl
@[simp] theorem State.modPair_coilLdr (s : State) (n : PairIx) (f : Pair → Pair) : (s.modPair n f).coilLdr = s.coilLdr := rfl
@[simp] theorem State.modPair_sns (s : State) (n : PairIx) (f : Pair → Pair) : (s.modPair n f).sns = s.sns := rfl
@[simp] theorem State.modPair_plait (s : State) (n : PairIx) (f : Pair → Pair) : (s.modPair n f).plait = s.plait := rfl
@[simp] theorem State.modPair_coex (s : State) (n : PairIx) (f : Pair → Pair) : (s.modPair n f).coex = s.coex := rfl
@[simp] theorem State.modPair_wale (s : State) (n : PairIx) (f : Pair → Pair) : (s.modPair n f).wale = s.wale := rfl
@[simp] theorem State.modPair_cane (s : State) (n : PairIx) (f : Pair → Pair) : (s.modPair n f).cane = s.cane := rfl
@[simp] theorem State.modPair_reg (s : State) (n : PairIx) (f : Pair → Pair) : (s.modPair n f).reg = s.reg := rfl
@[simp] theorem State.modPair_handle (s : State) (n : PairIx) (f : Pair → Pair) : (s.modPair n f).handle = s.handle := rfl
@[simp] theorem State.modPair_thm (s : State) (n : PairIx) (f : Pair → Pair) : (s.modPair n f).thm = s.thm := rfl
@[simp] theorem State.modPair_pwr (s : State) (n : PairIx) (f : Pair → Pair) : (s.modPair n f).pwr = s.pwr := rfl

@[simp] theorem State.modPair_pairs (s : State) (n : PairIx) (f : Pair → Pair) : (s.modPair n f).pairs = vmod s.pairs n f := rfl

/-! ## A Lashing source -/

@[simp] theorem State.modSrc_pending (s : State) (n : SrcIx) (f : LashSrc → LashSrc) : (s.modSrc n f).pending = s.pending := rfl
@[simp] theorem State.modSrc_done (s : State) (n : SrcIx) (f : LashSrc → LashSrc) : (s.modSrc n f).done = s.done := rfl
@[simp] theorem State.modSrc_freeCtr (s : State) (n : SrcIx) (f : LashSrc → LashSrc) : (s.modSrc n f).freeCtr = s.freeCtr := rfl
@[simp] theorem State.modSrc_fitted (s : State) (n : SrcIx) (f : LashSrc → LashSrc) : (s.modSrc n f).fitted = s.fitted := rfl
@[simp] theorem State.modSrc_serial (s : State) (n : SrcIx) (f : LashSrc → LashSrc) : (s.modSrc n f).serial = s.serial := rfl
@[simp] theorem State.modSrc_regs (s : State) (n : SrcIx) (f : LashSrc → LashSrc) : (s.modSrc n f).regs = s.regs := rfl
@[simp] theorem State.modSrc_mem (s : State) (n : SrcIx) (f : LashSrc → LashSrc) : (s.modSrc n f).mem = s.mem := rfl
@[simp] theorem State.modSrc_time (s : State) (n : SrcIx) (f : LashSrc → LashSrc) : (s.modSrc n f).time = s.time := rfl
@[simp] theorem State.modSrc_skein (s : State) (n : SrcIx) (f : LashSrc → LashSrc) : (s.modSrc n f).skein = s.skein := rfl
@[simp] theorem State.modSrc_tally (s : State) (n : SrcIx) (f : LashSrc → LashSrc) : (s.modSrc n f).tally = s.tally := rfl
@[simp] theorem State.modSrc_lid (s : State) (n : SrcIx) (f : LashSrc → LashSrc) : (s.modSrc n f).lid = s.lid := rfl
@[simp] theorem State.modSrc_tap (s : State) (n : SrcIx) (f : LashSrc → LashSrc) : (s.modSrc n f).tap = s.tap := rfl
@[simp] theorem State.modSrc_dies (s : State) (n : SrcIx) (f : LashSrc → LashSrc) : (s.modSrc n f).dies = s.dies := rfl
@[simp] theorem State.modSrc_coils (s : State) (n : SrcIx) (f : LashSrc → LashSrc) : (s.modSrc n f).coils = s.coils := rfl
@[simp] theorem State.modSrc_coreQ (s : State) (n : SrcIx) (f : LashSrc → LashSrc) : (s.modSrc n f).coreQ = s.coreQ := rfl
@[simp] theorem State.modSrc_coilLdr (s : State) (n : SrcIx) (f : LashSrc → LashSrc) : (s.modSrc n f).coilLdr = s.coilLdr := rfl
@[simp] theorem State.modSrc_sns (s : State) (n : SrcIx) (f : LashSrc → LashSrc) : (s.modSrc n f).sns = s.sns := rfl
@[simp] theorem State.modSrc_pairs (s : State) (n : SrcIx) (f : LashSrc → LashSrc) : (s.modSrc n f).pairs = s.pairs := rfl
@[simp] theorem State.modSrc_plait (s : State) (n : SrcIx) (f : LashSrc → LashSrc) : (s.modSrc n f).plait = s.plait := rfl
@[simp] theorem State.modSrc_coex (s : State) (n : SrcIx) (f : LashSrc → LashSrc) : (s.modSrc n f).coex = s.coex := rfl
@[simp] theorem State.modSrc_wale (s : State) (n : SrcIx) (f : LashSrc → LashSrc) : (s.modSrc n f).wale = s.wale := rfl
@[simp] theorem State.modSrc_cane (s : State) (n : SrcIx) (f : LashSrc → LashSrc) : (s.modSrc n f).cane = s.cane := rfl
@[simp] theorem State.modSrc_reg (s : State) (n : SrcIx) (f : LashSrc → LashSrc) : (s.modSrc n f).reg = s.reg := rfl
@[simp] theorem State.modSrc_handle (s : State) (n : SrcIx) (f : LashSrc → LashSrc) : (s.modSrc n f).handle = s.handle := rfl
@[simp] theorem State.modSrc_thm (s : State) (n : SrcIx) (f : LashSrc → LashSrc) : (s.modSrc n f).thm = s.thm := rfl
@[simp] theorem State.modSrc_pwr (s : State) (n : SrcIx) (f : LashSrc → LashSrc) : (s.modSrc n f).pwr = s.pwr := rfl

@[simp] theorem State.modSrc_lash (s : State) (n : SrcIx) (f : LashSrc → LashSrc) :
    (s.modSrc n f).lash = { s.lash with srcs := vmod s.lash.srcs n f } := rfl

/-! ## Stored words -/

@[simp] theorem State.putReg_pending (s : State) (x : RegKey) (w : Word) : (s.putReg x w).pending = s.pending := rfl
@[simp] theorem State.putReg_done (s : State) (x : RegKey) (w : Word) : (s.putReg x w).done = s.done := rfl
@[simp] theorem State.putReg_freeCtr (s : State) (x : RegKey) (w : Word) : (s.putReg x w).freeCtr = s.freeCtr := rfl
@[simp] theorem State.putReg_fitted (s : State) (x : RegKey) (w : Word) : (s.putReg x w).fitted = s.fitted := rfl
@[simp] theorem State.putReg_serial (s : State) (x : RegKey) (w : Word) : (s.putReg x w).serial = s.serial := rfl
@[simp] theorem State.putReg_mem (s : State) (x : RegKey) (w : Word) : (s.putReg x w).mem = s.mem := rfl
@[simp] theorem State.putReg_time (s : State) (x : RegKey) (w : Word) : (s.putReg x w).time = s.time := rfl
@[simp] theorem State.putReg_skein (s : State) (x : RegKey) (w : Word) : (s.putReg x w).skein = s.skein := rfl
@[simp] theorem State.putReg_tally (s : State) (x : RegKey) (w : Word) : (s.putReg x w).tally = s.tally := rfl
@[simp] theorem State.putReg_lash (s : State) (x : RegKey) (w : Word) : (s.putReg x w).lash = s.lash := rfl
@[simp] theorem State.putReg_lid (s : State) (x : RegKey) (w : Word) : (s.putReg x w).lid = s.lid := rfl
@[simp] theorem State.putReg_tap (s : State) (x : RegKey) (w : Word) : (s.putReg x w).tap = s.tap := rfl
@[simp] theorem State.putReg_dies (s : State) (x : RegKey) (w : Word) : (s.putReg x w).dies = s.dies := rfl
@[simp] theorem State.putReg_coils (s : State) (x : RegKey) (w : Word) : (s.putReg x w).coils = s.coils := rfl
@[simp] theorem State.putReg_coreQ (s : State) (x : RegKey) (w : Word) : (s.putReg x w).coreQ = s.coreQ := rfl
@[simp] theorem State.putReg_coilLdr (s : State) (x : RegKey) (w : Word) : (s.putReg x w).coilLdr = s.coilLdr := rfl
@[simp] theorem State.putReg_sns (s : State) (x : RegKey) (w : Word) : (s.putReg x w).sns = s.sns := rfl
@[simp] theorem State.putReg_pairs (s : State) (x : RegKey) (w : Word) : (s.putReg x w).pairs = s.pairs := rfl
@[simp] theorem State.putReg_plait (s : State) (x : RegKey) (w : Word) : (s.putReg x w).plait = s.plait := rfl
@[simp] theorem State.putReg_coex (s : State) (x : RegKey) (w : Word) : (s.putReg x w).coex = s.coex := rfl
@[simp] theorem State.putReg_wale (s : State) (x : RegKey) (w : Word) : (s.putReg x w).wale = s.wale := rfl
@[simp] theorem State.putReg_cane (s : State) (x : RegKey) (w : Word) : (s.putReg x w).cane = s.cane := rfl
@[simp] theorem State.putReg_reg (s : State) (x : RegKey) (w : Word) : (s.putReg x w).reg = s.reg := rfl
@[simp] theorem State.putReg_handle (s : State) (x : RegKey) (w : Word) : (s.putReg x w).handle = s.handle := rfl
@[simp] theorem State.putReg_thm (s : State) (x : RegKey) (w : Word) : (s.putReg x w).thm = s.thm := rfl
@[simp] theorem State.putReg_pwr (s : State) (x : RegKey) (w : Word) : (s.putReg x w).pwr = s.pwr := rfl

@[simp] theorem State.putReg_regs (s : State) (x : RegKey) (w : Word) : (s.putReg x w).regs = regPut s.regs x w := rfl

/-! ## Bytes of a memory -/

@[simp] theorem writeBytes_pending (sp : Space) (a : Nat) (l : List Byte) (s : State) : (writeBytes sp a l s).pending = s.pending := rfl
@[simp] theorem writeBytes_done (sp : Space) (a : Nat) (l : List Byte) (s : State) : (writeBytes sp a l s).done = s.done := rfl
@[simp] theorem writeBytes_freeCtr (sp : Space) (a : Nat) (l : List Byte) (s : State) : (writeBytes sp a l s).freeCtr = s.freeCtr := rfl
@[simp] theorem writeBytes_fitted (sp : Space) (a : Nat) (l : List Byte) (s : State) : (writeBytes sp a l s).fitted = s.fitted := rfl
@[simp] theorem writeBytes_serial (sp : Space) (a : Nat) (l : List Byte) (s : State) : (writeBytes sp a l s).serial = s.serial := rfl
@[simp] theorem writeBytes_regs (sp : Space) (a : Nat) (l : List Byte) (s : State) : (writeBytes sp a l s).regs = s.regs := rfl
@[simp] theorem writeBytes_time (sp : Space) (a : Nat) (l : List Byte) (s : State) : (writeBytes sp a l s).time = s.time := rfl
@[simp] theorem writeBytes_skein (sp : Space) (a : Nat) (l : List Byte) (s : State) : (writeBytes sp a l s).skein = s.skein := rfl
@[simp] theorem writeBytes_tally (sp : Space) (a : Nat) (l : List Byte) (s : State) : (writeBytes sp a l s).tally = s.tally := rfl
@[simp] theorem writeBytes_lash (sp : Space) (a : Nat) (l : List Byte) (s : State) : (writeBytes sp a l s).lash = s.lash := rfl
@[simp] theorem writeBytes_lid (sp : Space) (a : Nat) (l : List Byte) (s : State) : (writeBytes sp a l s).lid = s.lid := rfl
@[simp] theorem writeBytes_tap (sp : Space) (a : Nat) (l : List Byte) (s : State) : (writeBytes sp a l s).tap = s.tap := rfl
@[simp] theorem writeBytes_dies (sp : Space) (a : Nat) (l : List Byte) (s : State) : (writeBytes sp a l s).dies = s.dies := rfl
@[simp] theorem writeBytes_coils (sp : Space) (a : Nat) (l : List Byte) (s : State) : (writeBytes sp a l s).coils = s.coils := rfl
@[simp] theorem writeBytes_coreQ (sp : Space) (a : Nat) (l : List Byte) (s : State) : (writeBytes sp a l s).coreQ = s.coreQ := rfl
@[simp] theorem writeBytes_coilLdr (sp : Space) (a : Nat) (l : List Byte) (s : State) : (writeBytes sp a l s).coilLdr = s.coilLdr := rfl
@[simp] theorem writeBytes_sns (sp : Space) (a : Nat) (l : List Byte) (s : State) : (writeBytes sp a l s).sns = s.sns := rfl
@[simp] theorem writeBytes_pairs (sp : Space) (a : Nat) (l : List Byte) (s : State) : (writeBytes sp a l s).pairs = s.pairs := rfl
@[simp] theorem writeBytes_plait (sp : Space) (a : Nat) (l : List Byte) (s : State) : (writeBytes sp a l s).plait = s.plait := rfl
@[simp] theorem writeBytes_coex (sp : Space) (a : Nat) (l : List Byte) (s : State) : (writeBytes sp a l s).coex = s.coex := rfl
@[simp] theorem writeBytes_wale (sp : Space) (a : Nat) (l : List Byte) (s : State) : (writeBytes sp a l s).wale = s.wale := rfl
@[simp] theorem writeBytes_cane (sp : Space) (a : Nat) (l : List Byte) (s : State) : (writeBytes sp a l s).cane = s.cane := rfl
@[simp] theorem writeBytes_reg (sp : Space) (a : Nat) (l : List Byte) (s : State) : (writeBytes sp a l s).reg = s.reg := rfl
@[simp] theorem writeBytes_handle (sp : Space) (a : Nat) (l : List Byte) (s : State) : (writeBytes sp a l s).handle = s.handle := rfl
@[simp] theorem writeBytes_thm (sp : Space) (a : Nat) (l : List Byte) (s : State) : (writeBytes sp a l s).thm = s.thm := rfl
@[simp] theorem writeBytes_pwr (sp : Space) (a : Nat) (l : List Byte) (s : State) : (writeBytes sp a l s).pwr = s.pwr := rfl

@[simp] theorem writeBytes_mem (sp : Space) (a : Nat) (l : List Byte) (s : State) :
    (writeBytes sp a l s).mem = memPutList s.mem (sp.base + a) l := rfl

/-! ## Free values -/

@[simp] theorem State.tick_pending (s : State) : (s.tick).pending = s.pending := rfl
@[simp] theorem State.tick_done (s : State) : (s.tick).done = s.done := rfl
@[simp] theorem State.tick_fitted (s : State) : (s.tick).fitted = s.fitted := rfl
@[simp] theorem State.tick_serial (s : State) : (s.tick).serial = s.serial := rfl
@[simp] theorem State.tick_regs (s : State) : (s.tick).regs = s.regs := rfl
@[simp] theorem State.tick_mem (s : State) : (s.tick).mem = s.mem := rfl
@[simp] theorem State.tick_time (s : State) : (s.tick).time = s.time := rfl
@[simp] theorem State.tick_skein (s : State) : (s.tick).skein = s.skein := rfl
@[simp] theorem State.tick_tally (s : State) : (s.tick).tally = s.tally := rfl
@[simp] theorem State.tick_lash (s : State) : (s.tick).lash = s.lash := rfl
@[simp] theorem State.tick_lid (s : State) : (s.tick).lid = s.lid := rfl
@[simp] theorem State.tick_tap (s : State) : (s.tick).tap = s.tap := rfl
@[simp] theorem State.tick_dies (s : State) : (s.tick).dies = s.dies := rfl
@[simp] theorem State.tick_coils (s : State) : (s.tick).coils = s.coils := rfl
@[simp] theorem State.tick_coreQ (s : State) : (s.tick).coreQ = s.coreQ := rfl
@[simp] theorem State.tick_coilLdr (s : State) : (s.tick).coilLdr = s.coilLdr := rfl
@[simp] theorem State.tick_sns (s : State) : (s.tick).sns = s.sns := rfl
@[simp] theorem State.tick_pairs (s : State) : (s.tick).pairs = s.pairs := rfl
@[simp] theorem State.tick_plait (s : State) : (s.tick).plait = s.plait := rfl
@[simp] theorem State.tick_coex (s : State) : (s.tick).coex = s.coex := rfl
@[simp] theorem State.tick_wale (s : State) : (s.tick).wale = s.wale := rfl
@[simp] theorem State.tick_cane (s : State) : (s.tick).cane = s.cane := rfl
@[simp] theorem State.tick_reg (s : State) : (s.tick).reg = s.reg := rfl
@[simp] theorem State.tick_handle (s : State) : (s.tick).handle = s.handle := rfl
@[simp] theorem State.tick_thm (s : State) : (s.tick).thm = s.thm := rfl
@[simp] theorem State.tick_pwr (s : State) : (s.tick).pwr = s.pwr := rfl

@[simp] theorem State.tick_freeCtr (s : State) : s.tick.freeCtr = s.freeCtr + 1 := rfl

/-! ## Completions -/

@[simp] theorem State.finish_pending (s : State) (c : Code) (v : Word) : (s.finish c v).pending = s.pending := rfl
@[simp] theorem State.finish_freeCtr (s : State) (c : Code) (v : Word) : (s.finish c v).freeCtr = s.freeCtr := rfl
@[simp] theorem State.finish_fitted (s : State) (c : Code) (v : Word) : (s.finish c v).fitted = s.fitted := rfl
@[simp] theorem State.finish_serial (s : State) (c : Code) (v : Word) : (s.finish c v).serial = s.serial := rfl
@[simp] theorem State.finish_regs (s : State) (c : Code) (v : Word) : (s.finish c v).regs = s.regs := rfl
@[simp] theorem State.finish_mem (s : State) (c : Code) (v : Word) : (s.finish c v).mem = s.mem := rfl
@[simp] theorem State.finish_time (s : State) (c : Code) (v : Word) : (s.finish c v).time = s.time := rfl
@[simp] theorem State.finish_skein (s : State) (c : Code) (v : Word) : (s.finish c v).skein = s.skein := rfl
@[simp] theorem State.finish_tally (s : State) (c : Code) (v : Word) : (s.finish c v).tally = s.tally := rfl
@[simp] theorem State.finish_lash (s : State) (c : Code) (v : Word) : (s.finish c v).lash = s.lash := rfl
@[simp] theorem State.finish_lid (s : State) (c : Code) (v : Word) : (s.finish c v).lid = s.lid := rfl
@[simp] theorem State.finish_tap (s : State) (c : Code) (v : Word) : (s.finish c v).tap = s.tap := rfl
@[simp] theorem State.finish_dies (s : State) (c : Code) (v : Word) : (s.finish c v).dies = s.dies := rfl
@[simp] theorem State.finish_coils (s : State) (c : Code) (v : Word) : (s.finish c v).coils = s.coils := rfl
@[simp] theorem State.finish_coreQ (s : State) (c : Code) (v : Word) : (s.finish c v).coreQ = s.coreQ := rfl
@[simp] theorem State.finish_coilLdr (s : State) (c : Code) (v : Word) : (s.finish c v).coilLdr = s.coilLdr := rfl
@[simp] theorem State.finish_sns (s : State) (c : Code) (v : Word) : (s.finish c v).sns = s.sns := rfl
@[simp] theorem State.finish_pairs (s : State) (c : Code) (v : Word) : (s.finish c v).pairs = s.pairs := rfl
@[simp] theorem State.finish_plait (s : State) (c : Code) (v : Word) : (s.finish c v).plait = s.plait := rfl
@[simp] theorem State.finish_coex (s : State) (c : Code) (v : Word) : (s.finish c v).coex = s.coex := rfl
@[simp] theorem State.finish_wale (s : State) (c : Code) (v : Word) : (s.finish c v).wale = s.wale := rfl
@[simp] theorem State.finish_cane (s : State) (c : Code) (v : Word) : (s.finish c v).cane = s.cane := rfl
@[simp] theorem State.finish_reg (s : State) (c : Code) (v : Word) : (s.finish c v).reg = s.reg := rfl
@[simp] theorem State.finish_handle (s : State) (c : Code) (v : Word) : (s.finish c v).handle = s.handle := rfl
@[simp] theorem State.finish_thm (s : State) (c : Code) (v : Word) : (s.finish c v).thm = s.thm := rfl
@[simp] theorem State.finish_pwr (s : State) (c : Code) (v : Word) : (s.finish c v).pwr = s.pwr := rfl

@[simp] theorem State.finish_done (s : State) (c : Code) (v : Word) : (s.finish c v).done = ⟨c, v⟩ := rfl

end Sys2Proof.Machine
end

