-- ==== Sys2Proof/Laws/Logs.lean ====
section
/-!
SUPPORT. Laws/Logs.lean: making a Skein or a Tally record changes the logs and the event queue of the Cane link, and
nothing else; the report of Lean changes the power state besides.
-/
namespace Sys2Proof.Machine
open Sys2Proof

/-- The second state differs from the first in the logs and the Cane link at most. -/
def LogOnly (s t : State) : Prop := ∃ a b c, t = { s with skein := a, tally := b, cane := c }

theorem LogOnly.refl (s : State) : LogOnly s s := ⟨_, _, _, rfl⟩

theorem LogOnly.trans {s t u : State} (h : LogOnly s t) (g : LogOnly t u) : LogOnly s u := by
  obtain ⟨a, b, c, rfl⟩ := h
  obtain ⟨a', b', c', rfl⟩ := g
  exact ⟨_, _, _, rfl⟩

theorem skeinEmit_log (r : SkeinRec) (s : State) : LogOnly s (skeinEmit r s) := by
  unfold skeinEmit; split
  · split <;> exact ⟨_, _, _, rfl⟩
  · exact LogOnly.refl s

theorem skeinLose_log (s : State) : LogOnly s (skeinLose s) := ⟨_, _, _, rfl⟩

theorem skeinClose_log (s : State) : LogOnly s (skeinClose s) := by
  unfold skeinClose; split
  · exact LogOnly.refl s
  · exact LogOnly.trans ⟨_, _, _, rfl⟩ (skeinEmit_log _ _)
  · dsimp only
    split
    · exact LogOnly.trans ⟨_, _, _, rfl⟩ (skeinEmit_log _ _)
    · exact LogOnly.trans ⟨_, _, _, rfl⟩ (skeinEmit_log _ _)

theorem skeinNew_log (src sev loc code data : Nat) (inj mbx : Bool) (s : State) :
    LogOnly s (skeinNew src sev loc code data inj mbx s) := by
  unfold skeinNew; dsimp only; split
  · exact (skeinClose_log s).trans (LogOnly.trans ⟨_, _, _, rfl⟩ (skeinEmit_log _ _))
  · exact skeinLose_log _

theorem skeinOccur_log (src sev loc code data : Nat) (inj mbx : Bool) (s : State) :
    LogOnly s (skeinOccur src sev loc code data inj mbx s) := by
  unfold skeinOccur; split
  · split
    · dsimp only
      split
      · exact LogOnly.trans ⟨_, _, _, rfl⟩ (skeinClose_log _)
      · exact ⟨_, _, _, rfl⟩
    · exact skeinNew_log ..
  · exact skeinNew_log ..

theorem skeinFill_log (s : State) : LogOnly s (skeinFill s) := by
  unfold skeinFill; split
  · dsimp only
    split
    · exact LogOnly.trans ⟨_, _, _, rfl⟩ (skeinOccur_log ..)
    · exact ⟨_, _, _, rfl⟩
  · exact LogOnly.refl s

theorem skein_log (src sev loc code data : Nat) (s : State) : LogOnly s (skein src sev loc code data s) :=
  (skeinOccur_log ..).trans (skeinFill_log _)

theorem skeinEvent_log (loc group pos data : Nat) (s : State) : LogOnly s (skeinEvent loc group pos data s) := by
  unfold skeinEvent; split
  · exact LogOnly.refl s
  · exact skein_log ..

theorem tallyStage_log (r : TallyRec) (s : State) : LogOnly s (tallyStage r s) := ⟨_, _, _, rfl⟩

theorem tallyPut_log (o : Origin) (target : Nat) (old new : Word) (s : State) : LogOnly s (tallyPut o target old new s) :=
  tallyStage_log _ _

theorem tallyForce_log (origin addr target : Nat) (old new : Word) (s : State) :
    LogOnly s (tallyForce origin addr target old new s) := by
  unfold tallyForce; dsimp only; split
  · split
    · exact LogOnly.trans ⟨_, _, _, rfl⟩ (skeinEvent_log ..)
    · exact ⟨_, _, _, rfl⟩
  · exact LogOnly.trans ⟨_, _, _, rfl⟩ (skeinEvent_log ..)

theorem tallyAuto_log (target : Nat) (old new : Word) (s : State) : LogOnly s (tallyAuto target old new s) := by
  unfold tallyAuto; split
  · exact LogOnly.refl s
  · exact tallyForce_log ..

theorem hdlEvent_log (pos data : Nat) (s : State) : LogOnly s (hdlEvent pos data s) := skeinEvent_log ..
theorem lidEvent_log (pos data : Nat) (s : State) : LogOnly s (lidEvent pos data s) := skeinEvent_log ..
theorem pwrEvent_log (pos data : Nat) (s : State) : LogOnly s (pwrEvent pos data s) := skeinEvent_log ..
theorem skeinPut_log (src sev loc code data : Nat) (inj mbx : Bool) (s : State) :
    LogOnly s (skeinFill (skeinOccur src sev loc code data inj mbx s)) :=
  (skeinOccur_log ..).trans (skeinFill_log _)

theorem lashRecord_log (n : SrcIx) (unit : Nat) (s : State) : LogOnly s (lashRecord n unit s) := by
  unfold lashRecord
  refine LogOnly.trans ?_ (skeinPut_log ..)
  split
  · split
    · exact skeinClose_log s
    · exact LogOnly.refl s
  · exact LogOnly.refl s

/-- The second state differs from the first in the logs, the Cane link and the report of Lean at most. -/
def LogLean (s t : State) : Prop := ∃ a b c l, t = { s with skein := a, tally := b, cane := c, pwr := { s.pwr with lean := l } }

theorem leanReport_log (s : State) : LogLean s (leanReport s) := by
  unfold leanReport; dsimp only; split
  · exact ⟨_, _, _, s.pwr.lean, rfl⟩
  · obtain ⟨a, b, c, e⟩ := pwrEvent_log 1 (pack [(1, pwrState s), (1, pwrState { s with pwr := { s.pwr with lean := s.pwr.st == .active && isLean s } }), (1, s.pwr.lastWake)]) { s with pwr := { s.pwr with lean := s.pwr.st == .active && isLean s } }
    exact ⟨a, b, c, _, e⟩

/-! ## The fields that remain -/

theorem LogOnly.pending {s t : State} (h : LogOnly s t) : t.pending = s.pending := by obtain ⟨_, _, _, rfl⟩ := h; rfl
theorem LogOnly.done {s t : State} (h : LogOnly s t) : t.done = s.done := by obtain ⟨_, _, _, rfl⟩ := h; rfl
theorem LogOnly.freeCtr {s t : State} (h : LogOnly s t) : t.freeCtr = s.freeCtr := by obtain ⟨_, _, _, rfl⟩ := h; rfl
theorem LogOnly.fitted {s t : State} (h : LogOnly s t) : t.fitted = s.fitted := by obtain ⟨_, _, _, rfl⟩ := h; rfl
theorem LogOnly.serial {s t : State} (h : LogOnly s t) : t.serial = s.serial := by obtain ⟨_, _, _, rfl⟩ := h; rfl
theorem LogOnly.regs {s t : State} (h : LogOnly s t) : t.regs = s.regs := by obtain ⟨_, _, _, rfl⟩ := h; rfl
theorem LogOnly.mem {s t : State} (h : LogOnly s t) : t.mem = s.mem := by obtain ⟨_, _, _, rfl⟩ := h; rfl
theorem LogOnly.time {s t : State} (h : LogOnly s t) : t.time = s.time := by obtain ⟨_, _, _, rfl⟩ := h; rfl
theorem LogOnly.lash {s t : State} (h : LogOnly s t) : t.lash = s.lash := by obtain ⟨_, _, _, rfl⟩ := h; rfl
theorem LogOnly.lid {s t : State} (h : LogOnly s t) : t.lid = s.lid := by obtain ⟨_, _, _, rfl⟩ := h; rfl
theorem LogOnly.tap {s t : State} (h : LogOnly s t) : t.tap = s.tap := by obtain ⟨_, _, _, rfl⟩ := h; rfl
theorem LogOnly.dies {s t : State} (h : LogOnly s t) : t.dies = s.dies := by obtain ⟨_, _, _, rfl⟩ := h; rfl
theorem LogOnly.coils {s t : State} (h : LogOnly s t) : t.coils = s.coils := by obtain ⟨_, _, _, rfl⟩ := h; rfl
theorem LogOnly.coreQ {s t : State} (h : LogOnly s t) : t.coreQ = s.coreQ := by obtain ⟨_, _, _, rfl⟩ := h; rfl
theorem LogOnly.coilLdr {s t : State} (h : LogOnly s t) : t.coilLdr = s.coilLdr := by obtain ⟨_, _, _, rfl⟩ := h; rfl
theorem LogOnly.sns {s t : State} (h : LogOnly s t) : t.sns = s.sns := by obtain ⟨_, _, _, rfl⟩ := h; rfl
theorem LogOnly.pairs {s t : State} (h : LogOnly s t) : t.pairs = s.pairs := by obtain ⟨_, _, _, rfl⟩ := h; rfl
theorem LogOnly.plait {s t : State} (h : LogOnly s t) : t.plait = s.plait := by obtain ⟨_, _, _, rfl⟩ := h; rfl
theorem LogOnly.coex {s t : State} (h : LogOnly s t) : t.coex = s.coex := by obtain ⟨_, _, _, rfl⟩ := h; rfl
theorem LogOnly.wale {s t : State} (h : LogOnly s t) : t.wale = s.wale := by obtain ⟨_, _, _, rfl⟩ := h; rfl
theorem LogOnly.reg {s t : State} (h : LogOnly s t) : t.reg = s.reg := by obtain ⟨_, _, _, rfl⟩ := h; rfl
theorem LogOnly.handle {s t : State} (h : LogOnly s t) : t.handle = s.handle := by obtain ⟨_, _, _, rfl⟩ := h; rfl
theorem LogOnly.thm {s t : State} (h : LogOnly s t) : t.thm = s.thm := by obtain ⟨_, _, _, rfl⟩ := h; rfl
theorem LogOnly.pwr {s t : State} (h : LogOnly s t) : t.pwr = s.pwr := by obtain ⟨_, _, _, rfl⟩ := h; rfl

@[simp] theorem skeinClose_pending (s : State) : (skeinClose s).pending = s.pending := (skeinClose_log ..).pending
@[simp] theorem skeinClose_done (s : State) : (skeinClose s).done = s.done := (skeinClose_log ..).done
@[simp] theorem skeinClose_freeCtr (s : State) : (skeinClose s).freeCtr = s.freeCtr := (skeinClose_log ..).freeCtr
@[simp] theorem skeinClose_fitted (s : State) : (skeinClose s).fitted = s.fitted := (skeinClose_log ..).fitted
@[simp] theorem skeinClose_serial (s : State) : (skeinClose s).serial = s.serial := (skeinClose_log ..).serial
@[simp] theorem skeinClose_regs (s : State) : (skeinClose s).regs = s.regs := (skeinClose_log ..).regs
@[simp] theorem skeinClose_mem (s : State) : (skeinClose s).mem = s.mem := (skeinClose_log ..).mem
@[simp] theorem skeinClose_time (s : State) : (skeinClose s).time = s.time := (skeinClose_log ..).time
@[simp] theorem skeinClose_lash (s : State) : (skeinClose s).lash = s.lash := (skeinClose_log ..).lash
@[simp] theorem skeinClose_lid (s : State) : (skeinClose s).lid = s.lid := (skeinClose_log ..).lid
@[simp] theorem skeinClose_tap (s : State) : (skeinClose s).tap = s.tap := (skeinClose_log ..).tap
@[simp] theorem skeinClose_dies (s : State) : (skeinClose s).dies = s.dies := (skeinClose_log ..).dies
@[simp] theorem skeinClose_coils (s : State) : (skeinClose s).coils = s.coils := (skeinClose_log ..).coils
@[simp] theorem skeinClose_coreQ (s : State) : (skeinClose s).coreQ = s.coreQ := (skeinClose_log ..).coreQ
@[simp] theorem skeinClose_coilLdr (s : State) : (skeinClose s).coilLdr = s.coilLdr := (skeinClose_log ..).coilLdr
@[simp] theorem skeinClose_sns (s : State) : (skeinClose s).sns = s.sns := (skeinClose_log ..).sns
@[simp] theorem skeinClose_pairs (s : State) : (skeinClose s).pairs = s.pairs := (skeinClose_log ..).pairs
@[simp] theorem skeinClose_plait (s : State) : (skeinClose s).plait = s.plait := (skeinClose_log ..).plait
@[simp] theorem skeinClose_coex (s : State) : (skeinClose s).coex = s.coex := (skeinClose_log ..).coex
@[simp] theorem skeinClose_wale (s : State) : (skeinClose s).wale = s.wale := (skeinClose_log ..).wale
@[simp] theorem skeinClose_reg (s : State) : (skeinClose s).reg = s.reg := (skeinClose_log ..).reg
@[simp] theorem skeinClose_handle (s : State) : (skeinClose s).handle = s.handle := (skeinClose_log ..).handle
@[simp] theorem skeinClose_thm (s : State) : (skeinClose s).thm = s.thm := (skeinClose_log ..).thm
@[simp] theorem skeinClose_pwr (s : State) : (skeinClose s).pwr = s.pwr := (skeinClose_log ..).pwr

@[simp] theorem skein_pending (src sev loc code data : Nat) (s : State) : (skein src sev loc code data s).pending = s.pending := (skein_log ..).pending
@[simp] theorem skein_done (src sev loc code data : Nat) (s : State) : (skein src sev loc code data s).done = s.done := (skein_log ..).done
@[simp] theorem skein_freeCtr (src sev loc code data : Nat) (s : State) : (skein src sev loc code data s).freeCtr = s.freeCtr := (skein_log ..).freeCtr
@[simp] theorem skein_fitted (src sev loc code data : Nat) (s : State) : (skein src sev loc code data s).fitted = s.fitted := (skein_log ..).fitted
@[simp] theorem skein_serial (src sev loc code data : Nat) (s : State) : (skein src sev loc code data s).serial = s.serial := (skein_log ..).serial
@[simp] theorem skein_regs (src sev loc code data : Nat) (s : State) : (skein src sev loc code data s).regs = s.regs := (skein_log ..).regs
@[simp] theorem skein_mem (src sev loc code data : Nat) (s : State) : (skein src sev loc code data s).mem = s.mem := (skein_log ..).mem
@[simp] theorem skein_time (src sev loc code data : Nat) (s : State) : (skein src sev loc code data s).time = s.time := (skein_log ..).time
@[simp] theorem skein_lash (src sev loc code data : Nat) (s : State) : (skein src sev loc code data s).lash = s.lash := (skein_log ..).lash
@[simp] theorem skein_lid (src sev loc code data : Nat) (s : State) : (skein src sev loc code data s).lid = s.lid := (skein_log ..).lid
@[simp] theorem skein_tap (src sev loc code data : Nat) (s : State) : (skein src sev loc code data s).tap = s.tap := (skein_log ..).tap
@[simp] theorem skein_dies (src sev loc code data : Nat) (s : State) : (skein src sev loc code data s).dies = s.dies := (skein_log ..).dies
@[simp] theorem skein_coils (src sev loc code data : Nat) (s : State) : (skein src sev loc code data s).coils = s.coils := (skein_log ..).coils
@[simp] theorem skein_coreQ (src sev loc code data : Nat) (s : State) : (skein src sev loc code data s).coreQ = s.coreQ := (skein_log ..).coreQ
@[simp] theorem skein_coilLdr (src sev loc code data : Nat) (s : State) : (skein src sev loc code data s).coilLdr = s.coilLdr := (skein_log ..).coilLdr
@[simp] theorem skein_sns (src sev loc code data : Nat) (s : State) : (skein src sev loc code data s).sns = s.sns := (skein_log ..).sns
@[simp] theorem skein_pairs (src sev loc code data : Nat) (s : State) : (skein src sev loc code data s).pairs = s.pairs := (skein_log ..).pairs
@[simp] theorem skein_plait (src sev loc code data : Nat) (s : State) : (skein src sev loc code data s).plait = s.plait := (skein_log ..).plait
@[simp] theorem skein_coex (src sev loc code data : Nat) (s : State) : (skein src sev loc code data s).coex = s.coex := (skein_log ..).coex
@[simp] theorem skein_wale (src sev loc code data : Nat) (s : State) : (skein src sev loc code data s).wale = s.wale := (skein_log ..).wale
@[simp] theorem skein_reg (src sev loc code data : Nat) (s : State) : (skein src sev loc code data s).reg = s.reg := (skein_log ..).reg
@[simp] theorem skein_handle (src sev loc code data : Nat) (s : State) : (skein src sev loc code data s).handle = s.handle := (skein_log ..).handle
@[simp] theorem skein_thm (src sev loc code data : Nat) (s : State) : (skein src sev loc code data s).thm = s.thm := (skein_log ..).thm
@[simp] theorem skein_pwr (src sev loc code data : Nat) (s : State) : (skein src sev loc code data s).pwr = s.pwr := (skein_log ..).pwr

@[simp] theorem skeinEvent_pending (loc group pos data : Nat) (s : State) : (skeinEvent loc group pos data s).pending = s.pending := (skeinEvent_log ..).pending
@[simp] theorem skeinEvent_done (loc group pos data : Nat) (s : State) : (skeinEvent loc group pos data s).done = s.done := (skeinEvent_log ..).done
@[simp] theorem skeinEvent_freeCtr (loc group pos data : Nat) (s : State) : (skeinEvent loc group pos data s).freeCtr = s.freeCtr := (skeinEvent_log ..).freeCtr
@[simp] theorem skeinEvent_fitted (loc group pos data : Nat) (s : State) : (skeinEvent loc group pos data s).fitted = s.fitted := (skeinEvent_log ..).fitted
@[simp] theorem skeinEvent_serial (loc group pos data : Nat) (s : State) : (skeinEvent loc group pos data s).serial = s.serial := (skeinEvent_log ..).serial
@[simp] theorem skeinEvent_regs (loc group pos data : Nat) (s : State) : (skeinEvent loc group pos data s).regs = s.regs := (skeinEvent_log ..).regs
@[simp] theorem skeinEvent_mem (loc group pos data : Nat) (s : State) : (skeinEvent loc group pos data s).mem = s.mem := (skeinEvent_log ..).mem
@[simp] theorem skeinEvent_time (loc group pos data : Nat) (s : State) : (skeinEvent loc group pos data s).time = s.time := (skeinEvent_log ..).time
@[simp] theorem skeinEvent_lash (loc group pos data : Nat) (s : State) : (skeinEvent loc group pos data s).lash = s.lash := (skeinEvent_log ..).lash
@[simp] theorem skeinEvent_lid (loc group pos data : Nat) (s : State) : (skeinEvent loc group pos data s).lid = s.lid := (skeinEvent_log ..).lid
@[simp] theorem skeinEvent_tap (loc group pos data : Nat) (s : State) : (skeinEvent loc group pos data s).tap = s.tap := (skeinEvent_log ..).tap
@[simp] theorem skeinEvent_dies (loc group pos data : Nat) (s : State) : (skeinEvent loc group pos data s).dies = s.dies := (skeinEvent_log ..).dies
@[simp] theorem skeinEvent_coils (loc group pos data : Nat) (s : State) : (skeinEvent loc group pos data s).coils = s.coils := (skeinEvent_log ..).coils
@[simp] theorem skeinEvent_coreQ (loc group pos data : Nat) (s : State) : (skeinEvent loc group pos data s).coreQ = s.coreQ := (skeinEvent_log ..).coreQ
@[simp] theorem skeinEvent_coilLdr (loc group pos data : Nat) (s : State) : (skeinEvent loc group pos data s).coilLdr = s.coilLdr := (skeinEvent_log ..).coilLdr
@[simp] theorem skeinEvent_sns (loc group pos data : Nat) (s : State) : (skeinEvent loc group pos data s).sns = s.sns := (skeinEvent_log ..).sns
@[simp] theorem skeinEvent_pairs (loc group pos data : Nat) (s : State) : (skeinEvent loc group pos data s).pairs = s.pairs := (skeinEvent_log ..).pairs
@[simp] theorem skeinEvent_plait (loc group pos data : Nat) (s : State) : (skeinEvent loc group pos data s).plait = s.plait := (skeinEvent_log ..).plait
@[simp] theorem skeinEvent_coex (loc group pos data : Nat) (s : State) : (skeinEvent loc group pos data s).coex = s.coex := (skeinEvent_log ..).coex
@[simp] theorem skeinEvent_wale (loc group pos data : Nat) (s : State) : (skeinEvent loc group pos data s).wale = s.wale := (skeinEvent_log ..).wale
@[simp] theorem skeinEvent_reg (loc group pos data : Nat) (s : State) : (skeinEvent loc group pos data s).reg = s.reg := (skeinEvent_log ..).reg
@[simp] theorem skeinEvent_handle (loc group pos data : Nat) (s : State) : (skeinEvent loc group pos data s).handle = s.handle := (skeinEvent_log ..).handle
@[simp] theorem skeinEvent_thm (loc group pos data : Nat) (s : State) : (skeinEvent loc group pos data s).thm = s.thm := (skeinEvent_log ..).thm
@[simp] theorem skeinEvent_pwr (loc group pos data : Nat) (s : State) : (skeinEvent loc group pos data s).pwr = s.pwr := (skeinEvent_log ..).pwr

@[simp] theorem tallyPut_pending (o : Origin) (target : Nat) (old new : Word) (s : State) : (tallyPut o target old new s).pending = s.pending := (tallyPut_log ..).pending
@[simp] theorem tallyPut_done (o : Origin) (target : Nat) (old new : Word) (s : State) : (tallyPut o target old new s).done = s.done := (tallyPut_log ..).done
@[simp] theorem tallyPut_freeCtr (o : Origin) (target : Nat) (old new : Word) (s : State) : (tallyPut o target old new s).freeCtr = s.freeCtr := (tallyPut_log ..).freeCtr
@[simp] theorem tallyPut_fitted (o : Origin) (target : Nat) (old new : Word) (s : State) : (tallyPut o target old new s).fitted = s.fitted := (tallyPut_log ..).fitted
@[simp] theorem tallyPut_serial (o : Origin) (target : Nat) (old new : Word) (s : State) : (tallyPut o target old new s).serial = s.serial := (tallyPut_log ..).serial
@[simp] theorem tallyPut_regs (o : Origin) (target : Nat) (old new : Word) (s : State) : (tallyPut o target old new s).regs = s.regs := (tallyPut_log ..).regs
@[simp] theorem tallyPut_mem (o : Origin) (target : Nat) (old new : Word) (s : State) : (tallyPut o target old new s).mem = s.mem := (tallyPut_log ..).mem
@[simp] theorem tallyPut_time (o : Origin) (target : Nat) (old new : Word) (s : State) : (tallyPut o target old new s).time = s.time := (tallyPut_log ..).time
@[simp] theorem tallyPut_lash (o : Origin) (target : Nat) (old new : Word) (s : State) : (tallyPut o target old new s).lash = s.lash := (tallyPut_log ..).lash
@[simp] theorem tallyPut_lid (o : Origin) (target : Nat) (old new : Word) (s : State) : (tallyPut o target old new s).lid = s.lid := (tallyPut_log ..).lid
@[simp] theorem tallyPut_tap (o : Origin) (target : Nat) (old new : Word) (s : State) : (tallyPut o target old new s).tap = s.tap := (tallyPut_log ..).tap
@[simp] theorem tallyPut_dies (o : Origin) (target : Nat) (old new : Word) (s : State) : (tallyPut o target old new s).dies = s.dies := (tallyPut_log ..).dies
@[simp] theorem tallyPut_coils (o : Origin) (target : Nat) (old new : Word) (s : State) : (tallyPut o target old new s).coils = s.coils := (tallyPut_log ..).coils
@[simp] theorem tallyPut_coreQ (o : Origin) (target : Nat) (old new : Word) (s : State) : (tallyPut o target old new s).coreQ = s.coreQ := (tallyPut_log ..).coreQ
@[simp] theorem tallyPut_coilLdr (o : Origin) (target : Nat) (old new : Word) (s : State) : (tallyPut o target old new s).coilLdr = s.coilLdr := (tallyPut_log ..).coilLdr
@[simp] theorem tallyPut_sns (o : Origin) (target : Nat) (old new : Word) (s : State) : (tallyPut o target old new s).sns = s.sns := (tallyPut_log ..).sns
@[simp] theorem tallyPut_pairs (o : Origin) (target : Nat) (old new : Word) (s : State) : (tallyPut o target old new s).pairs = s.pairs := (tallyPut_log ..).pairs
@[simp] theorem tallyPut_plait (o : Origin) (target : Nat) (old new : Word) (s : State) : (tallyPut o target old new s).plait = s.plait := (tallyPut_log ..).plait
@[simp] theorem tallyPut_coex (o : Origin) (target : Nat) (old new : Word) (s : State) : (tallyPut o target old new s).coex = s.coex := (tallyPut_log ..).coex
@[simp] theorem tallyPut_wale (o : Origin) (target : Nat) (old new : Word) (s : State) : (tallyPut o target old new s).wale = s.wale := (tallyPut_log ..).wale
@[simp] theorem tallyPut_reg (o : Origin) (target : Nat) (old new : Word) (s : State) : (tallyPut o target old new s).reg = s.reg := (tallyPut_log ..).reg
@[simp] theorem tallyPut_handle (o : Origin) (target : Nat) (old new : Word) (s : State) : (tallyPut o target old new s).handle = s.handle := (tallyPut_log ..).handle
@[simp] theorem tallyPut_thm (o : Origin) (target : Nat) (old new : Word) (s : State) : (tallyPut o target old new s).thm = s.thm := (tallyPut_log ..).thm
@[simp] theorem tallyPut_pwr (o : Origin) (target : Nat) (old new : Word) (s : State) : (tallyPut o target old new s).pwr = s.pwr := (tallyPut_log ..).pwr

@[simp] theorem tallyForce_pending (origin addr target : Nat) (old new : Word) (s : State) : (tallyForce origin addr target old new s).pending = s.pending := (tallyForce_log ..).pending
@[simp] theorem tallyForce_done (origin addr target : Nat) (old new : Word) (s : State) : (tallyForce origin addr target old new s).done = s.done := (tallyForce_log ..).done
@[simp] theorem tallyForce_freeCtr (origin addr target : Nat) (old new : Word) (s : State) : (tallyForce origin addr target old new s).freeCtr = s.freeCtr := (tallyForce_log ..).freeCtr
@[simp] theorem tallyForce_fitted (origin addr target : Nat) (old new : Word) (s : State) : (tallyForce origin addr target old new s).fitted = s.fitted := (tallyForce_log ..).fitted
@[simp] theorem tallyForce_serial (origin addr target : Nat) (old new : Word) (s : State) : (tallyForce origin addr target old new s).serial = s.serial := (tallyForce_log ..).serial
@[simp] theorem tallyForce_regs (origin addr target : Nat) (old new : Word) (s : State) : (tallyForce origin addr target old new s).regs = s.regs := (tallyForce_log ..).regs
@[simp] theorem tallyForce_mem (origin addr target : Nat) (old new : Word) (s : State) : (tallyForce origin addr target old new s).mem = s.mem := (tallyForce_log ..).mem
@[simp] theorem tallyForce_time (origin addr target : Nat) (old new : Word) (s : State) : (tallyForce origin addr target old new s).time = s.time := (tallyForce_log ..).time
@[simp] theorem tallyForce_lash (origin addr target : Nat) (old new : Word) (s : State) : (tallyForce origin addr target old new s).lash = s.lash := (tallyForce_log ..).lash
@[simp] theorem tallyForce_lid (origin addr target : Nat) (old new : Word) (s : State) : (tallyForce origin addr target old new s).lid = s.lid := (tallyForce_log ..).lid
@[simp] theorem tallyForce_tap (origin addr target : Nat) (old new : Word) (s : State) : (tallyForce origin addr target old new s).tap = s.tap := (tallyForce_log ..).tap
@[simp] theorem tallyForce_dies (origin addr target : Nat) (old new : Word) (s : State) : (tallyForce origin addr target old new s).dies = s.dies := (tallyForce_log ..).dies
@[simp] theorem tallyForce_coils (origin addr target : Nat) (old new : Word) (s : State) : (tallyForce origin addr target old new s).coils = s.coils := (tallyForce_log ..).coils
@[simp] theorem tallyForce_coreQ (origin addr target : Nat) (old new : Word) (s : State) : (tallyForce origin addr target old new s).coreQ = s.coreQ := (tallyForce_log ..).coreQ
@[simp] theorem tallyForce_coilLdr (origin addr target : Nat) (old new : Word) (s : State) : (tallyForce origin addr target old new s).coilLdr = s.coilLdr := (tallyForce_log ..).coilLdr
@[simp] theorem tallyForce_sns (origin addr target : Nat) (old new : Word) (s : State) : (tallyForce origin addr target old new s).sns = s.sns := (tallyForce_log ..).sns
@[simp] theorem tallyForce_pairs (origin addr target : Nat) (old new : Word) (s : State) : (tallyForce origin addr target old new s).pairs = s.pairs := (tallyForce_log ..).pairs
@[simp] theorem tallyForce_plait (origin addr target : Nat) (old new : Word) (s : State) : (tallyForce origin addr target old new s).plait = s.plait := (tallyForce_log ..).plait
@[simp] theorem tallyForce_coex (origin addr target : Nat) (old new : Word) (s : State) : (tallyForce origin addr target old new s).coex = s.coex := (tallyForce_log ..).coex
@[simp] theorem tallyForce_wale (origin addr target : Nat) (old new : Word) (s : State) : (tallyForce origin addr target old new s).wale = s.wale := (tallyForce_log ..).wale
@[simp] theorem tallyForce_reg (origin addr target : Nat) (old new : Word) (s : State) : (tallyForce origin addr target old new s).reg = s.reg := (tallyForce_log ..).reg
@[simp] theorem tallyForce_handle (origin addr target : Nat) (old new : Word) (s : State) : (tallyForce origin addr target old new s).handle = s.handle := (tallyForce_log ..).handle
@[simp] theorem tallyForce_thm (origin addr target : Nat) (old new : Word) (s : State) : (tallyForce origin addr target old new s).thm = s.thm := (tallyForce_log ..).thm
@[simp] theorem tallyForce_pwr (origin addr target : Nat) (old new : Word) (s : State) : (tallyForce origin addr target old new s).pwr = s.pwr := (tallyForce_log ..).pwr

@[simp] theorem tallyAuto_pending (target : Nat) (old new : Word) (s : State) : (tallyAuto target old new s).pending = s.pending := (tallyAuto_log ..).pending
@[simp] theorem tallyAuto_done (target : Nat) (old new : Word) (s : State) : (tallyAuto target old new s).done = s.done := (tallyAuto_log ..).done
@[simp] theorem tallyAuto_freeCtr (target : Nat) (old new : Word) (s : State) : (tallyAuto target old new s).freeCtr = s.freeCtr := (tallyAuto_log ..).freeCtr
@[simp] theorem tallyAuto_fitted (target : Nat) (old new : Word) (s : State) : (tallyAuto target old new s).fitted = s.fitted := (tallyAuto_log ..).fitted
@[simp] theorem tallyAuto_serial (target : Nat) (old new : Word) (s : State) : (tallyAuto target old new s).serial = s.serial := (tallyAuto_log ..).serial
@[simp] theorem tallyAuto_regs (target : Nat) (old new : Word) (s : State) : (tallyAuto target old new s).regs = s.regs := (tallyAuto_log ..).regs
@[simp] theorem tallyAuto_mem (target : Nat) (old new : Word) (s : State) : (tallyAuto target old new s).mem = s.mem := (tallyAuto_log ..).mem
@[simp] theorem tallyAuto_time (target : Nat) (old new : Word) (s : State) : (tallyAuto target old new s).time = s.time := (tallyAuto_log ..).time
@[simp] theorem tallyAuto_lash (target : Nat) (old new : Word) (s : State) : (tallyAuto target old new s).lash = s.lash := (tallyAuto_log ..).lash
@[simp] theorem tallyAuto_lid (target : Nat) (old new : Word) (s : State) : (tallyAuto target old new s).lid = s.lid := (tallyAuto_log ..).lid
@[simp] theorem tallyAuto_tap (target : Nat) (old new : Word) (s : State) : (tallyAuto target old new s).tap = s.tap := (tallyAuto_log ..).tap
@[simp] theorem tallyAuto_dies (target : Nat) (old new : Word) (s : State) : (tallyAuto target old new s).dies = s.dies := (tallyAuto_log ..).dies
@[simp] theorem tallyAuto_coils (target : Nat) (old new : Word) (s : State) : (tallyAuto target old new s).coils = s.coils := (tallyAuto_log ..).coils
@[simp] theorem tallyAuto_coreQ (target : Nat) (old new : Word) (s : State) : (tallyAuto target old new s).coreQ = s.coreQ := (tallyAuto_log ..).coreQ
@[simp] theorem tallyAuto_coilLdr (target : Nat) (old new : Word) (s : State) : (tallyAuto target old new s).coilLdr = s.coilLdr := (tallyAuto_log ..).coilLdr
@[simp] theorem tallyAuto_sns (target : Nat) (old new : Word) (s : State) : (tallyAuto target old new s).sns = s.sns := (tallyAuto_log ..).sns
@[simp] theorem tallyAuto_pairs (target : Nat) (old new : Word) (s : State) : (tallyAuto target old new s).pairs = s.pairs := (tallyAuto_log ..).pairs
@[simp] theorem tallyAuto_plait (target : Nat) (old new : Word) (s : State) : (tallyAuto target old new s).plait = s.plait := (tallyAuto_log ..).plait
@[simp] theorem tallyAuto_coex (target : Nat) (old new : Word) (s : State) : (tallyAuto target old new s).coex = s.coex := (tallyAuto_log ..).coex
@[simp] theorem tallyAuto_wale (target : Nat) (old new : Word) (s : State) : (tallyAuto target old new s).wale = s.wale := (tallyAuto_log ..).wale
@[simp] theorem tallyAuto_reg (target : Nat) (old new : Word) (s : State) : (tallyAuto target old new s).reg = s.reg := (tallyAuto_log ..).reg
@[simp] theorem tallyAuto_handle (target : Nat) (old new : Word) (s : State) : (tallyAuto target old new s).handle = s.handle := (tallyAuto_log ..).handle
@[simp] theorem tallyAuto_thm (target : Nat) (old new : Word) (s : State) : (tallyAuto target old new s).thm = s.thm := (tallyAuto_log ..).thm
@[simp] theorem tallyAuto_pwr (target : Nat) (old new : Word) (s : State) : (tallyAuto target old new s).pwr = s.pwr := (tallyAuto_log ..).pwr

@[simp] theorem hdlEvent_pending (pos data : Nat) (s : State) : (hdlEvent pos data s).pending = s.pending := (hdlEvent_log ..).pending
@[simp] theorem hdlEvent_done (pos data : Nat) (s : State) : (hdlEvent pos data s).done = s.done := (hdlEvent_log ..).done
@[simp] theorem hdlEvent_freeCtr (pos data : Nat) (s : State) : (hdlEvent pos data s).freeCtr = s.freeCtr := (hdlEvent_log ..).freeCtr
@[simp] theorem hdlEvent_fitted (pos data : Nat) (s : State) : (hdlEvent pos data s).fitted = s.fitted := (hdlEvent_log ..).fitted
@[simp] theorem hdlEvent_serial (pos data : Nat) (s : State) : (hdlEvent pos data s).serial = s.serial := (hdlEvent_log ..).serial
@[simp] theorem hdlEvent_regs (pos data : Nat) (s : State) : (hdlEvent pos data s).regs = s.regs := (hdlEvent_log ..).regs
@[simp] theorem hdlEvent_mem (pos data : Nat) (s : State) : (hdlEvent pos data s).mem = s.mem := (hdlEvent_log ..).mem
@[simp] theorem hdlEvent_time (pos data : Nat) (s : State) : (hdlEvent pos data s).time = s.time := (hdlEvent_log ..).time
@[simp] theorem hdlEvent_lash (pos data : Nat) (s : State) : (hdlEvent pos data s).lash = s.lash := (hdlEvent_log ..).lash
@[simp] theorem hdlEvent_lid (pos data : Nat) (s : State) : (hdlEvent pos data s).lid = s.lid := (hdlEvent_log ..).lid
@[simp] theorem hdlEvent_tap (pos data : Nat) (s : State) : (hdlEvent pos data s).tap = s.tap := (hdlEvent_log ..).tap
@[simp] theorem hdlEvent_dies (pos data : Nat) (s : State) : (hdlEvent pos data s).dies = s.dies := (hdlEvent_log ..).dies
@[simp] theorem hdlEvent_coils (pos data : Nat) (s : State) : (hdlEvent pos data s).coils = s.coils := (hdlEvent_log ..).coils
@[simp] theorem hdlEvent_coreQ (pos data : Nat) (s : State) : (hdlEvent pos data s).coreQ = s.coreQ := (hdlEvent_log ..).coreQ
@[simp] theorem hdlEvent_coilLdr (pos data : Nat) (s : State) : (hdlEvent pos data s).coilLdr = s.coilLdr := (hdlEvent_log ..).coilLdr
@[simp] theorem hdlEvent_sns (pos data : Nat) (s : State) : (hdlEvent pos data s).sns = s.sns := (hdlEvent_log ..).sns
@[simp] theorem hdlEvent_pairs (pos data : Nat) (s : State) : (hdlEvent pos data s).pairs = s.pairs := (hdlEvent_log ..).pairs
@[simp] theorem hdlEvent_plait (pos data : Nat) (s : State) : (hdlEvent pos data s).plait = s.plait := (hdlEvent_log ..).plait
@[simp] theorem hdlEvent_coex (pos data : Nat) (s : State) : (hdlEvent pos data s).coex = s.coex := (hdlEvent_log ..).coex
@[simp] theorem hdlEvent_wale (pos data : Nat) (s : State) : (hdlEvent pos data s).wale = s.wale := (hdlEvent_log ..).wale
@[simp] theorem hdlEvent_reg (pos data : Nat) (s : State) : (hdlEvent pos data s).reg = s.reg := (hdlEvent_log ..).reg
@[simp] theorem hdlEvent_handle (pos data : Nat) (s : State) : (hdlEvent pos data s).handle = s.handle := (hdlEvent_log ..).handle
@[simp] theorem hdlEvent_thm (pos data : Nat) (s : State) : (hdlEvent pos data s).thm = s.thm := (hdlEvent_log ..).thm
@[simp] theorem hdlEvent_pwr (pos data : Nat) (s : State) : (hdlEvent pos data s).pwr = s.pwr := (hdlEvent_log ..).pwr

@[simp] theorem lidEvent_pending (pos data : Nat) (s : State) : (lidEvent pos data s).pending = s.pending := (lidEvent_log ..).pending
@[simp] theorem lidEvent_done (pos data : Nat) (s : State) : (lidEvent pos data s).done = s.done := (lidEvent_log ..).done
@[simp] theorem lidEvent_freeCtr (pos data : Nat) (s : State) : (lidEvent pos data s).freeCtr = s.freeCtr := (lidEvent_log ..).freeCtr
@[simp] theorem lidEvent_fitted (pos data : Nat) (s : State) : (lidEvent pos data s).fitted = s.fitted := (lidEvent_log ..).fitted
@[simp] theorem lidEvent_serial (pos data : Nat) (s : State) : (lidEvent pos data s).serial = s.serial := (lidEvent_log ..).serial
@[simp] theorem lidEvent_regs (pos data : Nat) (s : State) : (lidEvent pos data s).regs = s.regs := (lidEvent_log ..).regs
@[simp] theorem lidEvent_mem (pos data : Nat) (s : State) : (lidEvent pos data s).mem = s.mem := (lidEvent_log ..).mem
@[simp] theorem lidEvent_time (pos data : Nat) (s : State) : (lidEvent pos data s).time = s.time := (lidEvent_log ..).time
@[simp] theorem lidEvent_lash (pos data : Nat) (s : State) : (lidEvent pos data s).lash = s.lash := (lidEvent_log ..).lash
@[simp] theorem lidEvent_lid (pos data : Nat) (s : State) : (lidEvent pos data s).lid = s.lid := (lidEvent_log ..).lid
@[simp] theorem lidEvent_tap (pos data : Nat) (s : State) : (lidEvent pos data s).tap = s.tap := (lidEvent_log ..).tap
@[simp] theorem lidEvent_dies (pos data : Nat) (s : State) : (lidEvent pos data s).dies = s.dies := (lidEvent_log ..).dies
@[simp] theorem lidEvent_coils (pos data : Nat) (s : State) : (lidEvent pos data s).coils = s.coils := (lidEvent_log ..).coils
@[simp] theorem lidEvent_coreQ (pos data : Nat) (s : State) : (lidEvent pos data s).coreQ = s.coreQ := (lidEvent_log ..).coreQ
@[simp] theorem lidEvent_coilLdr (pos data : Nat) (s : State) : (lidEvent pos data s).coilLdr = s.coilLdr := (lidEvent_log ..).coilLdr
@[simp] theorem lidEvent_sns (pos data : Nat) (s : State) : (lidEvent pos data s).sns = s.sns := (lidEvent_log ..).sns
@[simp] theorem lidEvent_pairs (pos data : Nat) (s : State) : (lidEvent pos data s).pairs = s.pairs := (lidEvent_log ..).pairs
@[simp] theorem lidEvent_plait (pos data : Nat) (s : State) : (lidEvent pos data s).plait = s.plait := (lidEvent_log ..).plait
@[simp] theorem lidEvent_coex (pos data : Nat) (s : State) : (lidEvent pos data s).coex = s.coex := (lidEvent_log ..).coex
@[simp] theorem lidEvent_wale (pos data : Nat) (s : State) : (lidEvent pos data s).wale = s.wale := (lidEvent_log ..).wale
@[simp] theorem lidEvent_reg (pos data : Nat) (s : State) : (lidEvent pos data s).reg = s.reg := (lidEvent_log ..).reg
@[simp] theorem lidEvent_handle (pos data : Nat) (s : State) : (lidEvent pos data s).handle = s.handle := (lidEvent_log ..).handle
@[simp] theorem lidEvent_thm (pos data : Nat) (s : State) : (lidEvent pos data s).thm = s.thm := (lidEvent_log ..).thm
@[simp] theorem lidEvent_pwr (pos data : Nat) (s : State) : (lidEvent pos data s).pwr = s.pwr := (lidEvent_log ..).pwr

@[simp] theorem pwrEvent_pending (pos data : Nat) (s : State) : (pwrEvent pos data s).pending = s.pending := (pwrEvent_log ..).pending
@[simp] theorem pwrEvent_done (pos data : Nat) (s : State) : (pwrEvent pos data s).done = s.done := (pwrEvent_log ..).done
@[simp] theorem pwrEvent_freeCtr (pos data : Nat) (s : State) : (pwrEvent pos data s).freeCtr = s.freeCtr := (pwrEvent_log ..).freeCtr
@[simp] theorem pwrEvent_fitted (pos data : Nat) (s : State) : (pwrEvent pos data s).fitted = s.fitted := (pwrEvent_log ..).fitted
@[simp] theorem pwrEvent_serial (pos data : Nat) (s : State) : (pwrEvent pos data s).serial = s.serial := (pwrEvent_log ..).serial
@[simp] theorem pwrEvent_regs (pos data : Nat) (s : State) : (pwrEvent pos data s).regs = s.regs := (pwrEvent_log ..).regs
@[simp] theorem pwrEvent_mem (pos data : Nat) (s : State) : (pwrEvent pos data s).mem = s.mem := (pwrEvent_log ..).mem
@[simp] theorem pwrEvent_time (pos data : Nat) (s : State) : (pwrEvent pos data s).time = s.time := (pwrEvent_log ..).time
@[simp] theorem pwrEvent_lash (pos data : Nat) (s : State) : (pwrEvent pos data s).lash = s.lash := (pwrEvent_log ..).lash
@[simp] theorem pwrEvent_lid (pos data : Nat) (s : State) : (pwrEvent pos data s).lid = s.lid := (pwrEvent_log ..).lid
@[simp] theorem pwrEvent_tap (pos data : Nat) (s : State) : (pwrEvent pos data s).tap = s.tap := (pwrEvent_log ..).tap
@[simp] theorem pwrEvent_dies (pos data : Nat) (s : State) : (pwrEvent pos data s).dies = s.dies := (pwrEvent_log ..).dies
@[simp] theorem pwrEvent_coils (pos data : Nat) (s : State) : (pwrEvent pos data s).coils = s.coils := (pwrEvent_log ..).coils
@[simp] theorem pwrEvent_coreQ (pos data : Nat) (s : State) : (pwrEvent pos data s).coreQ = s.coreQ := (pwrEvent_log ..).coreQ
@[simp] theorem pwrEvent_coilLdr (pos data : Nat) (s : State) : (pwrEvent pos data s).coilLdr = s.coilLdr := (pwrEvent_log ..).coilLdr
@[simp] theorem pwrEvent_sns (pos data : Nat) (s : State) : (pwrEvent pos data s).sns = s.sns := (pwrEvent_log ..).sns
@[simp] theorem pwrEvent_pairs (pos data : Nat) (s : State) : (pwrEvent pos data s).pairs = s.pairs := (pwrEvent_log ..).pairs
@[simp] theorem pwrEvent_plait (pos data : Nat) (s : State) : (pwrEvent pos data s).plait = s.plait := (pwrEvent_log ..).plait
@[simp] theorem pwrEvent_coex (pos data : Nat) (s : State) : (pwrEvent pos data s).coex = s.coex := (pwrEvent_log ..).coex
@[simp] theorem pwrEvent_wale (pos data : Nat) (s : State) : (pwrEvent pos data s).wale = s.wale := (pwrEvent_log ..).wale
@[simp] theorem pwrEvent_reg (pos data : Nat) (s : State) : (pwrEvent pos data s).reg = s.reg := (pwrEvent_log ..).reg
@[simp] theorem pwrEvent_handle (pos data : Nat) (s : State) : (pwrEvent pos data s).handle = s.handle := (pwrEvent_log ..).handle
@[simp] theorem pwrEvent_thm (pos data : Nat) (s : State) : (pwrEvent pos data s).thm = s.thm := (pwrEvent_log ..).thm
@[simp] theorem pwrEvent_pwr (pos data : Nat) (s : State) : (pwrEvent pos data s).pwr = s.pwr := (pwrEvent_log ..).pwr

@[simp] theorem lashRecord_pending (n : SrcIx) (unit : Nat) (s : State) : (lashRecord n unit s).pending = s.pending := (lashRecord_log ..).pending
@[simp] theorem lashRecord_done (n : SrcIx) (unit : Nat) (s : State) : (lashRecord n unit s).done = s.done := (lashRecord_log ..).done
@[simp] theorem lashRecord_freeCtr (n : SrcIx) (unit : Nat) (s : State) : (lashRecord n unit s).freeCtr = s.freeCtr := (lashRecord_log ..).freeCtr
@[simp] theorem lashRecord_fitted (n : SrcIx) (unit : Nat) (s : State) : (lashRecord n unit s).fitted = s.fitted := (lashRecord_log ..).fitted
@[simp] theorem lashRecord_serial (n : SrcIx) (unit : Nat) (s : State) : (lashRecord n unit s).serial = s.serial := (lashRecord_log ..).serial
@[simp] theorem lashRecord_regs (n : SrcIx) (unit : Nat) (s : State) : (lashRecord n unit s).regs = s.regs := (lashRecord_log ..).regs
@[simp] theorem lashRecord_mem (n : SrcIx) (unit : Nat) (s : State) : (lashRecord n unit s).mem = s.mem := (lashRecord_log ..).mem
@[simp] theorem lashRecord_time (n : SrcIx) (unit : Nat) (s : State) : (lashRecord n unit s).time = s.time := (lashRecord_log ..).time
@[simp] theorem lashRecord_lash (n : SrcIx) (unit : Nat) (s : State) : (lashRecord n unit s).lash = s.lash := (lashRecord_log ..).lash
@[simp] theorem lashRecord_lid (n : SrcIx) (unit : Nat) (s : State) : (lashRecord n unit s).lid = s.lid := (lashRecord_log ..).lid
@[simp] theorem lashRecord_tap (n : SrcIx) (unit : Nat) (s : State) : (lashRecord n unit s).tap = s.tap := (lashRecord_log ..).tap
@[simp] theorem lashRecord_dies (n : SrcIx) (unit : Nat) (s : State) : (lashRecord n unit s).dies = s.dies := (lashRecord_log ..).dies
@[simp] theorem lashRecord_coils (n : SrcIx) (unit : Nat) (s : State) : (lashRecord n unit s).coils = s.coils := (lashRecord_log ..).coils
@[simp] theorem lashRecord_coreQ (n : SrcIx) (unit : Nat) (s : State) : (lashRecord n unit s).coreQ = s.coreQ := (lashRecord_log ..).coreQ
@[simp] theorem lashRecord_coilLdr (n : SrcIx) (unit : Nat) (s : State) : (lashRecord n unit s).coilLdr = s.coilLdr := (lashRecord_log ..).coilLdr
@[simp] theorem lashRecord_sns (n : SrcIx) (unit : Nat) (s : State) : (lashRecord n unit s).sns = s.sns := (lashRecord_log ..).sns
@[simp] theorem lashRecord_pairs (n : SrcIx) (unit : Nat) (s : State) : (lashRecord n unit s).pairs = s.pairs := (lashRecord_log ..).pairs
@[simp] theorem lashRecord_plait (n : SrcIx) (unit : Nat) (s : State) : (lashRecord n unit s).plait = s.plait := (lashRecord_log ..).plait
@[simp] theorem lashRecord_coex (n : SrcIx) (unit : Nat) (s : State) : (lashRecord n unit s).coex = s.coex := (lashRecord_log ..).coex
@[simp] theorem lashRecord_wale (n : SrcIx) (unit : Nat) (s : State) : (lashRecord n unit s).wale = s.wale := (lashRecord_log ..).wale
@[simp] theorem lashRecord_reg (n : SrcIx) (unit : Nat) (s : State) : (lashRecord n unit s).reg = s.reg := (lashRecord_log ..).reg
@[simp] theorem lashRecord_handle (n : SrcIx) (unit : Nat) (s : State) : (lashRecord n unit s).handle = s.handle := (lashRecord_log ..).handle
@[simp] theorem lashRecord_thm (n : SrcIx) (unit : Nat) (s : State) : (lashRecord n unit s).thm = s.thm := (lashRecord_log ..).thm
@[simp] theorem lashRecord_pwr (n : SrcIx) (unit : Nat) (s : State) : (lashRecord n unit s).pwr = s.pwr := (lashRecord_log ..).pwr

@[simp] theorem leanReport_pending (s : State) : (leanReport s).pending = s.pending := by
  obtain ⟨_, _, _, _, e⟩ := leanReport_log s; rw [e]
@[simp] theorem leanReport_done (s : State) : (leanReport s).done = s.done := by
  obtain ⟨_, _, _, _, e⟩ := leanReport_log s; rw [e]
@[simp] theorem leanReport_freeCtr (s : State) : (leanReport s).freeCtr = s.freeCtr := by
  obtain ⟨_, _, _, _, e⟩ := leanReport_log s; rw [e]
@[simp] theorem leanReport_fitted (s : State) : (leanReport s).fitted = s.fitted := by
  obtain ⟨_, _, _, _, e⟩ := leanReport_log s; rw [e]
@[simp] theorem leanReport_serial (s : State) : (leanReport s).serial = s.serial := by
  obtain ⟨_, _, _, _, e⟩ := leanReport_log s; rw [e]
@[simp] theorem leanReport_regs (s : State) : (leanReport s).regs = s.regs := by
  obtain ⟨_, _, _, _, e⟩ := leanReport_log s; rw [e]
@[simp] theorem leanReport_mem (s : State) : (leanReport s).mem = s.mem := by
  obtain ⟨_, _, _, _, e⟩ := leanReport_log s; rw [e]
@[simp] theorem leanReport_time (s : State) : (leanReport s).time = s.time := by
  obtain ⟨_, _, _, _, e⟩ := leanReport_log s; rw [e]
@[simp] theorem leanReport_lash (s : State) : (leanReport s).lash = s.lash := by
  obtain ⟨_, _, _, _, e⟩ := leanReport_log s; rw [e]
@[simp] theorem leanReport_lid (s : State) : (leanReport s).lid = s.lid := by
  obtain ⟨_, _, _, _, e⟩ := leanReport_log s; rw [e]
@[simp] theorem leanReport_tap (s : State) : (leanReport s).tap = s.tap := by
  obtain ⟨_, _, _, _, e⟩ := leanReport_log s; rw [e]
@[simp] theorem leanReport_dies (s : State) : (leanReport s).dies = s.dies := by
  obtain ⟨_, _, _, _, e⟩ := leanReport_log s; rw [e]
@[simp] theorem leanReport_coils (s : State) : (leanReport s).coils = s.coils := by
  obtain ⟨_, _, _, _, e⟩ := leanReport_log s; rw [e]
@[simp] theorem leanReport_coreQ (s : State) : (leanReport s).coreQ = s.coreQ := by
  obtain ⟨_, _, _, _, e⟩ := leanReport_log s; rw [e]
@[simp] theorem leanReport_coilLdr (s : State) : (leanReport s).coilLdr = s.coilLdr := by
  obtain ⟨_, _, _, _, e⟩ := leanReport_log s; rw [e]
@[simp] theorem leanReport_sns (s : State) : (leanReport s).sns = s.sns := by
  obtain ⟨_, _, _, _, e⟩ := leanReport_log s; rw [e]
@[simp] theorem leanReport_pairs (s : State) : (leanReport s).pairs = s.pairs := by
  obtain ⟨_, _, _, _, e⟩ := leanReport_log s; rw [e]
@[simp] theorem leanReport_plait (s : State) : (leanReport s).plait = s.plait := by
  obtain ⟨_, _, _, _, e⟩ := leanReport_log s; rw [e]
@[simp] theorem leanReport_coex (s : State) : (leanReport s).coex = s.coex := by
  obtain ⟨_, _, _, _, e⟩ := leanReport_log s; rw [e]
@[simp] theorem leanReport_wale (s : State) : (leanReport s).wale = s.wale := by
  obtain ⟨_, _, _, _, e⟩ := leanReport_log s; rw [e]
@[simp] theorem leanReport_reg (s : State) : (leanReport s).reg = s.reg := by
  obtain ⟨_, _, _, _, e⟩ := leanReport_log s; rw [e]
@[simp] theorem leanReport_handle (s : State) : (leanReport s).handle = s.handle := by
  obtain ⟨_, _, _, _, e⟩ := leanReport_log s; rw [e]
@[simp] theorem leanReport_thm (s : State) : (leanReport s).thm = s.thm := by
  obtain ⟨_, _, _, _, e⟩ := leanReport_log s; rw [e]

@[simp] theorem tallyPut_skein (o : Origin) (target : Nat) (old new : Word) (s : State) :
    (tallyPut o target old new s).skein = s.skein := rfl
@[simp] theorem tallyPut_cane (o : Origin) (target : Nat) (old new : Word) (s : State) :
    (tallyPut o target old new s).cane = s.cane := rfl
@[simp] theorem thmAsk_pending (d : Fin 8) (w : ThmWho) (s : State) : (thmAsk d w s).pending = s.pending := by
  unfold thmAsk; split <;> rfl
@[simp] theorem thmAsk_done (d : Fin 8) (w : ThmWho) (s : State) : (thmAsk d w s).done = s.done := by
  unfold thmAsk; split <;> rfl
@[simp] theorem thmAsk_freeCtr (d : Fin 8) (w : ThmWho) (s : State) : (thmAsk d w s).freeCtr = s.freeCtr := by
  unfold thmAsk; split <;> rfl
@[simp] theorem thmAsk_fitted (d : Fin 8) (w : ThmWho) (s : State) : (thmAsk d w s).fitted = s.fitted := by
  unfold thmAsk; split <;> rfl
@[simp] theorem thmAsk_serial (d : Fin 8) (w : ThmWho) (s : State) : (thmAsk d w s).serial = s.serial := by
  unfold thmAsk; split <;> rfl
@[simp] theorem thmAsk_regs (d : Fin 8) (w : ThmWho) (s : State) : (thmAsk d w s).regs = s.regs := by
  unfold thmAsk; split <;> rfl
@[simp] theorem thmAsk_mem (d : Fin 8) (w : ThmWho) (s : State) : (thmAsk d w s).mem = s.mem := by
  unfold thmAsk; split <;> rfl
@[simp] theorem thmAsk_time (d : Fin 8) (w : ThmWho) (s : State) : (thmAsk d w s).time = s.time := by
  unfold thmAsk; split <;> rfl
@[simp] theorem thmAsk_skein (d : Fin 8) (w : ThmWho) (s : State) : (thmAsk d w s).skein = s.skein := by
  unfold thmAsk; split <;> rfl
@[simp] theorem thmAsk_tally (d : Fin 8) (w : ThmWho) (s : State) : (thmAsk d w s).tally = s.tally := by
  unfold thmAsk; split <;> rfl
@[simp] theorem thmAsk_lash (d : Fin 8) (w : ThmWho) (s : State) : (thmAsk d w s).lash = s.lash := by
  unfold thmAsk; split <;> rfl
@[simp] theorem thmAsk_lid (d : Fin 8) (w : ThmWho) (s : State) : (thmAsk d w s).lid = s.lid := by
  unfold thmAsk; split <;> rfl
@[simp] theorem thmAsk_tap (d : Fin 8) (w : ThmWho) (s : State) : (thmAsk d w s).tap = s.tap := by
  unfold thmAsk; split <;> rfl
@[simp] theorem thmAsk_dies (d : Fin 8) (w : ThmWho) (s : State) : (thmAsk d w s).dies = s.dies := by
  unfold thmAsk; split <;> rfl
@[simp] theorem thmAsk_coils (d : Fin 8) (w : ThmWho) (s : State) : (thmAsk d w s).coils = s.coils := by
  unfold thmAsk; split <;> rfl
@[simp] theorem thmAsk_coreQ (d : Fin 8) (w : ThmWho) (s : State) : (thmAsk d w s).coreQ = s.coreQ := by
  unfold thmAsk; split <;> rfl
@[simp] theorem thmAsk_coilLdr (d : Fin 8) (w : ThmWho) (s : State) : (thmAsk d w s).coilLdr = s.coilLdr := by
  unfold thmAsk; split <;> rfl
@[simp] theorem thmAsk_sns (d : Fin 8) (w : ThmWho) (s : State) : (thmAsk d w s).sns = s.sns := by
  unfold thmAsk; split <;> rfl
@[simp] theorem thmAsk_pairs (d : Fin 8) (w : ThmWho) (s : State) : (thmAsk d w s).pairs = s.pairs := by
  unfold thmAsk; split <;> rfl
@[simp] theorem thmAsk_plait (d : Fin 8) (w : ThmWho) (s : State) : (thmAsk d w s).plait = s.plait := by
  unfold thmAsk; split <;> rfl
@[simp] theorem thmAsk_coex (d : Fin 8) (w : ThmWho) (s : State) : (thmAsk d w s).coex = s.coex := by
  unfold thmAsk; split <;> rfl
@[simp] theorem thmAsk_wale (d : Fin 8) (w : ThmWho) (s : State) : (thmAsk d w s).wale = s.wale := by
  unfold thmAsk; split <;> rfl
@[simp] theorem thmAsk_cane (d : Fin 8) (w : ThmWho) (s : State) : (thmAsk d w s).cane = s.cane := by
  unfold thmAsk; split <;> rfl
@[simp] theorem thmAsk_reg (d : Fin 8) (w : ThmWho) (s : State) : (thmAsk d w s).reg = s.reg := by
  unfold thmAsk; split <;> rfl
@[simp] theorem thmAsk_handle (d : Fin 8) (w : ThmWho) (s : State) : (thmAsk d w s).handle = s.handle := by
  unfold thmAsk; split <;> rfl
@[simp] theorem thmAsk_pwr (d : Fin 8) (w : ThmWho) (s : State) : (thmAsk d w s).pwr = s.pwr := by
  unfold thmAsk; split <;> rfl

end Sys2Proof.Machine
end

