-- ==== Sys2Proof/Laws/Regs.lean ====
section
/-!
SUPPORT. Laws/Regs.lean: the chapter of each register, and the mask of the fields that a write to it stores, and whether
a write can act on it.
-/
namespace Sys2Proof.Machine
open Sys2Proof

@[simp] theorem chapter_CONV_CFG : Reg.chapter .CONV_CFG = .riddle := rfl
@[simp] theorem chapter_CONV_STAT : Reg.chapter .CONV_STAT = .riddle := rfl
@[simp] theorem chapter_ADC_OVR_COUNT : Reg.chapter .ADC_OVR_COUNT = .riddle := rfl
@[simp] theorem chapter_ADC_PEAK : Reg.chapter .ADC_PEAK = .riddle := rfl
@[simp] theorem chapter_RDL_CFG : Reg.chapter .RDL_CFG = .riddle := rfl
@[simp] theorem chapter_NCO_FREQ_LO : Reg.chapter .NCO_FREQ_LO = .riddle := rfl
@[simp] theorem chapter_NCO_FREQ_HI : Reg.chapter .NCO_FREQ_HI = .riddle := rfl
@[simp] theorem chapter_NCO_PHASE : Reg.chapter .NCO_PHASE = .riddle := rfl
@[simp] theorem chapter_NCO_CTRL : Reg.chapter .NCO_CTRL = .riddle := rfl
@[simp] theorem chapter_NCO_ACT_LO : Reg.chapter .NCO_ACT_LO = .riddle := rfl
@[simp] theorem chapter_NCO_ACT_HI : Reg.chapter .NCO_ACT_HI = .riddle := rfl
@[simp] theorem chapter_DELAY_CFG : Reg.chapter .DELAY_CFG = .riddle := rfl
@[simp] theorem chapter_BANK_STAT : Reg.chapter .BANK_STAT = .riddle := rfl
@[simp] theorem chapter_SWAP_REQ : Reg.chapter .SWAP_REQ = .riddle := rfl
@[simp] theorem chapter_SNAP_CFG : Reg.chapter .SNAP_CFG = .riddle := rfl
@[simp] theorem chapter_RDL_STAT : Reg.chapter .RDL_STAT = .riddle := rfl
@[simp] theorem chapter_RDL_SYNC : Reg.chapter .RDL_SYNC = .riddle := rfl
@[simp] theorem chapter_RDL_SYNC_TIME : Reg.chapter .RDL_SYNC_TIME = .riddle := rfl
@[simp] theorem chapter_RDL_SYNC_STAT : Reg.chapter .RDL_SYNC_STAT = .riddle := rfl
@[simp] theorem chapter_RDL_GROUP_SWAP : Reg.chapter .RDL_GROUP_SWAP = .riddle := rfl
@[simp] theorem chapter_STR_CTRL : Reg.chapter .STR_CTRL = .strand := rfl
@[simp] theorem chapter_STR_STAT : Reg.chapter .STR_STAT = .strand := rfl
@[simp] theorem chapter_STR_PLACE : Reg.chapter .STR_PLACE = .strand := rfl
@[simp] theorem chapter_STR_LAT : Reg.chapter .STR_LAT = .strand := rfl
@[simp] theorem chapter_GAIN_CFG : Reg.chapter .GAIN_CFG = .strand := rfl
@[simp] theorem chapter_GAIN_STAT : Reg.chapter .GAIN_STAT = .strand := rfl
@[simp] theorem chapter_ALC_CFG : Reg.chapter .ALC_CFG = .strand := rfl
@[simp] theorem chapter_ALC_STAT : Reg.chapter .ALC_STAT = .strand := rfl
@[simp] theorem chapter_METER_CFG : Reg.chapter .METER_CFG = .strand := rfl
@[simp] theorem chapter_METER_IN : Reg.chapter .METER_IN = .strand := rfl
@[simp] theorem chapter_METER_OUT : Reg.chapter .METER_OUT = .strand := rfl
@[simp] theorem chapter_METER_CREST : Reg.chapter .METER_CREST = .strand := rfl
@[simp] theorem chapter_METER_STAT : Reg.chapter .METER_STAT = .strand := rfl
@[simp] theorem chapter_PAR_STAT : Reg.chapter .PAR_STAT = .strand := rfl
@[simp] theorem chapter_STR_GROUP : Reg.chapter .STR_GROUP = .strand := rfl
@[simp] theorem chapter_LIM_LEVEL : Reg.chapter .LIM_LEVEL = .strand := rfl
@[simp] theorem chapter_LIM_RED : Reg.chapter .LIM_RED = .strand := rfl
@[simp] theorem chapter_LIM_COUNT : Reg.chapter .LIM_COUNT = .strand := rfl
@[simp] theorem chapter_CNC_CTRL : Reg.chapter .CNC_CTRL = .canc := rfl
@[simp] theorem chapter_CNC_ADAPT : Reg.chapter .CNC_ADAPT = .canc := rfl
@[simp] theorem chapter_SOUND_CFG : Reg.chapter .SOUND_CFG = .canc := rfl
@[simp] theorem chapter_SOUND_STAT : Reg.chapter .SOUND_STAT = .canc := rfl
@[simp] theorem chapter_PLACE_CFG : Reg.chapter .PLACE_CFG = .canc := rfl
@[simp] theorem chapter_PLACE_STAT : Reg.chapter .PLACE_STAT = .canc := rfl
@[simp] theorem chapter_MARGIN_CFG : Reg.chapter .MARGIN_CFG = .canc := rfl
@[simp] theorem chapter_LOOP_STAT : Reg.chapter .LOOP_STAT = .canc := rfl
@[simp] theorem chapter_ISO_STAT : Reg.chapter .ISO_STAT = .canc := rfl
@[simp] theorem chapter_DEPTH_STAT : Reg.chapter .DEPTH_STAT = .canc := rfl
@[simp] theorem chapter_CAP_STAT : Reg.chapter .CAP_STAT = .canc := rfl
@[simp] theorem chapter_PROF_SEL : Reg.chapter .PROF_SEL = .canc := rfl
@[simp] theorem chapter_TAP : Reg.chapter .TAP = .canc := rfl
@[simp] theorem chapter_COEF_RE : Reg.chapter .COEF_RE = .canc := rfl
@[simp] theorem chapter_COEF_IM : Reg.chapter .COEF_IM = .canc := rfl
@[simp] theorem chapter_PROF_WIN : Reg.chapter .PROF_WIN = .canc := rfl
@[simp] theorem chapter_RX_CAL : Reg.chapter .RX_CAL = .canc := rfl
@[simp] theorem chapter_GRD_CFG : Reg.chapter .GRD_CFG = .canc := rfl
@[simp] theorem chapter_GRD_RECOV : Reg.chapter .GRD_RECOV = .canc := rfl
@[simp] theorem chapter_GRD_STAT : Reg.chapter .GRD_STAT = .canc := rfl
@[simp] theorem chapter_GRD_COUNT : Reg.chapter .GRD_COUNT = .canc := rfl
@[simp] theorem chapter_GRD_MON : Reg.chapter .GRD_MON = .canc := rfl
@[simp] theorem chapter_UG_CFG : Reg.chapter .UG_CFG = .prot := rfl
@[simp] theorem chapter_UG_STAT : Reg.chapter .UG_STAT = .prot := rfl
@[simp] theorem chapter_BO_CFG : Reg.chapter .BO_CFG = .prot := rfl
@[simp] theorem chapter_BO_STAT : Reg.chapter .BO_STAT = .prot := rfl
@[simp] theorem chapter_PROT_STAT : Reg.chapter .PROT_STAT = .prot := rfl
@[simp] theorem chapter_PRES_CFG : Reg.chapter .PRES_CFG = .prot := rfl
@[simp] theorem chapter_PRES_STAT : Reg.chapter .PRES_STAT = .prot := rfl
@[simp] theorem chapter_PRES_ID : Reg.chapter .PRES_ID = .prot := rfl
@[simp] theorem chapter_TDD_CFG : Reg.chapter .TDD_CFG = .prot := rfl
@[simp] theorem chapter_TDD_SLOTS : Reg.chapter .TDD_SLOTS = .prot := rfl
@[simp] theorem chapter_TDD_SYNC : Reg.chapter .TDD_SYNC = .prot := rfl
@[simp] theorem chapter_TDD_ADV : Reg.chapter .TDD_ADV = .prot := rfl
@[simp] theorem chapter_TDD_STAT : Reg.chapter .TDD_STAT = .prot := rfl
@[simp] theorem chapter_DUTY_STAT : Reg.chapter .DUTY_STAT = .prot := rfl
@[simp] theorem chapter_LEAN_CFG : Reg.chapter .LEAN_CFG = .prot := rfl
@[simp] theorem chapter_LEAN_MASK : Reg.chapter .LEAN_MASK = .prot := rfl
@[simp] theorem chapter_REG_EDIT : Reg.chapter .REG_EDIT = .link := rfl
@[simp] theorem chapter_REG_SEQ : Reg.chapter .REG_SEQ = .link := rfl
@[simp] theorem chapter_REG_STAT : Reg.chapter .REG_STAT = .link := rfl
@[simp] theorem chapter_PRG_CMD : Reg.chapter .PRG_CMD = .prog := rfl
@[simp] theorem chapter_PRG_MASK : Reg.chapter .PRG_MASK = .prog := rfl
@[simp] theorem chapter_PRG_RESULT : Reg.chapter .PRG_RESULT = .prog := rfl
@[simp] theorem chapter_PRG_USE : Reg.chapter .PRG_USE = .prog := rfl
@[simp] theorem chapter_PRG_WEAVE : Reg.chapter .PRG_WEAVE = .prog := rfl
@[simp] theorem chapter_PRG_SLOT : Reg.chapter .PRG_SLOT = .prog := rfl
@[simp] theorem chapter_PRG_DIG : Reg.chapter .PRG_DIG = .prog := rfl
@[simp] theorem chapter_LIB_DIG : Reg.chapter .LIB_DIG = .prog := rfl
@[simp] theorem chapter_PRG_STAT : Reg.chapter .PRG_STAT = .prog := rfl
@[simp] theorem chapter_PRG_FLAGS : Reg.chapter .PRG_FLAGS = .prog := rfl
@[simp] theorem chapter_PRG_PCTRL : Reg.chapter .PRG_PCTRL = .prog := rfl
@[simp] theorem chapter_PRG_PARAM : Reg.chapter .PRG_PARAM = .prog := rfl
@[simp] theorem chapter_PRC_CTRL : Reg.chapter .PRC_CTRL = .radio := rfl
@[simp] theorem chapter_PRC_STAT : Reg.chapter .PRC_STAT = .radio := rfl
@[simp] theorem chapter_PRC_COUNT : Reg.chapter .PRC_COUNT = .radio := rfl
@[simp] theorem chapter_TUNE_CFG : Reg.chapter .TUNE_CFG = .radio := rfl
@[simp] theorem chapter_TUNE_STAT : Reg.chapter .TUNE_STAT = .radio := rfl
@[simp] theorem chapter_TUNE_SEQ : Reg.chapter .TUNE_SEQ = .radio := rfl
@[simp] theorem chapter_DIV_CFG : Reg.chapter .DIV_CFG = .radio := rfl
@[simp] theorem chapter_DIV_STAT : Reg.chapter .DIV_STAT = .radio := rfl
@[simp] theorem chapter_SCAN_STAT : Reg.chapter .SCAN_STAT = .radio := rfl
@[simp] theorem chapter_SCAN_CAL : Reg.chapter .SCAN_CAL = .radio := rfl
@[simp] theorem chapter_SCAN_REQ : Reg.chapter .SCAN_REQ = .radio := rfl
@[simp] theorem chapter_SCAN_DWELL : Reg.chapter .SCAN_DWELL = .radio := rfl
@[simp] theorem chapter_SCAN_RES : Reg.chapter .SCAN_RES = .radio := rfl
@[simp] theorem chapter_SCAN_CELL : Reg.chapter .SCAN_CELL = .radio := rfl
@[simp] theorem chapter_RFFE_CFG : Reg.chapter .RFFE_CFG = .radio := rfl
@[simp] theorem chapter_RFFE_CMD : Reg.chapter .RFFE_CMD = .radio := rfl
@[simp] theorem chapter_RFFE_DATA : Reg.chapter .RFFE_DATA = .radio := rfl
@[simp] theorem chapter_RFFE_STAT : Reg.chapter .RFFE_STAT = .radio := rfl
@[simp] theorem chapter_COEX_CFG : Reg.chapter .COEX_CFG = .link := rfl
@[simp] theorem chapter_COEX_PORTS : Reg.chapter .COEX_PORTS = .link := rfl
@[simp] theorem chapter_COEX_STAT : Reg.chapter .COEX_STAT = .link := rfl
@[simp] theorem chapter_COEX_GRANTS : Reg.chapter .COEX_GRANTS = .link := rfl
@[simp] theorem chapter_COIL_CTRL : Reg.chapter .COIL_CTRL = .coil := rfl
@[simp] theorem chapter_COIL_STAT : Reg.chapter .COIL_STAT = .coil := rfl
@[simp] theorem chapter_COIL_CFG : Reg.chapter .COIL_CFG = .coil := rfl
@[simp] theorem chapter_COIL_SENSE : Reg.chapter .COIL_SENSE = .coil := rfl
@[simp] theorem chapter_SP_MIN : Reg.chapter .SP_MIN = .coil := rfl
@[simp] theorem chapter_SP_MAX : Reg.chapter .SP_MAX = .coil := rfl
@[simp] theorem chapter_SLEW_UP : Reg.chapter .SLEW_UP = .coil := rfl
@[simp] theorem chapter_SLEW_DN : Reg.chapter .SLEW_DN = .coil := rfl
@[simp] theorem chapter_FIXED_SP : Reg.chapter .FIXED_SP = .coil := rfl
@[simp] theorem chapter_SP_HOST : Reg.chapter .SP_HOST = .coil := rfl
@[simp] theorem chapter_BANK_HYST : Reg.chapter .BANK_HYST = .coil := rfl
@[simp] theorem chapter_DUTY_LIM : Reg.chapter .DUTY_LIM = .coil := rfl
@[simp] theorem chapter_NOTCH_B0 : Reg.chapter .NOTCH_B0 = .coil := rfl
@[simp] theorem chapter_NOTCH_B1 : Reg.chapter .NOTCH_B1 = .coil := rfl
@[simp] theorem chapter_NOTCH_B2 : Reg.chapter .NOTCH_B2 = .coil := rfl
@[simp] theorem chapter_NOTCH_A1 : Reg.chapter .NOTCH_A1 = .coil := rfl
@[simp] theorem chapter_NOTCH_A2 : Reg.chapter .NOTCH_A2 = .coil := rfl
@[simp] theorem chapter_PLAUS_CFG : Reg.chapter .PLAUS_CFG = .coil := rfl
@[simp] theorem chapter_PLAUS_MG : Reg.chapter .PLAUS_MG = .coil := rfl
@[simp] theorem chapter_PLAUS_MO : Reg.chapter .PLAUS_MO = .coil := rfl
@[simp] theorem chapter_PLAUS_LIM : Reg.chapter .PLAUS_LIM = .coil := rfl
@[simp] theorem chapter_COIL_FLAGS : Reg.chapter .COIL_FLAGS = .coil := rfl
@[simp] theorem chapter_MON_Y : Reg.chapter .MON_Y = .coil := rfl
@[simp] theorem chapter_MON_SP : Reg.chapter .MON_SP = .coil := rfl
@[simp] theorem chapter_MON_TRIM : Reg.chapter .MON_TRIM = .coil := rfl
@[simp] theorem chapter_MON_LA : Reg.chapter .MON_LA = .coil := rfl
@[simp] theorem chapter_MON_RES : Reg.chapter .MON_RES = .coil := rfl
@[simp] theorem chapter_MON_DUTY : Reg.chapter .MON_DUTY = .coil := rfl
@[simp] theorem chapter_TRACE_CFG : Reg.chapter .TRACE_CFG = .coil := rfl
@[simp] theorem chapter_TRACE_STAT : Reg.chapter .TRACE_STAT = .coil := rfl
@[simp] theorem chapter_COIL_PARAM : Reg.chapter .COIL_PARAM = .coil := rfl
@[simp] theorem chapter_COIL_PCTRL : Reg.chapter .COIL_PCTRL = .coil := rfl
@[simp] theorem chapter_COIL_IMG : Reg.chapter .COIL_IMG = .coil := rfl
@[simp] theorem chapter_BANK_EDGE : Reg.chapter .BANK_EDGE = .coil := rfl
@[simp] theorem chapter_BANK_BAND : Reg.chapter .BANK_BAND = .coil := rfl
@[simp] theorem chapter_TRIM_MIN : Reg.chapter .TRIM_MIN = .coil := rfl
@[simp] theorem chapter_TRIM_MAX : Reg.chapter .TRIM_MAX = .coil := rfl
@[simp] theorem chapter_BANK_DUTY : Reg.chapter .BANK_DUTY = .coil := rfl
@[simp] theorem chapter_BANK_KI : Reg.chapter .BANK_KI = .coil := rfl
@[simp] theorem chapter_COIL_CMD : Reg.chapter .COIL_CMD = .coil := rfl
@[simp] theorem chapter_COIL_RESULT : Reg.chapter .COIL_RESULT = .coil := rfl
@[simp] theorem chapter_COIL_USE : Reg.chapter .COIL_USE = .coil := rfl
@[simp] theorem chapter_CORE_LOAD : Reg.chapter .CORE_LOAD = .coil := rfl
@[simp] theorem chapter_TAB_SEL : Reg.chapter .TAB_SEL = .coil := rfl
@[simp] theorem chapter_TRACE_VIEW : Reg.chapter .TRACE_VIEW = .coil := rfl
@[simp] theorem chapter_SNS_GAIN : Reg.chapter .SNS_GAIN = .coil := rfl
@[simp] theorem chapter_SNS_OFS : Reg.chapter .SNS_OFS = .coil := rfl
@[simp] theorem chapter_PAIR_CTRL : Reg.chapter .PAIR_CTRL = .plait := rfl
@[simp] theorem chapter_PAIR_PERIOD : Reg.chapter .PAIR_PERIOD = .plait := rfl
@[simp] theorem chapter_PAIR_DUTY : Reg.chapter .PAIR_DUTY = .plait := rfl
@[simp] theorem chapter_PAIR_PHASE : Reg.chapter .PAIR_PHASE = .plait := rfl
@[simp] theorem chapter_PAIR_DT : Reg.chapter .PAIR_DT = .plait := rfl
@[simp] theorem chapter_PAIR_TRIP : Reg.chapter .PAIR_TRIP = .plait := rfl
@[simp] theorem chapter_PAIR_STAT : Reg.chapter .PAIR_STAT = .plait := rfl
@[simp] theorem chapter_PAIR_EVT : Reg.chapter .PAIR_EVT = .plait := rfl
@[simp] theorem chapter_PL_MASK0 : Reg.chapter .PL_MASK0 = .plait := rfl
@[simp] theorem chapter_PL_MASK1 : Reg.chapter .PL_MASK1 = .plait := rfl
@[simp] theorem chapter_PL_CMD : Reg.chapter .PL_CMD = .plait := rfl
@[simp] theorem chapter_PL_TRIP_CFG : Reg.chapter .PL_TRIP_CFG = .plait := rfl
@[simp] theorem chapter_PL_TRIP_POL : Reg.chapter .PL_TRIP_POL = .plait := rfl
@[simp] theorem chapter_PL_TRIP_STAT : Reg.chapter .PL_TRIP_STAT = .plait := rfl
@[simp] theorem chapter_PL_CAL : Reg.chapter .PL_CAL = .plait := rfl
@[simp] theorem chapter_WALE_CTRL : Reg.chapter .WALE_CTRL = .wale := rfl
@[simp] theorem chapter_WALE_STAT : Reg.chapter .WALE_STAT = .wale := rfl
@[simp] theorem chapter_BASKET_ID : Reg.chapter .BASKET_ID = .wale := rfl
@[simp] theorem chapter_FT_LO : Reg.chapter .FT_LO = .wale := rfl
@[simp] theorem chapter_FT_HI : Reg.chapter .FT_HI = .wale := rfl
@[simp] theorem chapter_TIME_STAT : Reg.chapter .TIME_STAT = .wale := rfl
@[simp] theorem chapter_ROUTE : Reg.chapter .ROUTE = .wale := rfl
@[simp] theorem chapter_ROUTE_CMD : Reg.chapter .ROUTE_CMD = .wale := rfl
@[simp] theorem chapter_PIN_SER_LO : Reg.chapter .PIN_SER_LO = .wale := rfl
@[simp] theorem chapter_PIN_SER_HI : Reg.chapter .PIN_SER_HI = .wale := rfl
@[simp] theorem chapter_PIN_ADDR : Reg.chapter .PIN_ADDR = .wale := rfl
@[simp] theorem chapter_PORT_CTRL : Reg.chapter .PORT_CTRL = .wale := rfl
@[simp] theorem chapter_PORT_STAT : Reg.chapter .PORT_STAT = .wale := rfl
@[simp] theorem chapter_PORT_DELAY : Reg.chapter .PORT_DELAY = .wale := rfl
@[simp] theorem chapter_PORT_ERR : Reg.chapter .PORT_ERR = .wale := rfl
@[simp] theorem chapter_PORT_EVT : Reg.chapter .PORT_EVT = .wale := rfl
@[simp] theorem chapter_PEER_SER_LO : Reg.chapter .PEER_SER_LO = .wale := rfl
@[simp] theorem chapter_PEER_SER_HI : Reg.chapter .PEER_SER_HI = .wale := rfl
@[simp] theorem chapter_EP_CFG : Reg.chapter .EP_CFG = .wale := rfl
@[simp] theorem chapter_EP_PLAY : Reg.chapter .EP_PLAY = .wale := rfl
@[simp] theorem chapter_EP_CTRL : Reg.chapter .EP_CTRL = .wale := rfl
@[simp] theorem chapter_EP_MON : Reg.chapter .EP_MON = .wale := rfl
@[simp] theorem chapter_GRT_STAT : Reg.chapter .GRT_STAT = .wale := rfl
@[simp] theorem chapter_GRT_CNT0 : Reg.chapter .GRT_CNT0 = .wale := rfl
@[simp] theorem chapter_GRT_CNT1 : Reg.chapter .GRT_CNT1 = .wale := rfl
@[simp] theorem chapter_CANE_CTRL : Reg.chapter .CANE_CTRL = .link := rfl
@[simp] theorem chapter_CANE_STAT : Reg.chapter .CANE_STAT = .link := rfl
@[simp] theorem chapter_CANE_TAGS : Reg.chapter .CANE_TAGS = .link := rfl
@[simp] theorem chapter_CANE_ERR : Reg.chapter .CANE_ERR = .link := rfl
@[simp] theorem chapter_CANE_PROT : Reg.chapter .CANE_PROT = .link := rfl
@[simp] theorem chapter_CANE_EVT : Reg.chapter .CANE_EVT = .link := rfl
@[simp] theorem chapter_CANE_LINK : Reg.chapter .CANE_LINK = .link := rfl
@[simp] theorem chapter_HDL_STAT : Reg.chapter .HDL_STAT = .handle := rfl
@[simp] theorem chapter_CFG_FIRST : Reg.chapter .CFG_FIRST = .handle := rfl
@[simp] theorem chapter_RST_CTRL : Reg.chapter .RST_CTRL = .handle := rfl
@[simp] theorem chapter_UPD_CTRL : Reg.chapter .UPD_CTRL = .handle := rfl
@[simp] theorem chapter_UPD_STAT : Reg.chapter .UPD_STAT = .handle := rfl
@[simp] theorem chapter_UPD_SIZE : Reg.chapter .UPD_SIZE = .handle := rfl
@[simp] theorem chapter_UPD_DIG : Reg.chapter .UPD_DIG = .handle := rfl
@[simp] theorem chapter_TEL_CFG : Reg.chapter .TEL_CFG = .handle := rfl
@[simp] theorem chapter_TEL_VMAX : Reg.chapter .TEL_VMAX = .handle := rfl
@[simp] theorem chapter_TEL_IMAX : Reg.chapter .TEL_IMAX = .handle := rfl
@[simp] theorem chapter_TEL_V : Reg.chapter .TEL_V = .handle := rfl
@[simp] theorem chapter_TEL_I : Reg.chapter .TEL_I = .handle := rfl
@[simp] theorem chapter_TEL_P : Reg.chapter .TEL_P = .handle := rfl
@[simp] theorem chapter_TEL_VMIN_SEEN : Reg.chapter .TEL_VMIN_SEEN = .handle := rfl
@[simp] theorem chapter_TEL_VMAX_SEEN : Reg.chapter .TEL_VMAX_SEEN = .handle := rfl
@[simp] theorem chapter_TEL_STAT : Reg.chapter .TEL_STAT = .handle := rfl
@[simp] theorem chapter_ID_PART : Reg.chapter .ID_PART = .handle := rfl
@[simp] theorem chapter_ID_SER_LO : Reg.chapter .ID_SER_LO = .handle := rfl
@[simp] theorem chapter_ID_SER_HI : Reg.chapter .ID_SER_HI = .handle := rfl
@[simp] theorem chapter_VER_HUB : Reg.chapter .VER_HUB = .handle := rfl
@[simp] theorem chapter_VER_MCODE : Reg.chapter .VER_MCODE = .handle := rfl
@[simp] theorem chapter_VER_WITHY : Reg.chapter .VER_WITHY = .handle := rfl
@[simp] theorem chapter_BOOT_STAT : Reg.chapter .BOOT_STAT = .handle := rfl
@[simp] theorem chapter_SKN_CTRL : Reg.chapter .SKN_CTRL = .log := rfl
@[simp] theorem chapter_SKN_STAT : Reg.chapter .SKN_STAT = .log := rfl
@[simp] theorem chapter_SKN_SEQ : Reg.chapter .SKN_SEQ = .log := rfl
@[simp] theorem chapter_SKN_FIRST : Reg.chapter .SKN_FIRST = .log := rfl
@[simp] theorem chapter_SKN_RD : Reg.chapter .SKN_RD = .log := rfl
@[simp] theorem chapter_SKN_LOST : Reg.chapter .SKN_LOST = .log := rfl
@[simp] theorem chapter_SKN_WIN : Reg.chapter .SKN_WIN = .log := rfl
@[simp] theorem chapter_TLY_ACK : Reg.chapter .TLY_ACK = .log := rfl
@[simp] theorem chapter_TLY_NEXT : Reg.chapter .TLY_NEXT = .log := rfl
@[simp] theorem chapter_TLY_RD : Reg.chapter .TLY_RD = .log := rfl
@[simp] theorem chapter_TLY_STAT : Reg.chapter .TLY_STAT = .log := rfl
@[simp] theorem chapter_TLY_LOST : Reg.chapter .TLY_LOST = .log := rfl
@[simp] theorem chapter_WT_LO : Reg.chapter .WT_LO = .log := rfl
@[simp] theorem chapter_WT_SET_LO : Reg.chapter .WT_SET_LO = .log := rfl
@[simp] theorem chapter_WT_HI : Reg.chapter .WT_HI = .log := rfl
@[simp] theorem chapter_WT_SET_HI : Reg.chapter .WT_SET_HI = .log := rfl
@[simp] theorem chapter_WT_CTRL : Reg.chapter .WT_CTRL = .log := rfl
@[simp] theorem chapter_TLY_SEAL : Reg.chapter .TLY_SEAL = .log := rfl
@[simp] theorem chapter_TLY_WIN : Reg.chapter .TLY_WIN = .log := rfl
@[simp] theorem chapter_TLY_SEAL_WIN : Reg.chapter .TLY_SEAL_WIN = .log := rfl
@[simp] theorem chapter_LSH_CTRL : Reg.chapter .LSH_CTRL = .lash := rfl
@[simp] theorem chapter_LSH_STAT : Reg.chapter .LSH_STAT = .lash := rfl
@[simp] theorem chapter_LSH_INJ : Reg.chapter .LSH_INJ = .lash := rfl
@[simp] theorem chapter_LSH_SUM : Reg.chapter .LSH_SUM = .lash := rfl
@[simp] theorem chapter_LSH_SRC_CFG : Reg.chapter .LSH_SRC_CFG = .lash := rfl
@[simp] theorem chapter_LSH_SRC_STAT : Reg.chapter .LSH_SRC_STAT = .lash := rfl
@[simp] theorem chapter_THM_CTRL : Reg.chapter .THM_CTRL = .guard := rfl
@[simp] theorem chapter_THM_THR : Reg.chapter .THM_THR = .guard := rfl
@[simp] theorem chapter_THM_STAT : Reg.chapter .THM_STAT = .guard := rfl
@[simp] theorem chapter_THM_DIE : Reg.chapter .THM_DIE = .guard := rfl
@[simp] theorem chapter_THM_CNT : Reg.chapter .THM_CNT = .guard := rfl
@[simp] theorem chapter_PWR_CTRL : Reg.chapter .PWR_CTRL = .guard := rfl
@[simp] theorem chapter_PWR_STAT : Reg.chapter .PWR_STAT = .guard := rfl
@[simp] theorem chapter_WAKE_CFG : Reg.chapter .WAKE_CFG = .guard := rfl
@[simp] theorem chapter_CLK_STAT : Reg.chapter .CLK_STAT = .guard := rfl
@[simp] theorem chapter_PWR_CNT : Reg.chapter .PWR_CNT = .guard := rfl
@[simp] theorem chapter_LID_CTRL : Reg.chapter .LID_CTRL = .guard := rfl
@[simp] theorem chapter_LID_STAT : Reg.chapter .LID_STAT = .guard := rfl
@[simp] theorem chapter_LID_LOCK : Reg.chapter .LID_LOCK = .guard := rfl
@[simp] theorem chapter_LID_CFG : Reg.chapter .LID_CFG = .guard := rfl
@[simp] theorem chapter_LID_PW : Reg.chapter .LID_PW = .guard := rfl
@[simp] theorem chapter_LID_EVAL : Reg.chapter .LID_EVAL = .guard := rfl
@[simp] theorem chapter_DENY_ADDR : Reg.chapter .DENY_ADDR = .guard := rfl
@[simp] theorem chapter_DENY_CNT : Reg.chapter .DENY_CNT = .guard := rfl
@[simp] theorem chapter_LID_CERT : Reg.chapter .LID_CERT = .guard := rfl

@[simp] theorem storedMask_CONV_CFG : storedMask .CONV_CFG = 0x1 := by decide
@[simp] theorem storedMask_CONV_STAT : storedMask .CONV_STAT = 0x0 := by decide
@[simp] theorem storedMask_RDL_CFG : storedMask .RDL_CFG = 0x7ff1707 := by decide
@[simp] theorem storedMask_NCO_FREQ_LO : storedMask .NCO_FREQ_LO = 0xffffffff := by decide
@[simp] theorem storedMask_NCO_FREQ_HI : storedMask .NCO_FREQ_HI = 0xffff := by decide
@[simp] theorem storedMask_NCO_PHASE : storedMask .NCO_PHASE = 0xffffffff := by decide
@[simp] theorem storedMask_NCO_CTRL : storedMask .NCO_CTRL = 0x0 := by decide
@[simp] theorem storedMask_DELAY_CFG : storedMask .DELAY_CFG = 0x13fff := by decide
@[simp] theorem storedMask_BANK_STAT : storedMask .BANK_STAT = 0x0 := by decide
@[simp] theorem storedMask_SWAP_REQ : storedMask .SWAP_REQ = 0x0 := by decide
@[simp] theorem storedMask_SNAP_CFG : storedMask .SNAP_CFG = 0x7ff := by decide
@[simp] theorem storedMask_RDL_STAT : storedMask .RDL_STAT = 0x0 := by decide
@[simp] theorem storedMask_RDL_SYNC : storedMask .RDL_SYNC = 0x0 := by decide
@[simp] theorem storedMask_RDL_SYNC_TIME : storedMask .RDL_SYNC_TIME = 0xffffffff := by decide
@[simp] theorem storedMask_RDL_SYNC_STAT : storedMask .RDL_SYNC_STAT = 0x0 := by decide
@[simp] theorem storedMask_RDL_GROUP_SWAP : storedMask .RDL_GROUP_SWAP = 0x0 := by decide
@[simp] theorem storedMask_STR_CTRL : storedMask .STR_CTRL = 0x0 := by decide
@[simp] theorem storedMask_STR_PLACE : storedMask .STR_PLACE = 0xffff0fc7 := by decide
@[simp] theorem storedMask_GAIN_CFG : storedMask .GAIN_CFG = 0xfff03ff := by decide
@[simp] theorem storedMask_ALC_CFG : storedMask .ALC_CFG = 0x9ff0ffff := by decide
@[simp] theorem storedMask_METER_CFG : storedMask .METER_CFG = 0xf := by decide
@[simp] theorem storedMask_STR_GROUP : storedMask .STR_GROUP = 0x0 := by decide
@[simp] theorem storedMask_CNC_CTRL : storedMask .CNC_CTRL = 0x7 := by decide
@[simp] theorem storedMask_CNC_ADAPT : storedMask .CNC_ADAPT = 0x1f1f := by decide
@[simp] theorem storedMask_SOUND_CFG : storedMask .SOUND_CFG = 0x73f := by decide
@[simp] theorem storedMask_SOUND_STAT : storedMask .SOUND_STAT = 0x0 := by decide
@[simp] theorem storedMask_PLACE_CFG : storedMask .PLACE_CFG = 0x3f3f03 := by decide
@[simp] theorem storedMask_MARGIN_CFG : storedMask .MARGIN_CFG = 0x3ff03ff := by decide
@[simp] theorem storedMask_PROF_SEL : storedMask .PROF_SEL = 0x1f := by decide
@[simp] theorem storedMask_TAP : storedMask .TAP = 0x0 := by decide
@[simp] theorem storedMask_COEF_RE : storedMask .COEF_RE = 0x0 := by decide
@[simp] theorem storedMask_COEF_IM : storedMask .COEF_IM = 0x0 := by decide
@[simp] theorem storedMask_RX_CAL : storedMask .RX_CAL = 0xffff := by decide
@[simp] theorem storedMask_GRD_CFG : storedMask .GRD_CFG = 0xfffff80f := by decide
@[simp] theorem storedMask_GRD_RECOV : storedMask .GRD_RECOV = 0xfffffff := by decide
@[simp] theorem storedMask_GRD_STAT : storedMask .GRD_STAT = 0x0 := by decide
@[simp] theorem storedMask_UG_CFG : storedMask .UG_CFG = 0xffffffff := by decide
@[simp] theorem storedMask_BO_CFG : storedMask .BO_CFG = 0xffffffff := by decide
@[simp] theorem storedMask_PRES_CFG : storedMask .PRES_CFG = 0xffffffff := by decide
@[simp] theorem storedMask_PRES_ID : storedMask .PRES_ID = 0xc00003ff := by decide
@[simp] theorem storedMask_TDD_CFG : storedMask .TDD_CFG = 0xfeffffff := by decide
@[simp] theorem storedMask_TDD_SLOTS : storedMask .TDD_SLOTS = 0xffffffff := by decide
@[simp] theorem storedMask_TDD_SYNC : storedMask .TDD_SYNC = 0xf0ffffff := by decide
@[simp] theorem storedMask_TDD_ADV : storedMask .TDD_ADV = 0xffff := by decide
@[simp] theorem storedMask_TDD_STAT : storedMask .TDD_STAT = 0x0 := by decide
@[simp] theorem storedMask_LEAN_CFG : storedMask .LEAN_CFG = 0x871f00ff := by decide
@[simp] theorem storedMask_LEAN_MASK : storedMask .LEAN_MASK = 0xffff := by decide
@[simp] theorem storedMask_REG_EDIT : storedMask .REG_EDIT = 0x0 := by decide
@[simp] theorem storedMask_PRG_CMD : storedMask .PRG_CMD = 0x0 := by decide
@[simp] theorem storedMask_PRG_MASK : storedMask .PRG_MASK = 0xffff := by decide
@[simp] theorem storedMask_PRG_FLAGS : storedMask .PRG_FLAGS = 0x0 := by decide
@[simp] theorem storedMask_PRG_PCTRL : storedMask .PRG_PCTRL = 0x0 := by decide
@[simp] theorem storedMask_PRG_PARAM : storedMask .PRG_PARAM = 0xffffffff := by decide
@[simp] theorem storedMask_PRC_CTRL : storedMask .PRC_CTRL = 0x317 := by decide
@[simp] theorem storedMask_TUNE_CFG : storedMask .TUNE_CFG = 0xfffff00 := by decide
@[simp] theorem storedMask_TUNE_SEQ : storedMask .TUNE_SEQ = 0xf1ffffff := by decide
@[simp] theorem storedMask_DIV_CFG : storedMask .DIV_CFG = 0x1fffffff := by decide
@[simp] theorem storedMask_SCAN_STAT : storedMask .SCAN_STAT = 0x0 := by decide
@[simp] theorem storedMask_SCAN_REQ : storedMask .SCAN_REQ = 0x3c7fffff := by decide
@[simp] theorem storedMask_SCAN_DWELL : storedMask .SCAN_DWELL = 0x7ffffff := by decide
@[simp] theorem storedMask_RFFE_CFG : storedMask .RFFE_CFG = 0x1ff := by decide
@[simp] theorem storedMask_RFFE_CMD : storedMask .RFFE_CMD = 0x7f100ff := by decide
@[simp] theorem storedMask_RFFE_DATA : storedMask .RFFE_DATA = 0x0 := by decide
@[simp] theorem storedMask_RFFE_STAT : storedMask .RFFE_STAT = 0x0 := by decide
@[simp] theorem storedMask_COEX_CFG : storedMask .COEX_CFG = 0xe0ffffff := by decide
@[simp] theorem storedMask_COEX_PORTS : storedMask .COEX_PORTS = 0xfffffff := by decide
@[simp] theorem storedMask_COIL_CTRL : storedMask .COIL_CTRL = 0x4 := by decide
@[simp] theorem storedMask_COIL_CFG : storedMask .COIL_CFG = 0x3f3f700f := by decide
@[simp] theorem storedMask_COIL_SENSE : storedMask .COIL_SENSE = 0x3f3f3f := by decide
@[simp] theorem storedMask_SP_MIN : storedMask .SP_MIN = 0xffffffff := by decide
@[simp] theorem storedMask_SP_MAX : storedMask .SP_MAX = 0xffffffff := by decide
@[simp] theorem storedMask_SLEW_UP : storedMask .SLEW_UP = 0xffffffff := by decide
@[simp] theorem storedMask_SLEW_DN : storedMask .SLEW_DN = 0xffffffff := by decide
@[simp] theorem storedMask_FIXED_SP : storedMask .FIXED_SP = 0xffffffff := by decide
@[simp] theorem storedMask_SP_HOST : storedMask .SP_HOST = 0xffffffff := by decide
@[simp] theorem storedMask_BANK_HYST : storedMask .BANK_HYST = 0xffffffff := by decide
@[simp] theorem storedMask_DUTY_LIM : storedMask .DUTY_LIM = 0xffffffff := by decide
@[simp] theorem storedMask_NOTCH_B0 : storedMask .NOTCH_B0 = 0xffffffff := by decide
@[simp] theorem storedMask_NOTCH_B1 : storedMask .NOTCH_B1 = 0xffffffff := by decide
@[simp] theorem storedMask_NOTCH_B2 : storedMask .NOTCH_B2 = 0xffffffff := by decide
@[simp] theorem storedMask_NOTCH_A1 : storedMask .NOTCH_A1 = 0xffffffff := by decide
@[simp] theorem storedMask_NOTCH_A2 : storedMask .NOTCH_A2 = 0xffffffff := by decide
@[simp] theorem storedMask_PLAUS_CFG : storedMask .PLAUS_CFG = 0xff1f := by decide
@[simp] theorem storedMask_PLAUS_MG : storedMask .PLAUS_MG = 0xffffffff := by decide
@[simp] theorem storedMask_PLAUS_MO : storedMask .PLAUS_MO = 0xffffffff := by decide
@[simp] theorem storedMask_PLAUS_LIM : storedMask .PLAUS_LIM = 0xffffffff := by decide
@[simp] theorem storedMask_COIL_FLAGS : storedMask .COIL_FLAGS = 0x0 := by decide
@[simp] theorem storedMask_TRACE_CFG : storedMask .TRACE_CFG = 0x3fffffff := by decide
@[simp] theorem storedMask_COIL_PARAM : storedMask .COIL_PARAM = 0xffffffff := by decide
@[simp] theorem storedMask_COIL_PCTRL : storedMask .COIL_PCTRL = 0x0 := by decide
@[simp] theorem storedMask_BANK_EDGE : storedMask .BANK_EDGE = 0xffffffff := by decide
@[simp] theorem storedMask_BANK_BAND : storedMask .BANK_BAND = 0xffffffff := by decide
@[simp] theorem storedMask_TRIM_MIN : storedMask .TRIM_MIN = 0xffffffff := by decide
@[simp] theorem storedMask_TRIM_MAX : storedMask .TRIM_MAX = 0xffffffff := by decide
@[simp] theorem storedMask_BANK_DUTY : storedMask .BANK_DUTY = 0xffffffff := by decide
@[simp] theorem storedMask_BANK_KI : storedMask .BANK_KI = 0x1f := by decide
@[simp] theorem storedMask_COIL_CMD : storedMask .COIL_CMD = 0x0 := by decide
@[simp] theorem storedMask_TAB_SEL : storedMask .TAB_SEL = 0x1f := by decide
@[simp] theorem storedMask_TRACE_VIEW : storedMask .TRACE_VIEW = 0x1f := by decide
@[simp] theorem storedMask_SNS_GAIN : storedMask .SNS_GAIN = 0xffffffff := by decide
@[simp] theorem storedMask_SNS_OFS : storedMask .SNS_OFS = 0x3fff := by decide
@[simp] theorem storedMask_PAIR_CTRL : storedMask .PAIR_CTRL = 0xf12 := by decide
@[simp] theorem storedMask_PAIR_PERIOD : storedMask .PAIR_PERIOD = 0x0 := by decide
@[simp] theorem storedMask_PAIR_DUTY : storedMask .PAIR_DUTY = 0x0 := by decide
@[simp] theorem storedMask_PAIR_PHASE : storedMask .PAIR_PHASE = 0x0 := by decide
@[simp] theorem storedMask_PAIR_DT : storedMask .PAIR_DT = 0x7ff03ff := by decide
@[simp] theorem storedMask_PAIR_TRIP : storedMask .PAIR_TRIP = 0xffffffff := by decide
@[simp] theorem storedMask_PAIR_STAT : storedMask .PAIR_STAT = 0x0 := by decide
@[simp] theorem storedMask_PL_MASK0 : storedMask .PL_MASK0 = 0xffffffff := by decide
@[simp] theorem storedMask_PL_MASK1 : storedMask .PL_MASK1 = 0xffff := by decide
@[simp] theorem storedMask_PL_CMD : storedMask .PL_CMD = 0x0 := by decide
@[simp] theorem storedMask_PL_TRIP_CFG : storedMask .PL_TRIP_CFG = 0xffffffff := by decide
@[simp] theorem storedMask_PL_TRIP_POL : storedMask .PL_TRIP_POL = 0xff := by decide
@[simp] theorem storedMask_PL_TRIP_STAT : storedMask .PL_TRIP_STAT = 0x0 := by decide
@[simp] theorem storedMask_PL_CAL : storedMask .PL_CAL = 0x0 := by decide
@[simp] theorem storedMask_WALE_CTRL : storedMask .WALE_CTRL = 0x2 := by decide
@[simp] theorem storedMask_WALE_STAT : storedMask .WALE_STAT = 0x0 := by decide
@[simp] theorem storedMask_BASKET_ID : storedMask .BASKET_ID = 0xffffffff := by decide
@[simp] theorem storedMask_ROUTE : storedMask .ROUTE = 0x0 := by decide
@[simp] theorem storedMask_ROUTE_CMD : storedMask .ROUTE_CMD = 0x0 := by decide
@[simp] theorem storedMask_PIN_SER_LO : storedMask .PIN_SER_LO = 0xffffffff := by decide
@[simp] theorem storedMask_PIN_SER_HI : storedMask .PIN_SER_HI = 0xffffffff := by decide
@[simp] theorem storedMask_PIN_ADDR : storedMask .PIN_ADDR = 0x8000003f := by decide
@[simp] theorem storedMask_PORT_CTRL : storedMask .PORT_CTRL = 0xffff0001 := by decide
@[simp] theorem storedMask_EP_CFG : storedMask .EP_CFG = 0xff3f0713 := by decide
@[simp] theorem storedMask_EP_PLAY : storedMask .EP_PLAY = 0x800fffff := by decide
@[simp] theorem storedMask_EP_CTRL : storedMask .EP_CTRL = 0x0 := by decide
@[simp] theorem storedMask_GRT_STAT : storedMask .GRT_STAT = 0x0 := by decide
@[simp] theorem storedMask_CANE_CTRL : storedMask .CANE_CTRL = 0x100ff := by decide
@[simp] theorem storedMask_RST_CTRL : storedMask .RST_CTRL = 0x0 := by decide
@[simp] theorem storedMask_UPD_CTRL : storedMask .UPD_CTRL = 0x0 := by decide
@[simp] theorem storedMask_UPD_SIZE : storedMask .UPD_SIZE = 0xffffffff := by decide
@[simp] theorem storedMask_TEL_CFG : storedMask .TEL_CFG = 0xff003f3f := by decide
@[simp] theorem storedMask_TEL_VMAX : storedMask .TEL_VMAX = 0xffffffff := by decide
@[simp] theorem storedMask_TEL_IMAX : storedMask .TEL_IMAX = 0xffffffff := by decide
@[simp] theorem storedMask_TEL_STAT : storedMask .TEL_STAT = 0x0 := by decide
@[simp] theorem storedMask_SKN_CTRL : storedMask .SKN_CTRL = 0xffff0000 := by decide
@[simp] theorem storedMask_SKN_STAT : storedMask .SKN_STAT = 0x0 := by decide
@[simp] theorem storedMask_SKN_RD : storedMask .SKN_RD = 0xffffffff := by decide
@[simp] theorem storedMask_TLY_ACK : storedMask .TLY_ACK = 0x0 := by decide
@[simp] theorem storedMask_TLY_RD : storedMask .TLY_RD = 0xffffffff := by decide
@[simp] theorem storedMask_WT_SET_LO : storedMask .WT_SET_LO = 0xffffffff := by decide
@[simp] theorem storedMask_WT_SET_HI : storedMask .WT_SET_HI = 0xffffffff := by decide
@[simp] theorem storedMask_WT_CTRL : storedMask .WT_CTRL = 0x0 := by decide
@[simp] theorem storedMask_TLY_SEAL : storedMask .TLY_SEAL = 0x0 := by decide
@[simp] theorem storedMask_LSH_CTRL : storedMask .LSH_CTRL = 0x0 := by decide
@[simp] theorem storedMask_LSH_INJ : storedMask .LSH_INJ = 0x30ffffff := by decide
@[simp] theorem storedMask_LSH_SRC_CFG : storedMask .LSH_SRC_CFG = 0x0 := by decide
@[simp] theorem storedMask_LSH_SRC_STAT : storedMask .LSH_SRC_STAT = 0x0 := by decide
@[simp] theorem storedMask_THM_CTRL : storedMask .THM_CTRL = 0x713f := by decide
@[simp] theorem storedMask_THM_THR : storedMask .THM_THR = 0xffff000f := by decide
@[simp] theorem storedMask_PWR_CTRL : storedMask .PWR_CTRL = 0x0 := by decide
@[simp] theorem storedMask_WAKE_CFG : storedMask .WAKE_CFG = 0xffff0005 := by decide
@[simp] theorem storedMask_LID_CTRL : storedMask .LID_CTRL = 0x0 := by decide
@[simp] theorem storedMask_LID_CFG : storedMask .LID_CFG = 0xff := by decide
@[simp] theorem storedMask_LID_PW : storedMask .LID_PW = 0x0 := by decide

@[simp] theorem writable_CONV_CFG : writable .CONV_CFG = true := by decide
@[simp] theorem writable_CONV_STAT : writable .CONV_STAT = true := by decide
@[simp] theorem writable_ADC_OVR_COUNT : writable .ADC_OVR_COUNT = false := by decide
@[simp] theorem writable_ADC_PEAK : writable .ADC_PEAK = false := by decide
@[simp] theorem writable_RDL_CFG : writable .RDL_CFG = true := by decide
@[simp] theorem writable_NCO_FREQ_LO : writable .NCO_FREQ_LO = true := by decide
@[simp] theorem writable_NCO_FREQ_HI : writable .NCO_FREQ_HI = true := by decide
@[simp] theorem writable_NCO_PHASE : writable .NCO_PHASE = true := by decide
@[simp] theorem writable_NCO_CTRL : writable .NCO_CTRL = true := by decide
@[simp] theorem writable_NCO_ACT_LO : writable .NCO_ACT_LO = false := by decide
@[simp] theorem writable_NCO_ACT_HI : writable .NCO_ACT_HI = false := by decide
@[simp] theorem writable_DELAY_CFG : writable .DELAY_CFG = true := by decide
@[simp] theorem writable_BANK_STAT : writable .BANK_STAT = true := by decide
@[simp] theorem writable_SWAP_REQ : writable .SWAP_REQ = true := by decide
@[simp] theorem writable_SNAP_CFG : writable .SNAP_CFG = true := by decide
@[simp] theorem writable_RDL_STAT : writable .RDL_STAT = true := by decide
@[simp] theorem writable_RDL_SYNC : writable .RDL_SYNC = true := by decide
@[simp] theorem writable_RDL_SYNC_TIME : writable .RDL_SYNC_TIME = true := by decide
@[simp] theorem writable_RDL_SYNC_STAT : writable .RDL_SYNC_STAT = true := by decide
@[simp] theorem writable_RDL_GROUP_SWAP : writable .RDL_GROUP_SWAP = true := by decide
@[simp] theorem writable_STR_CTRL : writable .STR_CTRL = true := by decide
@[simp] theorem writable_STR_STAT : writable .STR_STAT = false := by decide
@[simp] theorem writable_STR_PLACE : writable .STR_PLACE = true := by decide
@[simp] theorem writable_STR_LAT : writable .STR_LAT = false := by decide
@[simp] theorem writable_GAIN_CFG : writable .GAIN_CFG = true := by decide
@[simp] theorem writable_GAIN_STAT : writable .GAIN_STAT = false := by decide
@[simp] theorem writable_ALC_CFG : writable .ALC_CFG = true := by decide
@[simp] theorem writable_ALC_STAT : writable .ALC_STAT = false := by decide
@[simp] theorem writable_METER_CFG : writable .METER_CFG = true := by decide
@[simp] theorem writable_METER_IN : writable .METER_IN = false := by decide
@[simp] theorem writable_METER_OUT : writable .METER_OUT = false := by decide
@[simp] theorem writable_METER_CREST : writable .METER_CREST = false := by decide
@[simp] theorem writable_METER_STAT : writable .METER_STAT = false := by decide
@[simp] theorem writable_PAR_STAT : writable .PAR_STAT = false := by decide
@[simp] theorem writable_STR_GROUP : writable .STR_GROUP = true := by decide
@[simp] theorem writable_LIM_LEVEL : writable .LIM_LEVEL = false := by decide
@[simp] theorem writable_LIM_RED : writable .LIM_RED = false := by decide
@[simp] theorem writable_LIM_COUNT : writable .LIM_COUNT = false := by decide
@[simp] theorem writable_CNC_CTRL : writable .CNC_CTRL = true := by decide
@[simp] theorem writable_CNC_ADAPT : writable .CNC_ADAPT = true := by decide
@[simp] theorem writable_SOUND_CFG : writable .SOUND_CFG = true := by decide
@[simp] theorem writable_SOUND_STAT : writable .SOUND_STAT = true := by decide
@[simp] theorem writable_PLACE_CFG : writable .PLACE_CFG = true := by decide
@[simp] theorem writable_PLACE_STAT : writable .PLACE_STAT = false := by decide
@[simp] theorem writable_MARGIN_CFG : writable .MARGIN_CFG = true := by decide
@[simp] theorem writable_LOOP_STAT : writable .LOOP_STAT = false := by decide
@[simp] theorem writable_ISO_STAT : writable .ISO_STAT = false := by decide
@[simp] theorem writable_DEPTH_STAT : writable .DEPTH_STAT = false := by decide
@[simp] theorem writable_CAP_STAT : writable .CAP_STAT = false := by decide
@[simp] theorem writable_PROF_SEL : writable .PROF_SEL = true := by decide
@[simp] theorem writable_TAP : writable .TAP = true := by decide
@[simp] theorem writable_COEF_RE : writable .COEF_RE = true := by decide
@[simp] theorem writable_COEF_IM : writable .COEF_IM = true := by decide
@[simp] theorem writable_PROF_WIN : writable .PROF_WIN = false := by decide
@[simp] theorem writable_RX_CAL : writable .RX_CAL = true := by decide
@[simp] theorem writable_GRD_CFG : writable .GRD_CFG = true := by decide
@[simp] theorem writable_GRD_RECOV : writable .GRD_RECOV = true := by decide
@[simp] theorem writable_GRD_STAT : writable .GRD_STAT = true := by decide
@[simp] theorem writable_GRD_COUNT : writable .GRD_COUNT = false := by decide
@[simp] theorem writable_GRD_MON : writable .GRD_MON = false := by decide
@[simp] theorem writable_UG_CFG : writable .UG_CFG = true := by decide
@[simp] theorem writable_UG_STAT : writable .UG_STAT = false := by decide
@[simp] theorem writable_BO_CFG : writable .BO_CFG = true := by decide
@[simp] theorem writable_BO_STAT : writable .BO_STAT = false := by decide
@[simp] theorem writable_PROT_STAT : writable .PROT_STAT = false := by decide
@[simp] theorem writable_PRES_CFG : writable .PRES_CFG = true := by decide
@[simp] theorem writable_PRES_STAT : writable .PRES_STAT = false := by decide
@[simp] theorem writable_PRES_ID : writable .PRES_ID = true := by decide
@[simp] theorem writable_TDD_CFG : writable .TDD_CFG = true := by decide
@[simp] theorem writable_TDD_SLOTS : writable .TDD_SLOTS = true := by decide
@[simp] theorem writable_TDD_SYNC : writable .TDD_SYNC = true := by decide
@[simp] theorem writable_TDD_ADV : writable .TDD_ADV = true := by decide
@[simp] theorem writable_TDD_STAT : writable .TDD_STAT = true := by decide
@[simp] theorem writable_DUTY_STAT : writable .DUTY_STAT = false := by decide
@[simp] theorem writable_LEAN_CFG : writable .LEAN_CFG = true := by decide
@[simp] theorem writable_LEAN_MASK : writable .LEAN_MASK = true := by decide
@[simp] theorem writable_REG_EDIT : writable .REG_EDIT = true := by decide
@[simp] theorem writable_REG_SEQ : writable .REG_SEQ = false := by decide
@[simp] theorem writable_REG_STAT : writable .REG_STAT = false := by decide
@[simp] theorem writable_PRG_CMD : writable .PRG_CMD = true := by decide
@[simp] theorem writable_PRG_MASK : writable .PRG_MASK = true := by decide
@[simp] theorem writable_PRG_RESULT : writable .PRG_RESULT = false := by decide
@[simp] theorem writable_PRG_USE : writable .PRG_USE = false := by decide
@[simp] theorem writable_PRG_WEAVE : writable .PRG_WEAVE = false := by decide
@[simp] theorem writable_PRG_SLOT : writable .PRG_SLOT = false := by decide
@[simp] theorem writable_PRG_DIG : writable .PRG_DIG = false := by decide
@[simp] theorem writable_LIB_DIG : writable .LIB_DIG = false := by decide
@[simp] theorem writable_PRG_STAT : writable .PRG_STAT = false := by decide
@[simp] theorem writable_PRG_FLAGS : writable .PRG_FLAGS = true := by decide
@[simp] theorem writable_PRG_PCTRL : writable .PRG_PCTRL = true := by decide
@[simp] theorem writable_PRG_PARAM : writable .PRG_PARAM = true := by decide
@[simp] theorem writable_PRC_CTRL : writable .PRC_CTRL = true := by decide
@[simp] theorem writable_PRC_STAT : writable .PRC_STAT = false := by decide
@[simp] theorem writable_PRC_COUNT : writable .PRC_COUNT = false := by decide
@[simp] theorem writable_TUNE_CFG : writable .TUNE_CFG = true := by decide
@[simp] theorem writable_TUNE_STAT : writable .TUNE_STAT = false := by decide
@[simp] theorem writable_TUNE_SEQ : writable .TUNE_SEQ = true := by decide
@[simp] theorem writable_DIV_CFG : writable .DIV_CFG = true := by decide
@[simp] theorem writable_DIV_STAT : writable .DIV_STAT = false := by decide
@[simp] theorem writable_SCAN_STAT : writable .SCAN_STAT = true := by decide
@[simp] theorem writable_SCAN_CAL : writable .SCAN_CAL = false := by decide
@[simp] theorem writable_SCAN_REQ : writable .SCAN_REQ = true := by decide
@[simp] theorem writable_SCAN_DWELL : writable .SCAN_DWELL = true := by decide
@[simp] theorem writable_SCAN_RES : writable .SCAN_RES = false := by decide
@[simp] theorem writable_SCAN_CELL : writable .SCAN_CELL = false := by decide
@[simp] theorem writable_RFFE_CFG : writable .RFFE_CFG = true := by decide
@[simp] theorem writable_RFFE_CMD : writable .RFFE_CMD = true := by decide
@[simp] theorem writable_RFFE_DATA : writable .RFFE_DATA = true := by decide
@[simp] theorem writable_RFFE_STAT : writable .RFFE_STAT = true := by decide
@[simp] theorem writable_COEX_CFG : writable .COEX_CFG = true := by decide
@[simp] theorem writable_COEX_PORTS : writable .COEX_PORTS = true := by decide
@[simp] theorem writable_COEX_STAT : writable .COEX_STAT = false := by decide
@[simp] theorem writable_COEX_GRANTS : writable .COEX_GRANTS = false := by decide
@[simp] theorem writable_COIL_CTRL : writable .COIL_CTRL = true := by decide
@[simp] theorem writable_COIL_STAT : writable .COIL_STAT = false := by decide
@[simp] theorem writable_COIL_CFG : writable .COIL_CFG = true := by decide
@[simp] theorem writable_COIL_SENSE : writable .COIL_SENSE = true := by decide
@[simp] theorem writable_SP_MIN : writable .SP_MIN = true := by decide
@[simp] theorem writable_SP_MAX : writable .SP_MAX = true := by decide
@[simp] theorem writable_SLEW_UP : writable .SLEW_UP = true := by decide
@[simp] theorem writable_SLEW_DN : writable .SLEW_DN = true := by decide
@[simp] theorem writable_FIXED_SP : writable .FIXED_SP = true := by decide
@[simp] theorem writable_SP_HOST : writable .SP_HOST = true := by decide
@[simp] theorem writable_BANK_HYST : writable .BANK_HYST = true := by decide
@[simp] theorem writable_DUTY_LIM : writable .DUTY_LIM = true := by decide
@[simp] theorem writable_NOTCH_B0 : writable .NOTCH_B0 = true := by decide
@[simp] theorem writable_NOTCH_B1 : writable .NOTCH_B1 = true := by decide
@[simp] theorem writable_NOTCH_B2 : writable .NOTCH_B2 = true := by decide
@[simp] theorem writable_NOTCH_A1 : writable .NOTCH_A1 = true := by decide
@[simp] theorem writable_NOTCH_A2 : writable .NOTCH_A2 = true := by decide
@[simp] theorem writable_PLAUS_CFG : writable .PLAUS_CFG = true := by decide
@[simp] theorem writable_PLAUS_MG : writable .PLAUS_MG = true := by decide
@[simp] theorem writable_PLAUS_MO : writable .PLAUS_MO = true := by decide
@[simp] theorem writable_PLAUS_LIM : writable .PLAUS_LIM = true := by decide
@[simp] theorem writable_COIL_FLAGS : writable .COIL_FLAGS = true := by decide
@[simp] theorem writable_MON_Y : writable .MON_Y = false := by decide
@[simp] theorem writable_MON_SP : writable .MON_SP = false := by decide
@[simp] theorem writable_MON_TRIM : writable .MON_TRIM = false := by decide
@[simp] theorem writable_MON_LA : writable .MON_LA = false := by decide
@[simp] theorem writable_MON_RES : writable .MON_RES = false := by decide
@[simp] theorem writable_MON_DUTY : writable .MON_DUTY = false := by decide
@[simp] theorem writable_TRACE_CFG : writable .TRACE_CFG = true := by decide
@[simp] theorem writable_TRACE_STAT : writable .TRACE_STAT = false := by decide
@[simp] theorem writable_COIL_PARAM : writable .COIL_PARAM = true := by decide
@[simp] theorem writable_COIL_PCTRL : writable .COIL_PCTRL = true := by decide
@[simp] theorem writable_COIL_IMG : writable .COIL_IMG = false := by decide
@[simp] theorem writable_BANK_EDGE : writable .BANK_EDGE = true := by decide
@[simp] theorem writable_BANK_BAND : writable .BANK_BAND = true := by decide
@[simp] theorem writable_TRIM_MIN : writable .TRIM_MIN = true := by decide
@[simp] theorem writable_TRIM_MAX : writable .TRIM_MAX = true := by decide
@[simp] theorem writable_BANK_DUTY : writable .BANK_DUTY = true := by decide
@[simp] theorem writable_BANK_KI : writable .BANK_KI = true := by decide
@[simp] theorem writable_COIL_CMD : writable .COIL_CMD = true := by decide
@[simp] theorem writable_COIL_RESULT : writable .COIL_RESULT = false := by decide
@[simp] theorem writable_COIL_USE : writable .COIL_USE = false := by decide
@[simp] theorem writable_CORE_LOAD : writable .CORE_LOAD = false := by decide
@[simp] theorem writable_TAB_SEL : writable .TAB_SEL = true := by decide
@[simp] theorem writable_TRACE_VIEW : writable .TRACE_VIEW = true := by decide
@[simp] theorem writable_SNS_GAIN : writable .SNS_GAIN = true := by decide
@[simp] theorem writable_SNS_OFS : writable .SNS_OFS = true := by decide
@[simp] theorem writable_PAIR_CTRL : writable .PAIR_CTRL = true := by decide
@[simp] theorem writable_PAIR_PERIOD : writable .PAIR_PERIOD = true := by decide
@[simp] theorem writable_PAIR_DUTY : writable .PAIR_DUTY = true := by decide
@[simp] theorem writable_PAIR_PHASE : writable .PAIR_PHASE = true := by decide
@[simp] theorem writable_PAIR_DT : writable .PAIR_DT = true := by decide
@[simp] theorem writable_PAIR_TRIP : writable .PAIR_TRIP = true := by decide
@[simp] theorem writable_PAIR_STAT : writable .PAIR_STAT = true := by decide
@[simp] theorem writable_PAIR_EVT : writable .PAIR_EVT = false := by decide
@[simp] theorem writable_PL_MASK0 : writable .PL_MASK0 = true := by decide
@[simp] theorem writable_PL_MASK1 : writable .PL_MASK1 = true := by decide
@[simp] theorem writable_PL_CMD : writable .PL_CMD = true := by decide
@[simp] theorem writable_PL_TRIP_CFG : writable .PL_TRIP_CFG = true := by decide
@[simp] theorem writable_PL_TRIP_POL : writable .PL_TRIP_POL = true := by decide
@[simp] theorem writable_PL_TRIP_STAT : writable .PL_TRIP_STAT = true := by decide
@[simp] theorem writable_PL_CAL : writable .PL_CAL = true := by decide
@[simp] theorem writable_WALE_CTRL : writable .WALE_CTRL = true := by decide
@[simp] theorem writable_WALE_STAT : writable .WALE_STAT = true := by decide
@[simp] theorem writable_BASKET_ID : writable .BASKET_ID = true := by decide
@[simp] theorem writable_FT_LO : writable .FT_LO = false := by decide
@[simp] theorem writable_FT_HI : writable .FT_HI = false := by decide
@[simp] theorem writable_TIME_STAT : writable .TIME_STAT = false := by decide
@[simp] theorem writable_ROUTE : writable .ROUTE = true := by decide
@[simp] theorem writable_ROUTE_CMD : writable .ROUTE_CMD = true := by decide
@[simp] theorem writable_PIN_SER_LO : writable .PIN_SER_LO = true := by decide
@[simp] theorem writable_PIN_SER_HI : writable .PIN_SER_HI = true := by decide
@[simp] theorem writable_PIN_ADDR : writable .PIN_ADDR = true := by decide
@[simp] theorem writable_PORT_CTRL : writable .PORT_CTRL = true := by decide
@[simp] theorem writable_PORT_STAT : writable .PORT_STAT = false := by decide
@[simp] theorem writable_PORT_DELAY : writable .PORT_DELAY = false := by decide
@[simp] theorem writable_PORT_ERR : writable .PORT_ERR = false := by decide
@[simp] theorem writable_PORT_EVT : writable .PORT_EVT = false := by decide
@[simp] theorem writable_PEER_SER_LO : writable .PEER_SER_LO = false := by decide
@[simp] theorem writable_PEER_SER_HI : writable .PEER_SER_HI = false := by decide
@[simp] theorem writable_EP_CFG : writable .EP_CFG = true := by decide
@[simp] theorem writable_EP_PLAY : writable .EP_PLAY = true := by decide
@[simp] theorem writable_EP_CTRL : writable .EP_CTRL = true := by decide
@[simp] theorem writable_EP_MON : writable .EP_MON = false := by decide
@[simp] theorem writable_GRT_STAT : writable .GRT_STAT = true := by decide
@[simp] theorem writable_GRT_CNT0 : writable .GRT_CNT0 = false := by decide
@[simp] theorem writable_GRT_CNT1 : writable .GRT_CNT1 = false := by decide
@[simp] theorem writable_CANE_CTRL : writable .CANE_CTRL = true := by decide
@[simp] theorem writable_CANE_STAT : writable .CANE_STAT = false := by decide
@[simp] theorem writable_CANE_TAGS : writable .CANE_TAGS = false := by decide
@[simp] theorem writable_CANE_ERR : writable .CANE_ERR = false := by decide
@[simp] theorem writable_CANE_PROT : writable .CANE_PROT = false := by decide
@[simp] theorem writable_CANE_EVT : writable .CANE_EVT = false := by decide
@[simp] theorem writable_CANE_LINK : writable .CANE_LINK = false := by decide
@[simp] theorem writable_HDL_STAT : writable .HDL_STAT = false := by decide
@[simp] theorem writable_CFG_FIRST : writable .CFG_FIRST = false := by decide
@[simp] theorem writable_RST_CTRL : writable .RST_CTRL = true := by decide
@[simp] theorem writable_UPD_CTRL : writable .UPD_CTRL = true := by decide
@[simp] theorem writable_UPD_STAT : writable .UPD_STAT = false := by decide
@[simp] theorem writable_UPD_SIZE : writable .UPD_SIZE = true := by decide
@[simp] theorem writable_UPD_DIG : writable .UPD_DIG = false := by decide
@[simp] theorem writable_TEL_CFG : writable .TEL_CFG = true := by decide
@[simp] theorem writable_TEL_VMAX : writable .TEL_VMAX = true := by decide
@[simp] theorem writable_TEL_IMAX : writable .TEL_IMAX = true := by decide
@[simp] theorem writable_TEL_V : writable .TEL_V = false := by decide
@[simp] theorem writable_TEL_I : writable .TEL_I = false := by decide
@[simp] theorem writable_TEL_P : writable .TEL_P = false := by decide
@[simp] theorem writable_TEL_VMIN_SEEN : writable .TEL_VMIN_SEEN = false := by decide
@[simp] theorem writable_TEL_VMAX_SEEN : writable .TEL_VMAX_SEEN = false := by decide
@[simp] theorem writable_TEL_STAT : writable .TEL_STAT = true := by decide
@[simp] theorem writable_ID_PART : writable .ID_PART = false := by decide
@[simp] theorem writable_ID_SER_LO : writable .ID_SER_LO = false := by decide
@[simp] theorem writable_ID_SER_HI : writable .ID_SER_HI = false := by decide
@[simp] theorem writable_VER_HUB : writable .VER_HUB = false := by decide
@[simp] theorem writable_VER_MCODE : writable .VER_MCODE = false := by decide
@[simp] theorem writable_VER_WITHY : writable .VER_WITHY = false := by decide
@[simp] theorem writable_BOOT_STAT : writable .BOOT_STAT = false := by decide
@[simp] theorem writable_SKN_CTRL : writable .SKN_CTRL = true := by decide
@[simp] theorem writable_SKN_STAT : writable .SKN_STAT = true := by decide
@[simp] theorem writable_SKN_SEQ : writable .SKN_SEQ = false := by decide
@[simp] theorem writable_SKN_FIRST : writable .SKN_FIRST = false := by decide
@[simp] theorem writable_SKN_RD : writable .SKN_RD = true := by decide
@[simp] theorem writable_SKN_LOST : writable .SKN_LOST = false := by decide
@[simp] theorem writable_SKN_WIN : writable .SKN_WIN = false := by decide
@[simp] theorem writable_TLY_ACK : writable .TLY_ACK = true := by decide
@[simp] theorem writable_TLY_NEXT : writable .TLY_NEXT = false := by decide
@[simp] theorem writable_TLY_RD : writable .TLY_RD = true := by decide
@[simp] theorem writable_TLY_STAT : writable .TLY_STAT = false := by decide
@[simp] theorem writable_TLY_LOST : writable .TLY_LOST = false := by decide
@[simp] theorem writable_WT_LO : writable .WT_LO = false := by decide
@[simp] theorem writable_WT_SET_LO : writable .WT_SET_LO = true := by decide
@[simp] theorem writable_WT_HI : writable .WT_HI = false := by decide
@[simp] theorem writable_WT_SET_HI : writable .WT_SET_HI = true := by decide
@[simp] theorem writable_WT_CTRL : writable .WT_CTRL = true := by decide
@[simp] theorem writable_TLY_SEAL : writable .TLY_SEAL = true := by decide
@[simp] theorem writable_TLY_WIN : writable .TLY_WIN = false := by decide
@[simp] theorem writable_TLY_SEAL_WIN : writable .TLY_SEAL_WIN = false := by decide
@[simp] theorem writable_LSH_CTRL : writable .LSH_CTRL = true := by decide
@[simp] theorem writable_LSH_STAT : writable .LSH_STAT = false := by decide
@[simp] theorem writable_LSH_INJ : writable .LSH_INJ = true := by decide
@[simp] theorem writable_LSH_SUM : writable .LSH_SUM = false := by decide
@[simp] theorem writable_LSH_SRC_CFG : writable .LSH_SRC_CFG = true := by decide
@[simp] theorem writable_LSH_SRC_STAT : writable .LSH_SRC_STAT = true := by decide
@[simp] theorem writable_THM_CTRL : writable .THM_CTRL = true := by decide
@[simp] theorem writable_THM_THR : writable .THM_THR = true := by decide
@[simp] theorem writable_THM_STAT : writable .THM_STAT = false := by decide
@[simp] theorem writable_THM_DIE : writable .THM_DIE = false := by decide
@[simp] theorem writable_THM_CNT : writable .THM_CNT = false := by decide
@[simp] theorem writable_PWR_CTRL : writable .PWR_CTRL = true := by decide
@[simp] theorem writable_PWR_STAT : writable .PWR_STAT = false := by decide
@[simp] theorem writable_WAKE_CFG : writable .WAKE_CFG = true := by decide
@[simp] theorem writable_CLK_STAT : writable .CLK_STAT = false := by decide
@[simp] theorem writable_PWR_CNT : writable .PWR_CNT = false := by decide
@[simp] theorem writable_LID_CTRL : writable .LID_CTRL = true := by decide
@[simp] theorem writable_LID_STAT : writable .LID_STAT = false := by decide
@[simp] theorem writable_LID_LOCK : writable .LID_LOCK = false := by decide
@[simp] theorem writable_LID_CFG : writable .LID_CFG = true := by decide
@[simp] theorem writable_LID_PW : writable .LID_PW = true := by decide
@[simp] theorem writable_LID_EVAL : writable .LID_EVAL = false := by decide
@[simp] theorem writable_DENY_ADDR : writable .DENY_ADDR = false := by decide
@[simp] theorem writable_DENY_CNT : writable .DENY_CNT = false := by decide
@[simp] theorem writable_LID_CERT : writable .LID_CERT = false := by decide

end Sys2Proof.Machine
end

