-- ==== Sys2Proof/Laws/Access.lean ====
section
/-!
SUPPORT. Laws/Access.lean: what a register write does once every check lets it through: the register's own effect, its
completion, and a Tally record.
-/
namespace Sys2Proof.Machine
open Sys2Proof

/-! ## The effect of a register by its chapter -/

@[simp] theorem dieIx_val (k : DieIx) : (Fin.ofNat 7 k.val : Fin 7) = k := by simp
@[simp] theorem strandIx_val (i : StrandIx) : (Fin.ofNat 16 i.val : Fin 16) = i := by simp
@[simp] theorem portIx_val (p : PortIx) : (Fin.ofNat 4 p.val : Fin 4) = p := by simp
@[simp] theorem coilIx_val (c : CoilIx) : (Fin.ofNat 24 c.val : Fin 24) = c := by simp
@[simp] theorem pairIx_val (n : PairIx) : (Fin.ofNat 48 n.val : Fin 48) = n := by simp
@[simp] theorem waleIx_val (w : WaleIx) : (Fin.ofNat 8 w.val : Fin 8) = w := by simp
@[simp] theorem srcIx_val (n : SrcIx) : (Fin.ofNat 256 n.val : Fin 256) = n := by simp

/-- A register without RW fields stores nothing. -/
theorem storeRw_none {x : RegKey} {w : Word} {s : State} (h : storedMask x.reg = 0) (ht : x.reg ≠ .TAP) :
    storeRw x w s = s := by
  unfold storeRw; split
  · exact absurd ‹_› ht
  · rename_i e; rw [e] at h; exact absurd h (by decide)
  · rw [if_pos h]

/-- A register with RW fields stores their bits; COEX_PORTS has bits for the ports of fitted dies only. -/
theorem storeRw_some {x : RegKey} {w : Word} {s : State} (h : storedMask x.reg ≠ 0) (hc : x.reg ≠ .COEX_PORTS) :
    storeRw x w s = s.putReg x (w &&& BitVec.ofNat 32 (storedMask x.reg)) := by
  unfold storeRw; split
  · rename_i e; rw [e] at h; exact absurd (by decide) h
  · exact absurd ‹_› hc
  · rw [if_neg h]

theorem reenable_nil (o : Origin) (k : DieIx) (s : State) : reenable o k [] s = s := by
  unfold reenable; split <;> rfl

theorem regEffect_riddle {o : Origin} {x : RegKey} {w : Word} {s : State} (h : x.reg.chapter = .riddle) :
    regEffect o x w s = writeStrand x.reg (Fin.ofNat 7 x.i) x.j w s (storeRw x w s) := by
  have hs : startedBy x w = [] := by
    unfold startedBy; split
    · rename_i e; simp [e] at h
    · rename_i e; simp [e] at h
    · rfl
  unfold regEffect
  simp only [h, hs, List.filter_nil, reenable_nil]
  split
  · rename_i e; rw [← e]
  · rfl

theorem regEffect_strand {o : Origin} {x : RegKey} {w : Word} {s : State} (h : x.reg.chapter = .strand)
    (hs : startedBy x w = []) : regEffect o x w s = writeStrand x.reg (Fin.ofNat 7 x.i) x.j w s (storeRw x w s) := by
  unfold regEffect
  simp only [h, hs, List.filter_nil, reenable_nil]
  split
  · rename_i e; rw [← e]
  · rfl

theorem regEffect_canc {o : Origin} {x : RegKey} {w : Word} {s : State} (h : x.reg.chapter = .canc) :
    regEffect o x w s = (.ok, writeCanc x.reg (Fin.ofNat 7 x.i) x.j x.l w (storeRw x w s)) := by
  unfold regEffect; simp only [h]

theorem regEffect_prot {o : Origin} {x : RegKey} {w : Word} {s : State} (h : x.reg.chapter = .prot) :
    regEffect o x w s = writeProt x.reg (Fin.ofNat 7 x.i) x.j w s (storeRw x w s) := by
  unfold regEffect; simp only [h]

theorem regEffect_prog {o : Origin} {x : RegKey} {w : Word} {s : State}
    (h : x.reg.chapter = .prog ∨ x.reg.chapter = .radio) :
    regEffect o x w s = writeProg x.reg o (Fin.ofNat 7 x.i) x.j w (storeRw x w s) := by
  unfold regEffect; rcases h with h | h <;> simp only [h]

theorem regEffect_coil {o : Origin} {x : RegKey} {w : Word} {s : State} (h : x.reg.chapter = .coil) :
    regEffect o x w s = writeCoil x.reg o x.i w s (storeRw x w s) := by
  unfold regEffect; simp only [h]

theorem regEffect_plait {o : Origin} {x : RegKey} {w : Word} {s : State} (h : x.reg.chapter = .plait) :
    regEffect o x w s = writePlait x.reg x.i w s (storeRw x w s) := by
  unfold regEffect; simp only [h]

theorem regEffect_wale {o : Origin} {x : RegKey} {w : Word} {s : State} (h : x.reg.chapter = .wale) :
    regEffect o x w s = writeWale x.reg x.i w (storeRw x w s) := by
  unfold regEffect; simp only [h]

theorem regEffect_hub {o : Origin} {x : RegKey} {w : Word} {s : State} (h : x.reg.chapter = .link ∨ x.reg.chapter = .handle ∨
    x.reg.chapter = .log ∨ x.reg.chapter = .lash ∨ x.reg.chapter = .guard) :
    regEffect o x w s = writeHub x.reg o x.i w s (storeRw x w s) := by
  unfold regEffect; rcases h with h | h | h | h | h <;> simp only [h]

/-! ## An admitted write -/

/-- The state after an admitted write, before the report of Lean. -/
theorem writeAt_admitted {o : Origin} {x : RegKey} {w : Word} {s : State} (h : Admits o x w s) (hw : writable x.reg = true) :
    (writeAt o 4 (BitVec.ofNat 32 (keyAddr x)) w s).1 = (regEffect o x w s).1 ∧
      LogOnly (regEffect o x w s).2 (writeAt o 4 (BitVec.ofNat 32 (keyAddr x)) w s).2 := by
  have hr : ¬(recorded (.reg x) w s = true ∧ !canReserve s) := by
    rintro ⟨a, b⟩; simp [h.room a] at b
  unfold writeAt
  simp only [h.placed, h.origin, h.lid, h.target, Bool.not_true, Bool.false_eq_true, if_false, if_neg hr]
  unfold writeServed
  simp only [h.rule, placeWrite, hw, if_true]
  split
  · rename_i e
    exact ⟨e.1.symm, tallyPut_log ..⟩
  · exact ⟨rfl, LogOnly.refl _⟩

/-- The completion of an admitted write is that of the register's effect. -/
theorem writeReg_done {o : Origin} {x : RegKey} {w : Word} {s : State} (h : Admits o x w s) (hw : writable x.reg = true) :
    (writeReg o x w s).done = ⟨(regEffect o x w s).1, 0⟩ := by
  simp [writeReg, access, (writeAt_admitted h hw).1]

/-- The whole state after an admitted write: the register's effect, beside the record, the report of Lean and the
completion. -/
theorem writeReg_admitted {o : Origin} {x : RegKey} {w : Word} {s : State} (h : Admits o x w s) (hw : writable x.reg = true) :
    ∃ a b c l, writeReg o x w s = { (regEffect o x w s).2 with
      skein := a, tally := b, cane := c, pwr := { (regEffect o x w s).2.pwr with lean := l },
      done := ⟨(regEffect o x w s).1, 0⟩ } := by
  obtain ⟨e, a, b, c, g⟩ := writeAt_admitted h hw
  obtain ⟨a', b', c', l, g'⟩ := leanReport_log (writeAt o 4 (BitVec.ofNat 32 (keyAddr x)) w s).2
  refine ⟨a', b', c', l, ?_⟩
  simp only [writeReg, access, if_true]
  rw [g', e, g]
  rfl

/-- An admitted write whose effect completes with OK. -/
theorem writeReg_accepted {o : Origin} {x : RegKey} {w : Word} {s e : State} (h : Admits o x w s)
    (hw : writable x.reg = true) (he : regEffect o x w s = (.ok, e)) : Accepted e (writeReg o x w s) := by
  obtain ⟨a, b, c, l, g⟩ := writeReg_admitted h hw
  rw [g, he]
  refine ⟨rfl, ?_, rfl⟩
  intro p hp
  cases p <;> first | rfl | exact absurd (by decide) hp

/-- An admitted read returns the register's value and leaves what a read of it leaves. -/
theorem readAt_reads {o : Origin} {x : RegKey} {s : State} (h : Reads o x s) :
    readAt o 4 (BitVec.ofNat 32 (keyAddr x)) s = (.ok, regValue x s, afterRead x s) := by
  simp only [readAt, h.placed, h.origin, Bool.not_true, Bool.false_eq_true, if_false, h.target, placeRead, placeAfter]

/-- An admitted read as a command. -/
theorem readReg_reads {o : Origin} {x : RegKey} {s : State} (h : Reads o x s) :
    readReg o x s = (afterRead x s).finish .ok (regValue x s) := by
  simp only [readReg, access, Bool.false_eq_true, if_false, readAt_reads h]

/-! Every other part is as that effect leaves it. -/

theorem writeReg_pending {o : Origin} {x : RegKey} {w : Word} {s : State} (h : Admits o x w s) (hw : writable x.reg = true) :
    (writeReg o x w s).pending = (regEffect o x w s).2.pending := by
  simp [writeReg, access, (writeAt_admitted h hw).2.pending]
theorem writeReg_freeCtr {o : Origin} {x : RegKey} {w : Word} {s : State} (h : Admits o x w s) (hw : writable x.reg = true) :
    (writeReg o x w s).freeCtr = (regEffect o x w s).2.freeCtr := by
  simp [writeReg, access, (writeAt_admitted h hw).2.freeCtr]
theorem writeReg_fitted {o : Origin} {x : RegKey} {w : Word} {s : State} (h : Admits o x w s) (hw : writable x.reg = true) :
    (writeReg o x w s).fitted = (regEffect o x w s).2.fitted := by
  simp [writeReg, access, (writeAt_admitted h hw).2.fitted]
theorem writeReg_serial {o : Origin} {x : RegKey} {w : Word} {s : State} (h : Admits o x w s) (hw : writable x.reg = true) :
    (writeReg o x w s).serial = (regEffect o x w s).2.serial := by
  simp [writeReg, access, (writeAt_admitted h hw).2.serial]
theorem writeReg_regs {o : Origin} {x : RegKey} {w : Word} {s : State} (h : Admits o x w s) (hw : writable x.reg = true) :
    (writeReg o x w s).regs = (regEffect o x w s).2.regs := by
  simp [writeReg, access, (writeAt_admitted h hw).2.regs]
theorem writeReg_mem {o : Origin} {x : RegKey} {w : Word} {s : State} (h : Admits o x w s) (hw : writable x.reg = true) :
    (writeReg o x w s).mem = (regEffect o x w s).2.mem := by
  simp [writeReg, access, (writeAt_admitted h hw).2.mem]
theorem writeReg_time {o : Origin} {x : RegKey} {w : Word} {s : State} (h : Admits o x w s) (hw : writable x.reg = true) :
    (writeReg o x w s).time = (regEffect o x w s).2.time := by
  simp [writeReg, access, (writeAt_admitted h hw).2.time]
theorem writeReg_lash {o : Origin} {x : RegKey} {w : Word} {s : State} (h : Admits o x w s) (hw : writable x.reg = true) :
    (writeReg o x w s).lash = (regEffect o x w s).2.lash := by
  simp [writeReg, access, (writeAt_admitted h hw).2.lash]
theorem writeReg_lid {o : Origin} {x : RegKey} {w : Word} {s : State} (h : Admits o x w s) (hw : writable x.reg = true) :
    (writeReg o x w s).lid = (regEffect o x w s).2.lid := by
  simp [writeReg, access, (writeAt_admitted h hw).2.lid]
theorem writeReg_tap {o : Origin} {x : RegKey} {w : Word} {s : State} (h : Admits o x w s) (hw : writable x.reg = true) :
    (writeReg o x w s).tap = (regEffect o x w s).2.tap := by
  simp [writeReg, access, (writeAt_admitted h hw).2.tap]
theorem writeReg_dies {o : Origin} {x : RegKey} {w : Word} {s : State} (h : Admits o x w s) (hw : writable x.reg = true) :
    (writeReg o x w s).dies = (regEffect o x w s).2.dies := by
  simp [writeReg, access, (writeAt_admitted h hw).2.dies]
theorem writeReg_coils {o : Origin} {x : RegKey} {w : Word} {s : State} (h : Admits o x w s) (hw : writable x.reg = true) :
    (writeReg o x w s).coils = (regEffect o x w s).2.coils := by
  simp [writeReg, access, (writeAt_admitted h hw).2.coils]
theorem writeReg_coreQ {o : Origin} {x : RegKey} {w : Word} {s : State} (h : Admits o x w s) (hw : writable x.reg = true) :
    (writeReg o x w s).coreQ = (regEffect o x w s).2.coreQ := by
  simp [writeReg, access, (writeAt_admitted h hw).2.coreQ]
theorem writeReg_coilLdr {o : Origin} {x : RegKey} {w : Word} {s : State} (h : Admits o x w s) (hw : writable x.reg = true) :
    (writeReg o x w s).coilLdr = (regEffect o x w s).2.coilLdr := by
  simp [writeReg, access, (writeAt_admitted h hw).2.coilLdr]
theorem writeReg_sns {o : Origin} {x : RegKey} {w : Word} {s : State} (h : Admits o x w s) (hw : writable x.reg = true) :
    (writeReg o x w s).sns = (regEffect o x w s).2.sns := by
  simp [writeReg, access, (writeAt_admitted h hw).2.sns]
theorem writeReg_pairs {o : Origin} {x : RegKey} {w : Word} {s : State} (h : Admits o x w s) (hw : writable x.reg = true) :
    (writeReg o x w s).pairs = (regEffect o x w s).2.pairs := by
  simp [writeReg, access, (writeAt_admitted h hw).2.pairs]
theorem writeReg_plait {o : Origin} {x : RegKey} {w : Word} {s : State} (h : Admits o x w s) (hw : writable x.reg = true) :
    (writeReg o x w s).plait = (regEffect o x w s).2.plait := by
  simp [writeReg, access, (writeAt_admitted h hw).2.plait]
theorem writeReg_coex {o : Origin} {x : RegKey} {w : Word} {s : State} (h : Admits o x w s) (hw : writable x.reg = true) :
    (writeReg o x w s).coex = (regEffect o x w s).2.coex := by
  simp [writeReg, access, (writeAt_admitted h hw).2.coex]
theorem writeReg_wale {o : Origin} {x : RegKey} {w : Word} {s : State} (h : Admits o x w s) (hw : writable x.reg = true) :
    (writeReg o x w s).wale = (regEffect o x w s).2.wale := by
  simp [writeReg, access, (writeAt_admitted h hw).2.wale]
theorem writeReg_reg {o : Origin} {x : RegKey} {w : Word} {s : State} (h : Admits o x w s) (hw : writable x.reg = true) :
    (writeReg o x w s).reg = (regEffect o x w s).2.reg := by
  simp [writeReg, access, (writeAt_admitted h hw).2.reg]
theorem writeReg_handle {o : Origin} {x : RegKey} {w : Word} {s : State} (h : Admits o x w s) (hw : writable x.reg = true) :
    (writeReg o x w s).handle = (regEffect o x w s).2.handle := by
  simp [writeReg, access, (writeAt_admitted h hw).2.handle]
theorem writeReg_thm {o : Origin} {x : RegKey} {w : Word} {s : State} (h : Admits o x w s) (hw : writable x.reg = true) :
    (writeReg o x w s).thm = (regEffect o x w s).2.thm := by
  simp [writeReg, access, (writeAt_admitted h hw).2.thm]

end Sys2Proof.Machine
end

