-- ==== Sys2Proof/Laws/Lash.lean ====
section
/-!
SUPPORT. Laws/Lash.lean: what an activation of a Lashing source changes: the source's latch, the safe state, the logs,
and the coils and Plait pairs that the safe state stops.
-/
namespace Sys2Proof.Machine
open Sys2Proof

/-- The second state differs from the first in what drives the coils and the Plait pairs at most. -/
def DriveOnly (s t : State) : Prop := ∃ a b c, t = { s with coils := a, coreQ := b, pairs := c }

theorem DriveOnly.refl (s : State) : DriveOnly s s := ⟨_, _, _, rfl⟩

theorem DriveOnly.trans {s t u : State} (h : DriveOnly s t) (g : DriveOnly t u) : DriveOnly s u := by
  obtain ⟨a, b, c, rfl⟩ := h
  obtain ⟨a', b', c', rfl⟩ := g
  exact ⟨_, _, _, rfl⟩

theorem DriveOnly.each {α : Type} {f : α → State → State} (h : ∀ a s, DriveOnly s (f a s)) (l : List α) (s : State) :
    DriveOnly s (s.each l f) := by
  induction l generalizing s with
  | nil => exact DriveOnly.refl s
  | cons a l ih => exact (h a s).trans (ih _)

theorem pairOff_drive (n : PairIx) (s : State) : DriveOnly s (pairOff n s) := by
  unfold pairOff safeMark; split <;> exact ⟨_, _, _, rfl⟩

theorem coilHalt_drive (c : CoilIx) (s : State) : DriveOnly s (coilHalt c s) := by
  refine (DriveOnly.each (l := boundPairs c s) (fun n s => pairOff_drive n s) s).trans ?_
  exact ⟨_, _, _, rfl⟩

theorem coilHaltIf_drive (c : CoilIx) (s : State) : DriveOnly s (coilHaltIf c s) := by
  unfold coilHaltIf; split
  · exact DriveOnly.refl s
  · exact coilHalt_drive c s

theorem safeDrives_drive (s : State) : DriveOnly s (safeDrives s) := by
  unfold safeDrives
  refine DriveOnly.trans (DriveOnly.each (fun c s => ?_) _ _) (DriveOnly.each (fun n s => ?_) _ _)
  · split
    · exact DriveOnly.each (fun n s => ⟨_, _, _, rfl⟩) _ _
    · exact coilHaltIf_drive c s
  · split
    · exact DriveOnly.refl s
    · exact pairOff_drive n s

/-- The second state differs from the first in the drives, the logs and whether the safe state is in force. -/
def ReactOnly (s t : State) : Prop := ∃ a b c d e f x y,
  t = { s with coils := a, coreQ := b, pairs := c, skein := d, tally := e, cane := f,
               lash := { s.lash with safe := x, safeCause := y } }

theorem ReactOnly.refl (s : State) : ReactOnly s s := ⟨_, _, _, _, _, _, _, _, rfl⟩

theorem ReactOnly.trans {s t u : State} (h : ReactOnly s t) (g : ReactOnly t u) : ReactOnly s u := by
  obtain ⟨_, _, _, _, _, _, _, _, rfl⟩ := h
  obtain ⟨_, _, _, _, _, _, _, _, rfl⟩ := g
  exact ⟨_, _, _, _, _, _, _, _, rfl⟩

theorem LogOnly.react {s t : State} (h : LogOnly s t) : ReactOnly s t := by
  obtain ⟨_, _, _, rfl⟩ := h; exact ⟨_, _, _, _, _, _, s.lash.safe, s.lash.safeCause, rfl⟩

theorem DriveOnly.react {s t : State} (h : DriveOnly s t) : ReactOnly s t := by
  obtain ⟨_, _, _, rfl⟩ := h; exact ⟨_, _, _, _, _, _, s.lash.safe, s.lash.safeCause, rfl⟩

theorem enterSafe_react (n : SrcIx) (s : State) : ReactOnly s (enterSafe n s) := by
  unfold enterSafe; split
  · exact ReactOnly.refl s
  · refine ((safeDrives_drive s).react.trans ?_).trans (skeinEvent_log _ _ _ _ _).react
    exact ⟨_, _, _, _, _, _, _, _, rfl⟩

theorem lashReact_react (n : SrcIx) (before : Word) (was : Bool) (s : State) : ReactOnly s (lashReact n before was s) := by
  unfold lashReact
  extract_lets x safe u
  have e : ReactOnly s u := by
    show ReactOnly s (if _ then _ else _)
    split
    · exact enterSafe_react n s
    · exact ReactOnly.refl s
  split
  · exact e.trans (tallyAuto_log _ _ _ _).react
  · exact e

/-- What an activation leaves: the source latched by a real fault, its count advanced, the reaction applied. -/
theorem lashActivate_react (n : SrcIx) (unit : Nat) (s : State) :
    ReactOnly (s.modSrc n fun x => { x with latched := true, dry := false, injected := false, ended := false,
                                            count := satInc 0xFFFF x.count }) (lashActivate n unit s) := by
  unfold lashActivate
  exact (lashRecord_log _ _ _).react.trans (lashReact_react _ _ _ _)

/-! ## Every part that an activation leaves -/

theorem ReactOnly.pending {s t : State} (h : ReactOnly s t) : t.pending = s.pending := by obtain ⟨_, _, _, _, _, _, _, _, rfl⟩ := h; rfl
theorem ReactOnly.done {s t : State} (h : ReactOnly s t) : t.done = s.done := by obtain ⟨_, _, _, _, _, _, _, _, rfl⟩ := h; rfl
theorem ReactOnly.freeCtr {s t : State} (h : ReactOnly s t) : t.freeCtr = s.freeCtr := by obtain ⟨_, _, _, _, _, _, _, _, rfl⟩ := h; rfl
theorem ReactOnly.fitted {s t : State} (h : ReactOnly s t) : t.fitted = s.fitted := by obtain ⟨_, _, _, _, _, _, _, _, rfl⟩ := h; rfl
theorem ReactOnly.serial {s t : State} (h : ReactOnly s t) : t.serial = s.serial := by obtain ⟨_, _, _, _, _, _, _, _, rfl⟩ := h; rfl
theorem ReactOnly.regs {s t : State} (h : ReactOnly s t) : t.regs = s.regs := by obtain ⟨_, _, _, _, _, _, _, _, rfl⟩ := h; rfl
theorem ReactOnly.mem {s t : State} (h : ReactOnly s t) : t.mem = s.mem := by obtain ⟨_, _, _, _, _, _, _, _, rfl⟩ := h; rfl
theorem ReactOnly.time {s t : State} (h : ReactOnly s t) : t.time = s.time := by obtain ⟨_, _, _, _, _, _, _, _, rfl⟩ := h; rfl
theorem ReactOnly.lid {s t : State} (h : ReactOnly s t) : t.lid = s.lid := by obtain ⟨_, _, _, _, _, _, _, _, rfl⟩ := h; rfl
theorem ReactOnly.tap {s t : State} (h : ReactOnly s t) : t.tap = s.tap := by obtain ⟨_, _, _, _, _, _, _, _, rfl⟩ := h; rfl
theorem ReactOnly.dies {s t : State} (h : ReactOnly s t) : t.dies = s.dies := by obtain ⟨_, _, _, _, _, _, _, _, rfl⟩ := h; rfl
theorem ReactOnly.coilLdr {s t : State} (h : ReactOnly s t) : t.coilLdr = s.coilLdr := by obtain ⟨_, _, _, _, _, _, _, _, rfl⟩ := h; rfl
theorem ReactOnly.sns {s t : State} (h : ReactOnly s t) : t.sns = s.sns := by obtain ⟨_, _, _, _, _, _, _, _, rfl⟩ := h; rfl
theorem ReactOnly.plait {s t : State} (h : ReactOnly s t) : t.plait = s.plait := by obtain ⟨_, _, _, _, _, _, _, _, rfl⟩ := h; rfl
theorem ReactOnly.coex {s t : State} (h : ReactOnly s t) : t.coex = s.coex := by obtain ⟨_, _, _, _, _, _, _, _, rfl⟩ := h; rfl
theorem ReactOnly.wale {s t : State} (h : ReactOnly s t) : t.wale = s.wale := by obtain ⟨_, _, _, _, _, _, _, _, rfl⟩ := h; rfl
theorem ReactOnly.reg {s t : State} (h : ReactOnly s t) : t.reg = s.reg := by obtain ⟨_, _, _, _, _, _, _, _, rfl⟩ := h; rfl
theorem ReactOnly.handle {s t : State} (h : ReactOnly s t) : t.handle = s.handle := by obtain ⟨_, _, _, _, _, _, _, _, rfl⟩ := h; rfl
theorem ReactOnly.thm {s t : State} (h : ReactOnly s t) : t.thm = s.thm := by obtain ⟨_, _, _, _, _, _, _, _, rfl⟩ := h; rfl
theorem ReactOnly.pwr {s t : State} (h : ReactOnly s t) : t.pwr = s.pwr := by obtain ⟨_, _, _, _, _, _, _, _, rfl⟩ := h; rfl
theorem ReactOnly.srcs {s t : State} (h : ReactOnly s t) : t.lash.srcs = s.lash.srcs := by obtain ⟨_, _, _, _, _, _, _, _, rfl⟩ := h; rfl
theorem ReactOnly.inj {s t : State} (h : ReactOnly s t) : t.lash.inj = s.lash.inj := by obtain ⟨_, _, _, _, _, _, _, _, rfl⟩ := h; rfl
theorem ReactOnly.collector {s t : State} (h : ReactOnly s t) : t.lash.collector = s.lash.collector := by obtain ⟨_, _, _, _, _, _, _, _, rfl⟩ := h; rfl

@[simp] theorem lashActivate_pending (n : SrcIx) (unit : Nat) (s : State) : (lashActivate n unit s).pending = s.pending := (lashActivate_react n unit s).pending
@[simp] theorem lashActivate_done (n : SrcIx) (unit : Nat) (s : State) : (lashActivate n unit s).done = s.done := (lashActivate_react n unit s).done
@[simp] theorem lashActivate_freeCtr (n : SrcIx) (unit : Nat) (s : State) : (lashActivate n unit s).freeCtr = s.freeCtr := (lashActivate_react n unit s).freeCtr
@[simp] theorem lashActivate_fitted (n : SrcIx) (unit : Nat) (s : State) : (lashActivate n unit s).fitted = s.fitted := (lashActivate_react n unit s).fitted
@[simp] theorem lashActivate_serial (n : SrcIx) (unit : Nat) (s : State) : (lashActivate n unit s).serial = s.serial := (lashActivate_react n unit s).serial
@[simp] theorem lashActivate_regs (n : SrcIx) (unit : Nat) (s : State) : (lashActivate n unit s).regs = s.regs := (lashActivate_react n unit s).regs
@[simp] theorem lashActivate_mem (n : SrcIx) (unit : Nat) (s : State) : (lashActivate n unit s).mem = s.mem := (lashActivate_react n unit s).mem
@[simp] theorem lashActivate_time (n : SrcIx) (unit : Nat) (s : State) : (lashActivate n unit s).time = s.time := (lashActivate_react n unit s).time
@[simp] theorem lashActivate_lid (n : SrcIx) (unit : Nat) (s : State) : (lashActivate n unit s).lid = s.lid := (lashActivate_react n unit s).lid
@[simp] theorem lashActivate_tap (n : SrcIx) (unit : Nat) (s : State) : (lashActivate n unit s).tap = s.tap := (lashActivate_react n unit s).tap
@[simp] theorem lashActivate_dies (n : SrcIx) (unit : Nat) (s : State) : (lashActivate n unit s).dies = s.dies := (lashActivate_react n unit s).dies
@[simp] theorem lashActivate_coilLdr (n : SrcIx) (unit : Nat) (s : State) : (lashActivate n unit s).coilLdr = s.coilLdr := (lashActivate_react n unit s).coilLdr
@[simp] theorem lashActivate_sns (n : SrcIx) (unit : Nat) (s : State) : (lashActivate n unit s).sns = s.sns := (lashActivate_react n unit s).sns
@[simp] theorem lashActivate_plait (n : SrcIx) (unit : Nat) (s : State) : (lashActivate n unit s).plait = s.plait := (lashActivate_react n unit s).plait
@[simp] theorem lashActivate_coex (n : SrcIx) (unit : Nat) (s : State) : (lashActivate n unit s).coex = s.coex := (lashActivate_react n unit s).coex
@[simp] theorem lashActivate_wale (n : SrcIx) (unit : Nat) (s : State) : (lashActivate n unit s).wale = s.wale := (lashActivate_react n unit s).wale
@[simp] theorem lashActivate_reg (n : SrcIx) (unit : Nat) (s : State) : (lashActivate n unit s).reg = s.reg := (lashActivate_react n unit s).reg
@[simp] theorem lashActivate_handle (n : SrcIx) (unit : Nat) (s : State) : (lashActivate n unit s).handle = s.handle := (lashActivate_react n unit s).handle
@[simp] theorem lashActivate_thm (n : SrcIx) (unit : Nat) (s : State) : (lashActivate n unit s).thm = s.thm := (lashActivate_react n unit s).thm
@[simp] theorem lashActivate_pwr (n : SrcIx) (unit : Nat) (s : State) : (lashActivate n unit s).pwr = s.pwr := (lashActivate_react n unit s).pwr

@[simp] theorem raiseHold_pending (n : SrcIx) (unit : Nat) (s : State) : (raiseHold n unit s).pending = s.pending := by unfold raiseHold; split <;> simp
@[simp] theorem raiseHold_done (n : SrcIx) (unit : Nat) (s : State) : (raiseHold n unit s).done = s.done := by unfold raiseHold; split <;> simp
@[simp] theorem raiseHold_freeCtr (n : SrcIx) (unit : Nat) (s : State) : (raiseHold n unit s).freeCtr = s.freeCtr := by unfold raiseHold; split <;> simp
@[simp] theorem raiseHold_fitted (n : SrcIx) (unit : Nat) (s : State) : (raiseHold n unit s).fitted = s.fitted := by unfold raiseHold; split <;> simp
@[simp] theorem raiseHold_serial (n : SrcIx) (unit : Nat) (s : State) : (raiseHold n unit s).serial = s.serial := by unfold raiseHold; split <;> simp
@[simp] theorem raiseHold_regs (n : SrcIx) (unit : Nat) (s : State) : (raiseHold n unit s).regs = s.regs := by unfold raiseHold; split <;> simp
@[simp] theorem raiseHold_mem (n : SrcIx) (unit : Nat) (s : State) : (raiseHold n unit s).mem = s.mem := by unfold raiseHold; split <;> simp
@[simp] theorem raiseHold_time (n : SrcIx) (unit : Nat) (s : State) : (raiseHold n unit s).time = s.time := by unfold raiseHold; split <;> simp
@[simp] theorem raiseHold_lid (n : SrcIx) (unit : Nat) (s : State) : (raiseHold n unit s).lid = s.lid := by unfold raiseHold; split <;> simp
@[simp] theorem raiseHold_tap (n : SrcIx) (unit : Nat) (s : State) : (raiseHold n unit s).tap = s.tap := by unfold raiseHold; split <;> simp
@[simp] theorem raiseHold_dies (n : SrcIx) (unit : Nat) (s : State) : (raiseHold n unit s).dies = s.dies := by unfold raiseHold; split <;> simp
@[simp] theorem raiseHold_coilLdr (n : SrcIx) (unit : Nat) (s : State) : (raiseHold n unit s).coilLdr = s.coilLdr := by unfold raiseHold; split <;> simp
@[simp] theorem raiseHold_sns (n : SrcIx) (unit : Nat) (s : State) : (raiseHold n unit s).sns = s.sns := by unfold raiseHold; split <;> simp
@[simp] theorem raiseHold_plait (n : SrcIx) (unit : Nat) (s : State) : (raiseHold n unit s).plait = s.plait := by unfold raiseHold; split <;> simp
@[simp] theorem raiseHold_coex (n : SrcIx) (unit : Nat) (s : State) : (raiseHold n unit s).coex = s.coex := by unfold raiseHold; split <;> simp
@[simp] theorem raiseHold_wale (n : SrcIx) (unit : Nat) (s : State) : (raiseHold n unit s).wale = s.wale := by unfold raiseHold; split <;> simp
@[simp] theorem raiseHold_reg (n : SrcIx) (unit : Nat) (s : State) : (raiseHold n unit s).reg = s.reg := by unfold raiseHold; split <;> simp
@[simp] theorem raiseHold_handle (n : SrcIx) (unit : Nat) (s : State) : (raiseHold n unit s).handle = s.handle := by unfold raiseHold; split <;> simp
@[simp] theorem raiseHold_thm (n : SrcIx) (unit : Nat) (s : State) : (raiseHold n unit s).thm = s.thm := by unfold raiseHold; split <;> simp
@[simp] theorem raiseHold_pwr (n : SrcIx) (unit : Nat) (s : State) : (raiseHold n unit s).pwr = s.pwr := by unfold raiseHold; split <;> simp

@[simp] theorem raisePulse_pending (n : SrcIx) (unit : Nat) (s : State) : (raisePulse n unit s).pending = s.pending := by unfold raisePulse; split <;> simp
@[simp] theorem raisePulse_done (n : SrcIx) (unit : Nat) (s : State) : (raisePulse n unit s).done = s.done := by unfold raisePulse; split <;> simp
@[simp] theorem raisePulse_freeCtr (n : SrcIx) (unit : Nat) (s : State) : (raisePulse n unit s).freeCtr = s.freeCtr := by unfold raisePulse; split <;> simp
@[simp] theorem raisePulse_fitted (n : SrcIx) (unit : Nat) (s : State) : (raisePulse n unit s).fitted = s.fitted := by unfold raisePulse; split <;> simp
@[simp] theorem raisePulse_serial (n : SrcIx) (unit : Nat) (s : State) : (raisePulse n unit s).serial = s.serial := by unfold raisePulse; split <;> simp
@[simp] theorem raisePulse_regs (n : SrcIx) (unit : Nat) (s : State) : (raisePulse n unit s).regs = s.regs := by unfold raisePulse; split <;> simp
@[simp] theorem raisePulse_mem (n : SrcIx) (unit : Nat) (s : State) : (raisePulse n unit s).mem = s.mem := by unfold raisePulse; split <;> simp
@[simp] theorem raisePulse_time (n : SrcIx) (unit : Nat) (s : State) : (raisePulse n unit s).time = s.time := by unfold raisePulse; split <;> simp
@[simp] theorem raisePulse_lid (n : SrcIx) (unit : Nat) (s : State) : (raisePulse n unit s).lid = s.lid := by unfold raisePulse; split <;> simp
@[simp] theorem raisePulse_tap (n : SrcIx) (unit : Nat) (s : State) : (raisePulse n unit s).tap = s.tap := by unfold raisePulse; split <;> simp
@[simp] theorem raisePulse_dies (n : SrcIx) (unit : Nat) (s : State) : (raisePulse n unit s).dies = s.dies := by unfold raisePulse; split <;> simp
@[simp] theorem raisePulse_coilLdr (n : SrcIx) (unit : Nat) (s : State) : (raisePulse n unit s).coilLdr = s.coilLdr := by unfold raisePulse; split <;> simp
@[simp] theorem raisePulse_sns (n : SrcIx) (unit : Nat) (s : State) : (raisePulse n unit s).sns = s.sns := by unfold raisePulse; split <;> simp
@[simp] theorem raisePulse_plait (n : SrcIx) (unit : Nat) (s : State) : (raisePulse n unit s).plait = s.plait := by unfold raisePulse; split <;> simp
@[simp] theorem raisePulse_coex (n : SrcIx) (unit : Nat) (s : State) : (raisePulse n unit s).coex = s.coex := by unfold raisePulse; split <;> simp
@[simp] theorem raisePulse_wale (n : SrcIx) (unit : Nat) (s : State) : (raisePulse n unit s).wale = s.wale := by unfold raisePulse; split <;> simp
@[simp] theorem raisePulse_reg (n : SrcIx) (unit : Nat) (s : State) : (raisePulse n unit s).reg = s.reg := by unfold raisePulse; split <;> simp
@[simp] theorem raisePulse_handle (n : SrcIx) (unit : Nat) (s : State) : (raisePulse n unit s).handle = s.handle := by unfold raisePulse; split <;> simp
@[simp] theorem raisePulse_thm (n : SrcIx) (unit : Nat) (s : State) : (raisePulse n unit s).thm = s.thm := by unfold raisePulse; split <;> simp
@[simp] theorem raisePulse_pwr (n : SrcIx) (unit : Nat) (s : State) : (raisePulse n unit s).pwr = s.pwr := by unfold raisePulse; split <;> simp

/-- A source that the hub sees is latched by an assertion. -/
theorem raiseHold_latched (n : SrcIx) (unit : Nat) (s : State) (h : srcSeen n s = true) :
    ((raiseHold n unit s).lash.srcs[n]).latched = true ∧ ((raiseHold n unit s).lash.srcs[n]).active = true := by
  unfold raiseHold; rw [if_pos h, (lashActivate_react ..).srcs]
  simp [State.modSrc]

theorem raisePulse_latched (n : SrcIx) (unit : Nat) (s : State) (h : srcSeen n s = true) :
    ((raisePulse n unit s).lash.srcs[n]).latched = true := by
  unfold raisePulse; rw [if_pos h, (lashActivate_react ..).srcs]
  simp [State.modSrc]

/-- Every source but the one asserted is as it was. -/
theorem raiseHold_others (n m : SrcIx) (unit : Nat) (s : State) (h : m ≠ n) :
    (raiseHold n unit s).lash.srcs[m] = s.lash.srcs[m] := by
  have hv : ¬ n.val = m.val := fun e => h (Fin.ext e.symm)
  unfold raiseHold; split
  · simp [(lashActivate_react n unit _).srcs, State.modSrc, hv]
  · rfl

theorem raisePulse_others (n m : SrcIx) (unit : Nat) (s : State) (h : m ≠ n) :
    (raisePulse n unit s).lash.srcs[m] = s.lash.srcs[m] := by
  have hv : ¬ n.val = m.val := fun e => h (Fin.ext e.symm)
  unfold raisePulse; split
  · simp [(lashActivate_react n unit _).srcs, State.modSrc, hv]
  · rfl

end Sys2Proof.Machine
end

