-- ==== Sys2Proof/Laws/Frames.lean ====
section
/-!
SUPPORT. Laws/Frames.lean: how frames compose, and the frames of the named operations that change one part of the state.
-/
namespace Sys2Proof.Machine
open Sys2Proof

theorem KeepsBut.refl (ps : List Part) (s : State) : KeepsBut ps s s := by
  intro p _; cases p <;> rfl

theorem Part.kept_trans {p : Part} {s t u : State} (h : p.kept s t) (g : p.kept t u) : p.kept s u := by
  cases p <;> exact Eq.trans g h

theorem KeepsBut.trans {ps : List Part} {s t u : State} (h : KeepsBut ps s t) (g : KeepsBut ps t u) : KeepsBut ps s u :=
  fun p hp => Part.kept_trans (h p hp) (g p hp)

theorem KeepsBut.mono {ps qs : List Part} {s t : State} (h : KeepsBut ps s t) (hs : ∀ p ∈ ps, p ∈ qs) : KeepsBut qs s t :=
  fun p hp => h p fun hq => hp (hs p hq)

theorem KeepsBut.each {ps : List Part} {α : Type} {f : α → State → State} (h : ∀ a s, KeepsBut ps s (f a s)) (l : List α)
    (s : State) : KeepsBut ps s (s.each l f) := by
  induction l generalizing s with
  | nil => exact KeepsBut.refl ps s
  | cons a l ih => exact (h a s).trans (ih (f a s))

theorem OtherDies.refl (k : DieIx) (s : State) : OtherDies k s s := fun _ _ => rfl

theorem OtherDies.trans {k : DieIx} {s t u : State} (h : OtherDies k s t) (g : OtherDies k t u) : OtherDies k s u :=
  fun j hj => (g j hj).trans (h j hj)

theorem OtherDies.of_eq {k : DieIx} {s t : State} (h : t.dies = s.dies) : OtherDies k s t := fun _ _ => by rw [h]

theorem OtherDies.each {k : DieIx} {α : Type} {f : α → State → State} (h : ∀ a s, OtherDies k s (f a s)) (l : List α)
    (s : State) : OtherDies k s (s.each l f) := by
  induction l generalizing s with
  | nil => exact OtherDies.refl k s
  | cons a l ih => exact (h a s).trans (ih (f a s))

theorem modDie_keeps (k : DieIx) (f : Die → Die) (s : State) : KeepsBut [.dies] s (s.modDie k f) := by
  intro p hp; cases p <;> first | rfl | exact absurd (by decide) hp

theorem modDie_other (k : DieIx) (f : Die → Die) (s : State) : OtherDies k s (s.modDie k f) := by
  intro j hj
  have : ¬ k.val = j.val := fun e => hj (Fin.ext e.symm)
  simp [this]

theorem LogOnly.keeps {s t : State} (h : LogOnly s t) : KeepsBut [.skein, .tally, .cane] s t := by
  obtain ⟨a, b, c, rfl⟩ := h
  intro p hp; cases p <;> first | rfl | exact absurd (by decide) hp

theorem LogOnly.other {k : DieIx} {s t : State} (h : LogOnly s t) : OtherDies k s t := by
  obtain ⟨a, b, c, rfl⟩ := h; exact OtherDies.refl k _

theorem ReactOnly.other {k : DieIx} {s t : State} (h : ReactOnly s t) : OtherDies k s t := OtherDies.of_eq h.dies

theorem leanReport_keeps (s : State) : KeepsBut [.skein, .tally, .cane, .pwr] s (leanReport s) := by
  intro p hp
  cases p <;> first | exact absurd (by decide) hp | simp [Part.kept]

theorem leanReport_other (k : DieIx) (s : State) : OtherDies k s (leanReport s) := OtherDies.of_eq (by simp)

end Sys2Proof.Machine
end

