-- ==== Sys2Proof/Laws/Memory.lean ====
section
/-!
SUPPORT. Laws/Memory.lean: reading after writing for the memory cells and the stored register words, and that every
operation on them keeps the canonical form.
-/
namespace Sys2Proof.Machine
open Sys2Proof

/-! ## Cells -/

/-- A looser bound keeps the form. -/
theorem memWf_weaken {x : Nat} {m : List Host.Cell} (h : memWfFrom (some x) m = true) (lo : Option Nat)
    (hl : ∀ y, lo = some y → y ≤ x) : memWfFrom lo m = true := by
  cases m with
  | nil => rfl
  | cons c m =>
    simp only [memWfFrom, Bool.and_eq_true, decide_eq_true_eq] at h ⊢
    refine ⟨⟨?_, h.1.2⟩, h.2⟩
    cases lo with
    | none => rfl
    | some y => exact decide_eq_true (Nat.lt_of_le_of_lt (hl y rfl) h.1.1)

/-- Cells above a bound: none is at a key up to it. -/
theorem memGet_below {x a : Nat} {m : List Host.Cell} (h : memWfFrom (some x) m = true) (ha : a ≤ x) : memGet m a = unlisted := by
  induction m generalizing x with
  | nil => rfl
  | cons c m ih =>
    simp only [memWfFrom, Bool.and_eq_true, decide_eq_true_eq] at h
    simp only [memGet]
    rw [if_neg (by omega)]
    exact ih h.2 (by omega)

/-- Writing one cell keeps the form above any bound that lies below its key. -/
theorem memPut_wfFrom (lo : Option Nat) (m : List Host.Cell) (a : Nat) (b : Byte) (h : memWfFrom lo m = true)
    (ha : ∀ y, lo = some y → y < a) : memWfFrom lo (memPut m a b) = true := by
  induction m generalizing lo with
  | nil =>
    unfold memPut
    split
    · rfl
    · rename_i hb
      simp only [memWfFrom, Bool.and_true, Bool.and_eq_true, bne_iff_ne, ne_eq]
      refine ⟨?_, hb⟩
      cases lo with
      | none => rfl
      | some y => exact decide_eq_true (ha y rfl)
  | cons c m ih =>
    have hc := h
    simp only [memWfFrom, Bool.and_eq_true] at hc
    unfold memPut
    split
    · split
      · exact h
      · rename_i h1 hb
        simp only [memWfFrom, Bool.and_eq_true, bne_iff_ne, ne_eq, decide_eq_true_eq]
        refine ⟨⟨?_, hb⟩, ⟨h1, by simpa using hc.1.2⟩, hc.2⟩
        cases lo with
        | none => rfl
        | some y => exact decide_eq_true (ha y rfl)
    · split
      · rename_i e
        split
        · refine memWf_weaken hc.2 lo fun y hy => ?_
          subst hy
          exact Nat.le_of_lt (by simpa using hc.1.1)
        · rename_i hb
          simp only [memWfFrom, Bool.and_eq_true, bne_iff_ne, ne_eq]
          refine ⟨⟨?_, hb⟩, e ▸ hc.2⟩
          cases lo with
          | none => rfl
          | some y => exact decide_eq_true (ha y rfl)
      · rename_i h1 h2
        simp only [memWfFrom, Bool.and_eq_true]
        exact ⟨hc.1, ih _ hc.2 fun y hy => by injection hy with hy; omega⟩

/-- Writing one cell keeps the canonical form. -/
theorem memPut_wf {m : List Host.Cell} (a : Nat) (b : Byte) (h : Memory.wf m = true) : Memory.wf (memPut m a b) = true :=
  memPut_wfFrom none m a b h (by simp)

/-- Writing bytes keeps the canonical form. -/
theorem memPutList_wf {m : List Host.Cell} (a : Nat) (l : List Byte) (h : Memory.wf m = true) :
    Memory.wf (memPutList m a l) = true := by
  induction l generalizing m a with
  | nil => exact h
  | cons b l ih => exact ih _ (memPut_wf a b h)

/-- Dropping cells keeps the form. -/
theorem memFilter_wfFrom (p : Host.Cell → Bool) (lo : Option Nat) (m : List Host.Cell) (h : memWfFrom lo m = true) :
    memWfFrom lo (m.filter p) = true := by
  induction m generalizing lo with
  | nil => rfl
  | cons c m ih =>
    have hc := h
    simp only [memWfFrom, Bool.and_eq_true] at hc
    rw [List.filter_cons]
    split
    · simp only [memWfFrom, Bool.and_eq_true]
      exact ⟨hc.1, ih _ hc.2⟩
    · refine ih _ (memWf_weaken hc.2 lo fun y hy => ?_)
      subst hy
      exact Nat.le_of_lt (by simpa using hc.1.1)

/-- Dropping cells keeps the canonical form. -/
theorem memFilter_wf (p : Host.Cell → Bool) {m : List Host.Cell} (h : Memory.wf m = true) : Memory.wf (m.filter p) = true :=
  memFilter_wfFrom p none m h

/-- A cell reads as what was written to it, every other cell as before. -/
theorem memGet_memPut_from (lo : Option Nat) (m : List Host.Cell) (a x : Nat) (b : Byte) (h : memWfFrom lo m = true) :
    memGet (memPut m a b) x = if x = a then b else memGet m x := by
  induction m generalizing lo with
  | nil =>
    unfold memPut
    by_cases e : x = a
    · subst e; split <;> simp_all [memGet]
    · split <;> simp [memGet, Ne.symm e]
  | cons c m ih =>
    have hc := h
    simp only [memWfFrom, Bool.and_eq_true] at hc
    unfold memPut
    by_cases e : x = a
    · subst e
      rw [if_pos rfl]
      split
      · split
        · rename_i h1 hb
          simp only [memGet]
          rw [if_neg (by omega), hb]
          exact memGet_below hc.2 (by omega)
        · simp [memGet]
      · split
        · rename_i e2
          split
          · rename_i hb
            rw [hb]
            exact memGet_below hc.2 (by omega)
          · simp [memGet]
        · simp only [memGet]
          rw [if_neg (fun e => by simp_all), ih _ hc.2, if_pos rfl]
    · rw [if_neg e]
      split
      · split
        · rfl
        · simp [memGet, Ne.symm e]
      · split
        · rename_i e2
          split
          · simp [memGet, ← e2, Ne.symm e]
          · simp [memGet, ← e2, Ne.symm e]
        · simp only [memGet]
          rw [ih _ hc.2, if_neg e]

/-- A cell reads as what was written to it, every other cell as before. -/
theorem memGet_memPut {m : List Host.Cell} (a x : Nat) (b : Byte) (h : Memory.wf m = true) :
    memGet (memPut m a b) x = if x = a then b else memGet m x := memGet_memPut_from none m a x b h

/-- What a list of bytes leaves at a key that it does not cover. -/
theorem memGet_memPutList_out {m : List Host.Cell} (a x : Nat) (l : List Byte) (h : Memory.wf m = true)
    (hx : x < a ∨ a + l.length ≤ x) : memGet (memPutList m a l) x = memGet m x := by
  induction l generalizing m a with
  | nil => rfl
  | cons b l ih =>
    simp only [List.length_cons] at hx
    unfold memPutList
    rw [ih _ (memPut_wf a b h) (by omega), memGet_memPut a x b h, if_neg (by omega)]

/-- Bytes written read back. -/
theorem memGetList_memPutList {m : List Host.Cell} (a : Nat) (l : List Byte) (h : Memory.wf m = true) :
    memGetList (memPutList m a l) a l.length = l := by
  induction l generalizing m a with
  | nil => rfl
  | cons b l ih =>
    simp only [memPutList, List.length_cons, memGetList]
    rw [memGet_memPutList_out (a + 1) a l (memPut_wf a b h) (by omega), memGet_memPut a a b h, if_pos rfl, ih _ (memPut_wf a b h)]

/-! ## Stored register words -/

theorem Reg.rank_inj {a b : Reg} (h : a.rank = b.rank) : a = b := by
  unfold Reg.rank at h
  have := congrArg (Reg.ofNat) h
  rwa [Reg.ofNat_ctorIdx, Reg.ofNat_ctorIdx] at this

theorem RegKey.lt_irrefl (a : RegKey) : a.lt a = false := by simp [RegKey.lt]

theorem RegKey.lt_trans {a b c : RegKey} (h : a.lt b = true) (g : b.lt c = true) : a.lt c = true := by
  simp only [RegKey.lt, Bool.or_eq_true, Bool.and_eq_true, decide_eq_true_eq] at *
  omega

theorem RegKey.lt_total {a b : RegKey} (h : a.lt b = false) (hne : a ≠ b) : b.lt a = true := by
  obtain ⟨r, i, j, l⟩ := a
  obtain ⟨r', i', j', l'⟩ := b
  simp only [RegKey.lt, Bool.or_eq_true, Bool.and_eq_true, decide_eq_true_eq, Bool.or_eq_false_iff, Bool.and_eq_false_iff,
    decide_eq_false_iff_not] at *
  by_cases e : r.rank = r'.rank
  · have := Reg.rank_inj e
    subst this
    have : ¬(i = i' ∧ j = j' ∧ l = l') := fun ⟨a, b, c⟩ => hne (by subst a b c; rfl)
    omega
  · omega

theorem regWf_weaken {x : RegKey} {m : List (RegKey × Word)} (h : regWfFrom (some x) m = true) (lo : Option RegKey)
    (hl : ∀ y, lo = some y → y.lt x = true) : regWfFrom lo m = true := by
  cases m with
  | nil => rfl
  | cons c m =>
    simp only [regWfFrom, Bool.and_eq_true] at h ⊢
    refine ⟨⟨?_, h.1.2⟩, h.2⟩
    cases lo with
    | none => rfl
    | some y => exact RegKey.lt_trans (hl y rfl) h.1.1

theorem regGet_below {x k : RegKey} {m : List (RegKey × Word)} (h : regWfFrom (some x) m = true) (hk : k = x ∨ k.lt x = true) :
    regGet m k = resetWord k := by
  induction m generalizing x with
  | nil => rfl
  | cons c m ih =>
    simp only [regWfFrom, Bool.and_eq_true] at h
    have hlt : k.lt c.1 = true := by
      cases hk with
      | inl e => subst e; exact h.1.1
      | inr e => exact RegKey.lt_trans e h.1.1
    simp only [regGet]
    rw [if_neg (fun e => by rw [e, RegKey.lt_irrefl] at hlt; simp at hlt)]
    exact ih h.2 (.inr hlt)

theorem regPut_wfFrom (lo : Option RegKey) (m : List (RegKey × Word)) (k : RegKey) (w : Word) (h : regWfFrom lo m = true)
    (hk : ∀ y, lo = some y → y.lt k = true) : regWfFrom lo (regPut m k w) = true := by
  induction m generalizing lo with
  | nil =>
    unfold regPut
    split
    · rfl
    · rename_i hb
      simp only [regWfFrom, Bool.and_true, Bool.and_eq_true, bne_iff_ne, ne_eq]
      refine ⟨?_, hb⟩
      cases lo with
      | none => rfl
      | some y => exact hk y rfl
  | cons c m ih =>
    have hc := h
    simp only [regWfFrom, Bool.and_eq_true] at hc
    unfold regPut
    split
    · split
      · exact h
      · rename_i h1 hb
        simp only [regWfFrom, Bool.and_eq_true, bne_iff_ne, ne_eq]
        refine ⟨⟨?_, hb⟩, ⟨h1, by simpa using hc.1.2⟩, hc.2⟩
        cases lo with
        | none => rfl
        | some y => exact hk y rfl
    · split
      · rename_i e
        split
        · refine regWf_weaken hc.2 lo fun y hy => ?_
          subst hy
          exact hc.1.1
        · rename_i hb
          simp only [regWfFrom, Bool.and_eq_true, bne_iff_ne, ne_eq]
          refine ⟨⟨?_, hb⟩, e ▸ hc.2⟩
          cases lo with
          | none => rfl
          | some y => exact hk y rfl
      · rename_i h1 h2
        simp only [regWfFrom, Bool.and_eq_true]
        refine ⟨hc.1, ih _ hc.2 fun y hy => ?_⟩
        injection hy with hy
        exact hy ▸ RegKey.lt_total (by simpa using h1) h2

/-- Storing a register word keeps the canonical form. -/
theorem regPut_wf {m : List (RegKey × Word)} (k : RegKey) (w : Word) (h : Regs.wf m = true) : Regs.wf (regPut m k w) = true :=
  regPut_wfFrom none m k w h (by simp)

theorem regFilter_wfFrom (p : RegKey × Word → Bool) (lo : Option RegKey) (m : List (RegKey × Word)) (h : regWfFrom lo m = true) :
    regWfFrom lo (m.filter p) = true := by
  induction m generalizing lo with
  | nil => rfl
  | cons c m ih =>
    have hc := h
    simp only [regWfFrom, Bool.and_eq_true] at hc
    rw [List.filter_cons]
    split
    · simp only [regWfFrom, Bool.and_eq_true]
      exact ⟨hc.1, ih _ hc.2⟩
    · refine ih _ (regWf_weaken hc.2 lo fun y hy => ?_)
      subst hy
      exact hc.1.1

/-- Dropping register words keeps the canonical form. -/
theorem regFilter_wf (p : RegKey × Word → Bool) {m : List (RegKey × Word)} (h : Regs.wf m = true) : Regs.wf (m.filter p) = true :=
  regFilter_wfFrom p none m h

theorem regGet_regPut_from (lo : Option RegKey) (m : List (RegKey × Word)) (k x : RegKey) (w : Word) (h : regWfFrom lo m = true) :
    regGet (regPut m k w) x = if x = k then w else regGet m x := by
  induction m generalizing lo with
  | nil =>
    unfold regPut
    by_cases e : x = k
    · subst e; split <;> simp_all [regGet]
    · split <;> simp [regGet, Ne.symm e]
  | cons c m ih =>
    have hc := h
    simp only [regWfFrom, Bool.and_eq_true] at hc
    unfold regPut
    by_cases e : x = k
    · subst e
      rw [if_pos rfl]
      split
      · split
        · rename_i h1 hb
          simp only [regGet]
          rw [if_neg (fun e => by rw [e, RegKey.lt_irrefl] at h1; simp at h1), hb]
          exact regGet_below hc.2 (.inr h1)
        · simp [regGet]
      · split
        · rename_i e2
          split
          · rename_i hb
            rw [hb]
            exact regGet_below hc.2 (.inl e2)
          · simp [regGet]
        · simp only [regGet]
          rw [if_neg (fun e => by simp_all), ih _ hc.2, if_pos rfl]
    · rw [if_neg e]
      split
      · split
        · rfl
        · simp [regGet, Ne.symm e]
      · split
        · rename_i e2
          split
          · simp [regGet, ← e2, Ne.symm e]
          · simp [regGet, ← e2, Ne.symm e]
        · simp only [regGet]
          rw [ih _ hc.2, if_neg e]

/-- A register word reads as it was stored, every other word as before. -/
theorem regGet_regPut {m : List (RegKey × Word)} (k x : RegKey) (w : Word) (h : Regs.wf m = true) :
    regGet (regPut m k w) x = if x = k then w else regGet m x := regGet_regPut_from none m k x w h

end Sys2Proof.Machine
end

