-- ==== Sys2Proof/Laws/Withy.lean ====
section
/-!
SUPPORT. Laws/Withy.lean: what the shared steps of a Withy instruction do: moving on, writing a scalar, a predicate, a
vector or an accumulator, and setting the saturation flag.
-/
namespace Sys2Proof.Machine
open Sys2Proof

theorem CtxOnly.refl (x : Ctx) (s : State) : CtxOnly x s s := by
  cases x with
  | strand k i => exact ⟨KeepsBut.refl _ _, OtherDies.refl _ _, rfl, fun _ _ => rfl⟩
  | coil c => exact ⟨KeepsBut.refl _ _, fun _ _ => rfl⟩

theorem CtxOnly.trans {x : Ctx} {s t u : State} (h : CtxOnly x s t) (g : CtxOnly x t u) : CtxOnly x s u := by
  cases x with
  | strand k i =>
    obtain ⟨a, b, c, d⟩ := h
    obtain ⟨a', b', c', d'⟩ := g
    exact ⟨a.trans a', b.trans b', by rw [← c, ← c'], fun j hj => (d' j hj).trans (d j hj)⟩
  | coil c => exact ⟨h.1.trans g.1, fun d hd => (g.2 d hd).trans (h.2 d hd)⟩

theorem ctxOnly_modProg (k : DieIx) (i : StrandIx) (f : Prog → Prog) (s : State) :
    CtxOnly (.strand k i) s (s.modProg k i f) := by
  refine ⟨modDie_keeps _ _ _, modDie_other _ _ _, by simp, fun j hj => ?_⟩
  have : ¬ i.val = j.val := fun e => hj (Fin.ext e.symm)
  simp [State.prog, this]

theorem ctxOnly_modCoil (c : CoilIx) (f : Coil → Coil) (s : State) : CtxOnly (.coil c) s (s.modCoil c f) := by
  refine ⟨fun p hp => ?_, fun j hj => ?_⟩
  · cases p <;> first | rfl | exact absurd (by decide) hp
  · have : ¬ c.val = j.val := fun e => hj (Fin.ext e.symm)
    simp [this]

/-- Setting bit 0 of a coil's flags changes its flags and its trace at most. -/
theorem coilFlag_sat (c : CoilIx) (s : State) :
    CtxOnly (.coil c) s (coilFlag c 0 s) ∧ ctxSat (coilFlag c 0 s) (.coil c) = true ∧
      { (coilFlag c 0 s).coils[c] with flags := (s.coils[c]).flags, trace := (s.coils[c]).trace } = s.coils[c] := by
  by_cases h : (s.coils[c]).flags / 2 ^ 0 % 2 = 1
  · have e : coilFlag c 0 s = s := by simp only [coilFlag, h, if_true]
    rw [e]
    exact ⟨CtxOnly.refl _ _, by simpa [ctxSat] using h, rfl⟩
  · have e : coilFlag c 0 s = traceTrig c 1 (s.modCoil c fun q => { q with flags := (s.coils[c]).flags + 2 ^ 0 }) := by
      simp only [coilFlag, h, if_false]
    have e2 : ∀ f : Nat, ¬ f / 2 ^ 0 % 2 = 1 → (f + 1) % 2 = 1 := fun f g => by
      rw [Nat.pow_zero, Nat.div_one] at g; omega
    have e2 := e2 _ h
    rw [e]
    unfold traceTrig
    dsimp only
    split
    · refine ⟨(ctxOnly_modCoil _ _ _).trans (ctxOnly_modCoil _ _ _), ?_, by simp⟩
      simpa [ctxSat] using e2
    · refine ⟨ctxOnly_modCoil _ _ _, ?_, by simp⟩
      simpa [ctxSat] using e2

theorem setSat_coil (b : Bool) (c : CoilIx) (s : State) :
    CtxOnly (.coil c) s (setSat b (.coil c) s) ∧ ctxSat (setSat b (.coil c) s) (.coil c) = (ctxSat s (.coil c) || b) ∧
      { (setSat b (.coil c) s).coils[c] with flags := (s.coils[c]).flags, trace := (s.coils[c]).trace } = s.coils[c] := by
  cases b
  · exact ⟨CtxOnly.refl _ _, by simp [setSat], by simp [setSat]⟩
  · simpa [setSat] using coilFlag_sat c s

/-- Writing a vector register and moving on. -/
theorem putV_result (k : DieIx) (i : StrandIx) (d : Nat) (l : Lanes) (s : State) :
    VectorResult k i d l s (nextPc (.strand k i) (putV k i d l s)) := by
  have e : nextPc (.strand k i) (putV k i d l s) = s.modProg k i fun p =>
      { p with
        sc := { p.sc with pc := p.sc.pc + 1 }, fSat := p.fSat || overLanes 24 l,
        vec := { p.vec with v := vset p.vec.v (Fin.ofNat 32 d) (l.map (satCx 24)) } } := by
    simp [nextPc, putV, setSat, modSc]
    split <;> rename_i h <;> simp [h, vset_eq_vmod]
  rw [e]
  exact ⟨by simp [State.prog], ctxOnly_modProg _ _ _ _⟩

/-- Writing an accumulator and moving on. -/
theorem putA_result (k : DieIx) (i : StrandIx) (d : Nat) (l : Lanes) (s : State) :
    AccResult k i d l s (nextPc (.strand k i) (putA k i d l s)) := by
  have e : nextPc (.strand k i) (putA k i d l s) = s.modProg k i fun p =>
      { p with
        sc := { p.sc with pc := p.sc.pc + 1 }, fSat := p.fSat || overLanes 40 l,
        vec := { p.vec with a := vset p.vec.a (Fin.ofNat 8 d) (l.map (satCx 40)) } } := by
    simp [nextPc, putA, setSat, modSc]
    split <;> rename_i h <;> simp [h, vset_eq_vmod]
  rw [e]
  exact ⟨by simp [State.prog], ctxOnly_modProg _ _ _ _⟩

/-- Writing a scalar register, with the saturation flag, and moving on. -/
theorem putS_result (x : Ctx) (d : Nat) (v : Word) (b : Bool) (s : State) :
    ScalarResult x d v b s (nextPc x (setSat b x (putS x d v s))) := by
  cases x with
  | strand k i =>
    have e : nextPc (.strand k i) (setSat b (.strand k i) (putS (.strand k i) d v s)) = s.modProg k i fun p =>
        { p with
          sc := { p.sc with pc := p.sc.pc + 1, s := vset p.sc.s (Fin.ofNat 16 d) v }, fSat := p.fSat || b } := by
      cases b <;> simp [nextPc, putS, setSat, modSc, vset_eq_vmod]
    rw [e]
    exact ⟨by simp [ctxSc, State.prog], by simp [ctxSat, State.prog], by simp [RestKept, State.prog],
      ctxOnly_modProg _ _ _ _⟩
  | coil c =>
    obtain ⟨h1, h2, h3⟩ := setSat_coil b c (putS (.coil c) d v s)
    have h0 : CtxOnly (.coil c) s (putS (.coil c) d v s) := ctxOnly_modCoil _ _ _
    have e2 : ctxSat (putS (.coil c) d v s) (.coil c) = ctxSat s (.coil c) := by simp [putS, modSc, ctxSat]
    have e4 : (putS (.coil c) d v s).coils[c] =
        { s.coils[c] with ctx := { (s.coils[c]).ctx with s := vset (s.coils[c]).ctx.s (Fin.ofNat 16 d) v } } := by
      simp [putS, modSc]
    generalize setSat b (.coil c) (putS (.coil c) d v s) = u at h1 h2 h3 ⊢
    rw [e4] at h3
    have e3 : (u.coils[c]).ctx = { (s.coils[c]).ctx with s := vset (s.coils[c]).ctx.s (Fin.ofNat 16 d) v } :=
      congrArg Coil.ctx h3
    have e6 : (nextPc (.coil c) u).coils[c] =
        { u.coils[c] with ctx := { (u.coils[c]).ctx with pc := (u.coils[c]).ctx.pc + 1 } } := by
      simp [nextPc, modSc]
    have h4 := congrArg (fun q => { q with ctx := (s.coils[c]).ctx }) h3
    refine ⟨?_, ?_, ?_, (CtxOnly.trans h0 h1).trans (ctxOnly_modCoil _ _ _)⟩
    · simp only [ctxSc, e6, e3]
    · rw [e2] at h2; rw [← h2]; simp only [ctxSat, e6]
    · simp only [RestKept, e6]
      exact h4

/-- An instruction that executes is its effect and the move to the next instruction. -/
theorem withy_executes {n : WOp} {x : Ctx} {w : WWord} {s : State} (h : Executes x n w s) (eff : WWord → State → State) :
    withy n x eff s = nextPc x (eff w s) := by
  simp only [withy, h.runs, h.fetched, h.named, h.taken, if_true]

end Sys2Proof.Machine
end

