-- ==== Sys2Proof/Tests/Slice0.lean ====
section
/-!
SUPPORT. Tests/Slice0.lean: states and operands that meet the hypotheses of each statement, clause by clause, and small
tests of decoders and commands against the worked examples of spec/.
-/
namespace Sys2Proof.Tests
open Sys2Proof Sys2Proof.Machine

set_option maxRecDepth 20000

/-! ## Helpers -/

/-- The conditions of Admits as a test. -/
def admitsB (o : Origin) (x : RegKey) (w : Word) (s : State) : Bool :=
  decide (placeAt 4 (BitVec.ofNat 32 (keyAddr x)) s = some (.reg x)) &&
    mayWrite (originLetter o) (BitVec.ofNat 32 (keyAddr x)).toNat (.reg x) && !lidRefuses (.reg x) w s &&
    (!recorded (.reg x) w s || canReserve s) &&
    targetCode o true (BitVec.ofNat 32 (keyAddr x)).toNat (.reg x) s == .ok && placeRule (.reg x) w s == .ok

theorem admits_of {o : Origin} {x : RegKey} {w : Word} {s : State} (h : admitsB o x w s = true) : Admits o x w s := by
  simp only [admitsB, Bool.and_eq_true, Bool.or_eq_true, Bool.not_eq_true', beq_iff_eq, decide_eq_true_eq] at h
  obtain ⟨⟨⟨⟨⟨h1, h2⟩, h3⟩, h4⟩, h5⟩, h6⟩ := h
  exact ⟨h1, h2, h3, fun hr => h4.resolve_left (by simp [hr]), h5, h6⟩

/-- The conditions of Arrives as a test. -/
def arrivesB (o : Origin) (x : RegKey) (w : Word) (s : State) : Bool :=
  decide (placeAt 4 (BitVec.ofNat 32 (keyAddr x)) s = some (.reg x)) &&
    mayWrite (originLetter o) (BitVec.ofNat 32 (keyAddr x)).toNat (.reg x) && !lidRefuses (.reg x) w s &&
    (!recorded (.reg x) w s || canReserve s) &&
    targetCode o true (BitVec.ofNat 32 (keyAddr x)).toNat (.reg x) s == .ok

theorem arrives_of {o : Origin} {x : RegKey} {w : Word} {s : State} (h : arrivesB o x w s = true) : Arrives o x w s := by
  simp only [arrivesB, Bool.and_eq_true, Bool.or_eq_true, Bool.not_eq_true', beq_iff_eq, decide_eq_true_eq] at h
  obtain ⟨⟨⟨⟨h1, h2⟩, h3⟩, h4⟩, h5⟩ := h
  exact ⟨h1, h2, h3, fun hr => h4.resolve_left (by simp [hr]), h5⟩

theorem reads_of {o : Origin} {x : RegKey} {s : State}
    (h : (placeAt 4 (BitVec.ofNat 32 (keyAddr x)) s = some (.reg x) ∧ mayRead (originLetter o) (.reg x) = true) ∧
      targetCode o false (BitVec.ofNat 32 (keyAddr x)).toNat (.reg x) s = .ok) : Reads o x s := ⟨h.1.1, h.1.2, h.2⟩

/-- A booted device: READY, in Active, every band die powered and released, the MRAM window open. -/
def d0 : State :=
  { State.reset with
    handle := { State.reset.handle with ready := true, st := .sleep, hubVer := 1, mcVer := 1, mcSlot := some false }
    thm := { State.reset.thm with win := .opened }
    dies := Vector.replicate 7 { Die.reset with powered := true, released := true } }

/-- The same with the Lid in Factory. -/
def dF : State := { d0 with lid := { d0.lid with st := .factory } }

/-- A stored register word. -/
def set (s : State) (r : Reg) (i j : Nat) (w : Word) : State := s.putReg ⟨r, i, j, 0⟩ w


/-- An image of one instruction for strands at h = 3. -/
def img : Image :=
  { base := 0, len := 1, cbase := 0, rows := 0, h := 3, pipe := 3, dir := 0, cycles := 8, latMax := 3, laCoil := 255,
    laOff := 0, res := [], digest := 0 }

/-- The frequency word of about 2 GHz. -/
def ftw2G : Nat := 54539225606300

/-- Strand i of die k placed without an output, at 2 GHz, h = 3 and 20 MHz, with the image of slot 2 bound; an uplink strand takes its
input from port 2, a downlink strand from port 0. -/
def placed (s : State) (k : DieIx) (i : StrandIx) : State :=
  (((set (set s .RDL_CFG k.val i.val (mkWord [(26, 16, 200), (10, 8, 2), (2, 0, 3)])) .STR_PLACE k.val i.val
    (if isUplink i then 2 else 0)).modDie k fun d => { d with slots := vset d.slots 2 (some img) }).modProg k i fun p =>
      { p with slot := some 2 }).modRid k i fun r => { r with ftw := ftw2G }

/-- The same strand, running. -/
def running (s : State) (k : DieIx) (i : StrandIx) : State :=
  (placed s k i).modStrand k i fun t => { t with st := .running, gate := gateSteps 3 }

/-- A valid block. -/
def blk : Block := ⟨true, List.replicate 64 ⟨1000, 0⟩, 0, []⟩

/-! ## The block and register accesses -/

theorem witness_EmptyQueueIdles : d0.pending = [] := by decide

theorem witness_CanonicalKept : State.reset.Canonical ∧ step State.reset = .next (exec .skeinFlush State.reset |> fun _ =>
    { State.reset with time := { State.reset.time with ft := 1 } }) := ⟨⟨by decide, by decide⟩, by rfl⟩

theorem witness_MemoryWords : Memory.wf (writeWord .chunk 4092 7 d0).mem = true := by decide

theorem witness_WriteChecks :
    placeAt 4 3 d0 = none ∧ placeAt 2 0x00040000 d0 = none ∧
    (placeAt 4 0x000B0000 d0 = some (.reg ⟨.LID_CTRL, 0, 0, 0⟩) ∧
      mayWrite (originLetter (.fabric 1)) 0x000B0000 (.reg ⟨.LID_CTRL, 0, 0, 0⟩) = false) ∧
    (placeAt 4 0x000B000C d0 = some (.reg ⟨.LID_CFG, 0, 0, 0⟩) ∧
      mayWrite (originLetter .host) 0x000B000C (.reg ⟨.LID_CFG, 0, 0, 0⟩) = true ∧
      lidRefuses (.reg ⟨.LID_CFG, 0, 0, 0⟩) 5 d0 = true ∧ lidRefuses (.reg ⟨.LID_CFG, 0, 0, 0⟩) 5 dF = false ∧
      recorded (.reg ⟨.LID_CFG, 0, 0, 0⟩) 5 dF = true ∧
      canReserve { dF with tally := { dF.tally with next := 130049 } } = false ∧
      targetCode .host true 0x000B000C (.reg ⟨.LID_CFG, 0, 0, 0⟩) { dF with pwr := { dF.pwr with inReset := true } } ≠ .ok) ∧
    (placeAt 4 0x00040000 d0 = some (.reg ⟨.LSH_CTRL, 0, 0, 0⟩) ∧ canReserve d0 = true ∧
      targetCode .host true 0x00040000 (.reg ⟨.LSH_CTRL, 0, 0, 0⟩) d0 = .ok ∧
      placeRule (.reg ⟨.LSH_CTRL, 0, 0, 0⟩) 3 d0 = .badProgram) := by decide

theorem witness_WritesThatStoreNothing :
    assigned 0x0000FFFC = false ∧ assigned 0x000F0000 = false ∧
    (Admits .host ⟨.LSH_STAT, 0, 0, 0⟩ 7 d0 ∧ writable .LSH_STAT = false) ∧
    (writeAt .host 4 0x00040000 3 d0).1 ≠ .ok := by
  and_intros <;> first | exact admits_of (by decide) | decide

theorem witness_PlainRegisters :
    d0.Canonical ∧ Admits .host ⟨.WAKE_CFG, 0, 0, 0⟩ 0xFFFF0005 d0 ∧ Admits .host ⟨.METER_CFG, 6, 15, 0⟩ 3 d0 ∧
    (Admits .host ⟨.TEL_CFG, 0, 0, 0⟩ 0xFF000000 d0 ∧ writable .TEL_CFG = true ∧
      recordedNow (.reg ⟨.TEL_CFG, 0, 0, 0⟩) 0xFF000000 d0 = true ∧
      (regEffect .host ⟨.TEL_CFG, 0, 0, 0⟩ 0xFF000000 d0).1 = .ok ∧
      (regEffect .host ⟨.TEL_CFG, 0, 0, 0⟩ 0xFF000000 d0).2.tally = d0.tally) := by
  and_intros <;> first | exact admits_of (by decide) | decide

theorem witness_SpecialReads :
    Reads .host ⟨.ADC_OVR_COUNT, 6, 3, 0⟩ d0 ∧ Reads .host ⟨.ADC_PEAK, 0, 0, 0⟩ d0 ∧ Reads .host ⟨.FT_LO, 0, 0, 0⟩ d0 ∧
    Reads (.fabric 5) ⟨.WT_LO, 0, 0, 0⟩ d0 := by
  and_intros <;> exact reads_of (by decide)

/-! ## Converters and the riddle chain -/

/-- Strand 15 of die 6 running at h = 3, strand 0 beside it stopped. -/
def d2 : State := running d0 6 15

theorem witness_ApplyAndSwap_pending :
    Admits .host ⟨.NCO_CTRL, 6, 15, 0⟩ 1 (d2.modRid 6 15 fun r => { r with pending := true }) ∧
    Admits .host ⟨.NCO_CTRL, 0, 0, 0⟩ 1 d0 ∧ (d0.rid 0 0).pending = false ∧ (d0.strand 0 0).st = .stopped := by
  and_intros <;> first | exact admits_of (by decide) | decide

theorem witness_ApplyAndSwap_running :
    (let s := set (set d2 .NCO_FREQ_LO 6 15 (BitVec.ofNat 32 ftw2G)) .NCO_FREQ_HI 6 15 (BitVec.ofNat 32 (ftw2G / 2 ^ 32))
     Admits (.fabric 0) ⟨.NCO_CTRL, 6, 15, 0⟩ 1 s ∧ (s.rid 6 15).pending = false ∧ (s.strand 6 15).st ≠ .stopped ∧
      placeFault s 6 15 (stagedFtw s 6 15) = 0 ∧ hasOutput s 6 15 = false) ∧
    (Admits .host ⟨.NCO_CTRL, 6, 15, 0⟩ 1 d2 ∧ placeFault d2 6 15 (stagedFtw d2 6 15) = 1) ∧
    (let s := set d2 .NCO_FREQ_LO 6 15 (BitVec.ofNat 32 ftw2G)
     let s := set (set s .NCO_FREQ_HI 6 15 (BitVec.ofNat 32 (ftw2G / 2 ^ 32))) .STR_PLACE 6 15 (mkWord [(9, 8, 2), (7, 6, 1), (1, 0, 0)])
     Admits .host ⟨.NCO_CTRL, 6, 15, 0⟩ 1 s ∧ (s.rid 6 15).pending = false ∧ (s.strand 6 15).st ≠ .stopped ∧
       placeFault s 6 15 (stagedFtw s 6 15) = 0 ∧ hasOutput s 6 15 = true ∧ regFaultBand s 6 15 (stagedFtw s 6 15) ≠ 0) := by
  and_intros <;> first | exact admits_of (by decide) | decide

theorem witness_ApplyAndSwap_swap :
    Admits .host ⟨.SWAP_REQ, 6, 15, 0⟩ (mkWord [(8, 8, 1), (3, 0, 12)]) d2 ∧
    Admits .host ⟨.SWAP_REQ, 6, 14, 0⟩ (mkWord [(8, 8, 0), (3, 0, 0)]) d2 ∧ (d2.strand 6 14).st = .stopped ∧
    (Admits .host ⟨.RDL_GROUP_SWAP, 6, 0, 0⟩ (mkWord [(24, 24, 1), (19, 16, 3), (15, 0, 0x8000)]) d2 ∧
      maskStrands 0x8000 = [15]) ∧
    (Admits .host ⟨.RDL_GROUP_SWAP, 6, 0, 0⟩ (mkWord [(24, 24, 1), (19, 16, 3), (15, 0, 0x8001)]) d2 ∧
      (0 : StrandIx) ∈ maskStrands 0x8001 ∧ (d2.strand 6 0).st = .stopped) := by
  and_intros <;> first | exact admits_of (by decide) | decide

theorem witness_SynchronisingResets :
    Admits .host ⟨.RDL_SYNC, 6, 0, 0⟩ (mkWord [(15, 0, 0xFFFF)]) d2 ∧
    (let s := set d2 .RDL_SYNC_TIME 6 0 200
     Admits .host ⟨.RDL_SYNC, 6, 0, 0⟩ (mkWord [(16, 16, 1), (15, 0, 0xFFFF)]) s ∧
       200 % 2 ^ 32 = (s.cfg1 .RDL_SYNC_TIME 6).toNat ∧ s.time.ft + 200 ≤ 200) ∧
    Admits .host ⟨.RDL_SYNC, 6, 0, 0⟩ (mkWord [(17, 17, 1)]) d2 ∧ (d2.strand 6 15).st ≠ .stopped ∧
    (let s := d2.modRid 6 15 fun r => { r with pending := true, fade := some ⟨1, 3, 0⟩, pend := some (0, 1) }
     (s.rid 6 15).pending = true ∧ (s.rid 6 15).fade = some ⟨1, 3, 0⟩ ∧ (s.strand 6 15).st ≠ .stopped) ∧
    (let s := d2.modDie 6 fun d => { d with armed := some (0xFFFF, 0) }
     (s.dies[(6 : DieIx)]).armed = some (0xFFFF, 0) ∧ 0 ≤ s.time.ft) := by
  and_intros <;> first | exact admits_of (by decide) | decide

theorem witness_RiddleBoundaries :
    (((d2.modRid 6 15 fun r => { r with pending := true }).rid 6 15).pending = true ∧ rdlSnap d2 6 15 = false ∧
      let s := (set d2 .RDL_CFG 6 15 0x1003).modRid 6 15 fun r => { r with pending := true }
      (s.rid 6 15).pending = true ∧ rdlSnap s 6 15 = true) ∧
    ((d2.modRid 6 15 fun r => { r with filling := some 0 }).rid 6 15).filling.isSome = true ∧
    (((d2.modRid 6 15 fun r => { r with delayWait := true }).rid 6 15).delayWait = true ∧
      bit (d2.cfg2 .DELAY_CFG 6 15) 16 = false) ∧
    (let s := (set d2 .DELAY_CFG 6 15 0x10005).modRid 6 15 fun r => { r with delayWait := true }
     (s.rid 6 15).delayWait = true ∧ bit (s.cfg2 .DELAY_CFG 6 15) 16 = true) ∧
    (let s := d2.modRid 6 15 fun r => { r with pend := some (0, 12) }
     (s.rid 6 15).pend = some (0, 12) ∧ (s.rid 6 15).fade = none ∧ 0 = (s.rid 6 15).active) ∧
    (let s := d2.modRid 6 15 fun r => { r with pend := some (1, 0) }
     (s.rid 6 15).pend = some (1, 0) ∧ (s.rid 6 15).fade = none ∧ (1 : Fin 2) ≠ (s.rid 6 15).active) ∧
    (let s := d2.modRid 6 15 fun r => { r with pend := some (1, 12) }
     (s.rid 6 15).pend = some (1, 12) ∧ (s.rid 6 15).fade = none ∧ (1 : Fin 2) ≠ (s.rid 6 15).active) ∧
    ((d2.modRid 6 15 fun r => { r with fade := some ⟨1, 3, 0⟩ }).rid 6 15).fade = some ⟨1, 3, 0⟩ ∧
    srcSeen (srcOfDie 6 4) d2 = true := by decide

/-! ## The stake link and the band dies -/

theorem witness_StakeLink :
    ((d0.dies[(6 : DieIx)]).powered = true ∧ (d0.dies[(6 : DieIx)]).laneLost = false ∧ srcSeen (srcOfDie 6 0) d0 = true) ∧
    (dieOfAddr 0x01400000 = some 0 ∧ d0.pwr.inReset = false ∧ d0.pwr.st ≠ .foot ∧ d0.handle.recovery = false ∧
      d0.pwr.failLow = false ∧
      ((d0.modDie 0 fun d => { d with powered := false }).dies[(0 : DieIx)]).powered = false ∧
      ((d0.modDie 0 fun d => { d with laneLost := true }).dies[(0 : DieIx)]).laneLost = true ∧
      ({ d0 with lash := { d0.lash with safe := true } }).lash.safe = true) ∧
    canRelease (d0.modDie 6 fun d => { d with released := false }) 6 = true := by decide

/-! ## Strands -/

/-- A strand that sends to a DAC of the other half and takes its input from an ADC. -/
def sending (s : State) (k : DieIx) (i : StrandIx) : State :=
  set s .STR_PLACE k.val i.val (mkWord [(9, 8, if isUplink i then 0 else 2), (7, 6, 1), (1, 0, if isUplink i then 2 else 0)])

/-- Strand 7 of die 6 closing a loop, as a group of its own. -/
def d3 : State := (sending (running d0 6 7) 6 7).modCanc 6 7 fun q => { q with group := [7] }

theorem witness_StrandStarts :
    (let s := placed d0 6 7
     Admits .host ⟨.STR_CTRL, 6, 7, 0⟩ 1 s ∧ (s.strand 6 7).st = .stopped ∧ (startChecks s 6 7).1 = .ok) := by
  and_intros <;> first | exact admits_of (by decide) | decide

theorem witness_StrandStarts_held :
    (let s := sending { d0 with handle := { d0.handle with versionHeld := true } } 6 7
     Admits .host ⟨.STR_CTRL, 6, 7, 0⟩ 1 s ∧ (s.strand 6 7).st = .stopped ∧ hasOutput s 6 7 = true ∧
       s.handle.versionHeld = true) ∧
    (let s := sending { d0 with thm := { d0.thm with hold := true } } 6 7
     Admits .host ⟨.STR_CTRL, 6, 7, 0⟩ 1 s ∧ hasOutput s 6 7 = true ∧ s.handle.versionHeld = false ∧ s.thm.hold = true) := by
  and_intros <;> first | exact admits_of (by decide) | decide

theorem witness_StrandStarts_refused :
    (Admits .host ⟨.STR_CTRL, 6, 7, 0⟩ 1 d0 ∧ programOk d0 6 7 = false ∧ d0.handle.versionHeld = false) ∧
    (let s := set (placed d0 6 7) .STR_PLACE 6 7 2
     Admits .host ⟨.STR_CTRL, 6, 7, 0⟩ 1 s ∧ programOk s 6 7 = true ∧ portsFollow s 6 7 = false) ∧
    (let s := set (placed d0 6 7) .STR_PLACE 6 7 (mkWord [(23, 16, 255), (2, 2, 1)])
     Admits .host ⟨.STR_CTRL, 6, 7, 0⟩ 1 s ∧ portsFollow s 6 7 = true ∧ epsOf s 6 7 = [255] ∧
       (s.wale.eps[Fin.ofNat 256 255]).st ≠ .admitted) ∧
    (let s := (placed d0 6 7).modRid 6 7 fun r => { r with ftw := 0 }
     Admits .host ⟨.STR_CTRL, 6, 7, 0⟩ 1 s ∧ programOk s 6 7 = true ∧ portsFollow s 6 7 = true ∧ epsOf s 6 7 = [] ∧
       placeFault s 6 7 (s.rid 6 7).ftw ≠ 0) ∧
    (let s := sending (placed d0 6 7) 6 7
     Admits .host ⟨.STR_CTRL, 6, 7, 0⟩ 1 s ∧ programOk s 6 7 = true ∧ portsFollow s 6 7 = true ∧ epsOf s 6 7 = [] ∧
       placeFault s 6 7 (s.rid 6 7).ftw = 0 ∧ regFaultOf s 6 7 ≠ 0) := by
  and_intros <;> first | exact admits_of (by decide) | decide

theorem witness_StrandStopsAndGroups :
    (Admits .host ⟨.STR_CTRL, 6, 7, 0⟩ 1 d3 ∧ (d3.strand 6 7).st = .running) ∧
    (let s := d3.modStrand 6 7 fun t => { t with st := .stopping }
     Admits .host ⟨.STR_CTRL, 6, 7, 0⟩ 1 s ∧ (s.strand 6 7).st = .stopping) ∧
    (Admits .host ⟨.STR_CTRL, 6, 7, 0⟩ 2 d3 ∧ (d3.strand 6 7).st = .running ∧
      Admits .host ⟨.STR_CTRL, 6, 8, 0⟩ 2 d3 ∧ (d3.strand 6 8).st = .stopped) ∧
    (let s := placed d3 6 15
     Admits .host ⟨.STR_GROUP, 6, 0, 0⟩ (mkWord [(15, 0, 0x8080)]) s ∧ (groupTry 6 (maskStrands 0x8080) s).1 = .ok ∧
       (s.strand 6 15).st = .stopped) ∧
    (Admits .host ⟨.STR_GROUP, 6, 0, 0⟩ (mkWord [(15, 0, 0x8000)]) d3 ∧ (groupTry 6 (maskStrands 0x8000) d3).1 ≠ .ok) ∧
    Admits .host ⟨.STR_GROUP, 6, 0, 0⟩ (mkWord [(31, 16, 0xFFFF)]) d3 := by
  and_intros <;> first | exact admits_of (by decide) | decide

theorem witness_StrandEnds :
    (let s := d3.modStrand 6 7 fun t => { t with st := .starting, atGate := some blk }
     (s.strand 6 7).st = .starting ∧ (s.strand 6 7).atGate.any (·.valid) = true) ∧
    (let s := (d3.modStrand 6 7 fun t => { t with st := .stopping, gate := 0 }).modProg 6 7 fun p => { p with paramWait := true }
     (s.strand 6 7).st = .stopping ∧ (s.strand 6 7).gate = 0 ∧ (s.prog 6 7).paramWait = true) ∧
    (d3.strand 6 7).st ≠ .stopped ∧
    (let s := d3.modStrand 6 7 fun t => { t with st := .stopping }
     Admits .host ⟨.STR_CTRL, 6, 7, 0⟩ 2 s ∧ (s.strand 6 7).st = .stopping) := by
  and_intros <;> first | exact admits_of (by decide) | decide

/-- A valid block of zeros. -/
def zeroBlk : Block := ⟨true, List.replicate 64 ⟨0, 0⟩, 0, []⟩

theorem witness_LevelStage :
    (let s := d3.modStrand 6 7 fun t => { t with toLevel := [blk], first := false }
     (s.strand 6 7).toLevel = [blk] ∧ bit (s.cfg2 .ALC_CFG 6 7) 31 = false ∧ (s.strand 6 7).first = false) ∧
    (let s := d3.modStrand 6 7 fun t => { t with toLevel := [blk] }
     (s.strand 6 7).first = true ∧ blk.valid = true ∧ throttled s 0 = false ∧ throttled s (thmIx 6) = false) ∧
    (let s := (set d3 .ALC_CFG 6 7 0x80000000).modStrand 6 7 fun t => { t with toLevel := [blk] }
     (s.strand 6 7).toLevel = [blk] ∧ bit (s.cfg2 .ALC_CFG 6 7) 31 = true ∧ blk.valid = true) ∧
    (let s := d3.modStrand 6 7 fun t => { t with toLevel := [blk.spoil] }
     (s.strand 6 7).toLevel = [blk.spoil] ∧ blk.spoil.valid = false) ∧
    (let s := d3.modStrand 6 7 fun t => { t with toLevel := [zeroBlk] }
     (s.strand 6 7).toLevel = [zeroBlk] ∧ zeroBlk.valid = true ∧ ∀ z ∈ zeroBlk.xs, z = ⟨0, 0⟩) ∧
    (let s := (d3.modStrand 6 7 fun t => { t with toLevel := [blk], first := false }).modCanc 6 7 fun q => { q with group := [] }
     (s.strand 6 7).toLevel = [blk] ∧ blk.valid = true ∧ (s.strand 6 7).first = false ∧ isSilent s 6 7 = true) ∧
    (Admits .host ⟨.ALC_CFG, 6, 7, 0⟩ ((d3.cfg2 .ALC_CFG 6 7) ||| 0x80000000) d3 ∧
      bit ((d3.cfg2 .ALC_CFG 6 7) ||| 0x80000000) 31 = true ∧ bit (d3.cfg2 .ALC_CFG 6 7) 31 = false) := by
  and_intros <;> first | exact admits_of (by decide) | decide

theorem witness_TransmitChain :
    (let s := d3.modStrand 6 7 fun t => { t with meter := { t.meter with win := 0, blocks := 1 } }
     2 ^ (s.strand 6 7).meter.win ≤ (s.strand 6 7).meter.blocks) ∧
    (let s := d3.modStrand 6 7 fun t => { t with toLim := [blk], inLim := [⟨blk, 0⟩] }
     (s.strand 6 7).toLim = [blk] ∧ gatePort s 6 7 = some 2 ∧ (s.strand 6 7).st ≠ .stopped ∧
       (s.strand 6 7).inLim = [⟨blk, 0⟩]) ∧
    (let s := (d3.modStrand 6 7 fun t => { t with inLim := [⟨blk, 0⟩], release := [blk, blk], atGate := some blk, gate := 10000 }).modPort 6 2 fun p => { p with st := .transmit }
     (s.strand 6 7).inLim = [⟨blk, 0⟩] ∧ 2 ≤ (s.strand 6 7).release.length ∧ (s.strand 6 7).atGate = some blk ∧
       gatePort s 6 7 = some 2 ∧ muteBits s 6 7 = 0 ∧ gateSteps (rdlH s 6 7) ≤ (s.strand 6 7).gate) ∧
    (let s := d3.modStrand 6 7 fun t => { t with tx := [⟨1, 1⟩, ⟨2, 2⟩] }
     (s.strand 6 7).tx.length = 2) ∧
    srcSeen (srcOfDie 6 3) d3 = true := by decide

/-! ## Cancellation and the guard -/

/-- An estimate of nothing. -/
def est0 : Estimate := ⟨.zero, -20000, -20000, 0, 0⟩

theorem witness_CancellerRequests :
    (Admits .host ⟨.CNC_CTRL, 6, 7, 0⟩ (bitsWord ⟨.CNC_CTRL, 6, 7, 0⟩ 0x10 0 d3) d3 ∧ d3.Canonical ∧
      (d3.canc 6 7).reqPending = false ∧ guardBusy d3 6 7 = false) ∧
    (let s := d3.modCanc 6 7 fun q => { q with reqPending := true }
     Admits .host ⟨.CNC_CTRL, 6, 7, 0⟩ (bitsWord ⟨.CNC_CTRL, 6, 7, 0⟩ 0x10 0 s) s ∧ s.Canonical) ∧
    (Admits .host ⟨.CNC_CTRL, 6, 7, 0⟩ (bitsWord ⟨.CNC_CTRL, 6, 7, 0⟩ 0x08 0 d3) d3 ∧
      bit (d3.cfg2 .CNC_CTRL 6 7) 2 = false ∧ estValid (d3.canc 6 7) = false) ∧
    (let s := set d3 .CNC_CTRL 6 7 4
     Admits .host ⟨.CNC_CTRL, 6, 7, 0⟩ (bitsWord ⟨.CNC_CTRL, 6, 7, 0⟩ 0x08 0 s) s ∧ bit (s.cfg2 .CNC_CTRL 6 7) 2 = true) ∧
    (let s := d3.modCanc 6 7 fun q => { q with est := some est0 }
     (s.canc 6 7).est = some est0 ∧ (s.canc 6 7).lapsedNow = false) ∧
    (let s := d3.modRid 6 7 fun r => { r with outs := List.replicate 64 ⟨⟨5, 7⟩, true⟩ }
     (s.strand 6 7).st ≠ .stopped ∧ isReceiverNow s 6 7 = true ∧ inStream s 6 7 = false ∧
       64 ≤ ((chainIn 6 7 true [] [] [] s).1.rid 6 7).outs.length) ∧
    (let s := (set d3 .STR_PLACE 6 7 (mkWord [(23, 16, 255), (2, 2, 1)])).modEp 255 fun x => { x with buf := [(0, some blk)] }
     (s.strand 6 7).st ≠ .stopped ∧ inStream s 6 7 = true ∧ (s.rid 6 7).ecc = false ∧
       streamBlock s (inEp s 6 7) ((s.prog 6 7).inv + b2n (s.prog 6 7).sc.running + (s.prog 6 7).inQ.length) = some blk) := by
  and_intros <;> first | exact admits_of (by decide) | exact ⟨by decide, by decide⟩ | decide

theorem witness_ProbePeriods :
    (receiversOf d3 6 (groupOf d3 6 7)).contains 7 = true ∧ closesLoop d3 6 (groupOf d3 6 7) = true ∧
    (d3.canc 6 7).restart = false ∧ (d3.canc 6 7).mixed = false ∧
    (let s := d3.modCanc 6 7 fun q => { q with cap := some (-100) }
     closesLoop s 6 [7] = true ∧ capBase s 6 [7] = (some (-100), 0)) := by decide

/-- The chips of a run of n chips sent. -/
theorem chipsSent_replicate (n : Nat) (q : Canc) (h : q.sent = List.replicate n 1) (hn : n ≤ 32767) : chipsSent q = n := by
  simp [chipsSent, h, List.take_replicate, Nat.min_eq_right hn, List.countP_replicate]

/-- Strand 7 of die 6 with the chips of a list sent. -/
def chipsOf (l : List Int) : State := d3.modCanc 6 7 fun q => { q with sent := l }

theorem chipsOf_senders (l : List Int) :
    ((sendersOf (chipsOf l) 6 (groupOf (chipsOf l) 6 7)).filter fun j => !isSilent (chipsOf l) 6 j) = [7] := by with_unfolding_all rfl

theorem chipsOf_sent (l : List Int) : ((chipsOf l).canc 6 7).sent = l := by rfl

theorem chipsOf_counted (l : List Int) : chipsCounted (chipsOf l) 6 7 = chipsSent ((chipsOf l).canc 6 7) := by
  dsimp only [chipsCounted]
  rw [chipsOf_senders]
  rfl

theorem witness_ProbePeriods_quarter : 32767 ≤ 4 * chipsCounted (chipsOf (List.replicate 8192 1)) 6 7 := by
  rw [chipsOf_counted, chipsSent_replicate 8192 _ (chipsOf_sent _) (by decide)]
  decide

theorem witness_EstimatesAndPlacements :
    (let s := d3.modCanc 6 7 fun q => { q with est := some est0, uncounted := 8, place := some (.taps [(true, 1023)]) }
     estValid (s.canc 6 7) = true ∧ 8 ≤ (s.canc 6 7).uncounted ∧ (s.canc 6 7).place = some (.taps [(true, 1023)]) ∧
       (s.guard 6 7).restore = false) ∧
    (let s := (d3.modCanc 6 7 fun q => { q with place := some .shadow }).modGuard 6 7 fun g => { g with restore := true }
     (s.canc 6 7).place = some .shadow ∧ (s.guard 6 7).restore = true) ∧
    ((d3.modCanc 6 7 fun q => { q with polyWait := true }).canc 6 7).polyWait = true := by decide

theorem witness_GuardTrips :
    (groupOf d3 6 7 = [7] ∧ receiversOf d3 6 [7] = [7] ∧ (d3.guard 6 7).phase ≠ .locked ∧
      (tripsNow d3 6 7).length + 1 < fld (d3.cfg2 .GRD_RECOV 6 7) 27 24 ∧
      (let s := d3.modStrand 6 7 fun t => { t with first := false }
       maxGapp s 6 (sendersOf s 6 [7]) = some 0) ∧ groupGcap d3 6 [7] = none ∧ srcSeen (srcOfDie 6 2) d3 = true) ∧
    (let s := d3.modGuard 6 7 fun g =>
       { g with xs := List.replicate 128 ⟨0, 0⟩, ys := List.replicate 128 ⟨0, 0⟩, phase := .armed }
     128 ≤ (s.guard 6 7).xs.length ∧ criterion s 6 7 ((windowOf (s.guard 6 7) :: (s.guard 6 7).wins).take 16) = 0) ∧
    (let s := d3.modGuard 6 7 fun g =>
       { g with xs := List.replicate 128 ⟨0, 0⟩, ys := List.replicate 128 ⟨0, 0⟩, phase := .armed, prog := true, liveNow := true }
     criterion s 6 7 ((windowOf (s.guard 6 7) :: (s.guard 6 7).wins).take 16) = 4 ∧ (s.guard 6 7).phase = .armed ∧
       closesLoop s 6 (groupOf s 6 7) = true) := by decide

theorem witness_GuardRecovery :
    (let s := (d3.modGuard 6 7 fun g => { g with restore := true }).modCanc 6 7 fun q =>
       { q with ckpt := some (Vector.replicate 128 .zero) }
     (s.guard 6 7).restore = true ∧ (s.canc 6 7).ckpt = some (Vector.replicate 128 .zero)) ∧
    (let s := (d3.modGuard 6 7 fun g => { g with phase := .muted, muted := 65535 }).modCanc 6 7 fun q =>
       { q with gcap := some 0 }
     let s := s.modStrand 6 7 fun t => { t with first := false }
     (s.guard 6 7).phase = .muted ∧ max (s.guard 6 7).hold (fld (s.cfg2 .GRD_RECOV 6 7) 15 0) ≤ (s.guard 6 7).muted ∧
       maxGapp s 6 (sendersOf s 6 (groupOf s 6 7)) = some 0 ∧ (s.canc 6 7).gcap = some 0) := by decide

/-! ## Network protection -/

/-- A record whose entry 0 of die 6 is a TDD licence for downlink over the whole range. -/
def licensed (s : State) : State :=
  let w := fun (off : Nat) (v : Word) (s : State) => writeWord .mram (copyBase false + 0x20 + 6 * 8 * 64 + off) v s
  w 0 5 (w 4 617000 (w 8 7125000 (w 0x18 0x00000064 { s with reg := { s.reg with okA := true } })))

/-- A TDD strand that sends to port 2 of die 6, with a pattern of one downlink slot in 0.5 ms in force. -/
def d5 : State :=
  (licensed d3).modTdd 6 fun t => { t with active := some ⟨0xA0000A0A, 0, 0, 0, 0, none, none, none, none⟩, valid := true,
                                           lastDet := some 0 }

/-- Uplink strand 15 of die 6 runs without an output and is gated with the threshold -26.00 dBFS. -/
def dU : State := set d2 .UG_CFG 6 15 0x8000F5D8

theorem witness_GatingAndBackoff :
    (let s := (set dU .UG_CFG 6 15 0x80008000).modProt 6 15 fun p => { p with ug := .opened }
     gated s 6 15 = true ∧ (s.prot 6 15).ug = .opened ∧ (s.prot 6 15).since + ugHold s 6 15 ≤ s.time.ft ∧
       dbAtLeast (activity s 6 15 blk).1 (activity s 6 15 blk).2 (ugThr s 6 15) = true) ∧
    (let s := { set dU .UG_CFG 6 15 0x8400F5D8 with time := { dU.time with ft := 10 ^ 10 } }
     gated s 6 15 = true ∧ (s.prot 6 15).ug = .closed ∧ ugKeep s 6 15 ≠ 0 ∧
       (s.prot 6 15).since + ugKeep s 6 15 * 10 ^ 10 ≤ s.time.ft) ∧
    (let s := dU.modProt 6 15 fun p => { p with ug := .keep, keepPeriods := 2 }
     (s.prot 6 15).ug = .keep ∧ 2 ≤ (s.prot 6 15).keepPeriods) ∧
    (let s := dU.modProt 6 15 fun p => { p with ug := .opened }
     dbAtLeast (activity s 6 15 blk).1 (activity s 6 15 blk).2 (ugThr s 6 15) = false ∧
       dbAtLeast (activity s 6 15 blk).1 (activity s 6 15 blk).2 (ugThr s 6 15 - 300) = true) ∧ Block.invalid.valid = false ∧
    (let s := set d3 .BO_CFG 6 7 0x8100F5D8
     isUplink 7 = false ∧ bit (s.cfg2 .BO_CFG 6 7) 31 = true ∧
       backoffTarget (energy blk.xs) (sfld (s.cfg2 .BO_CFG 6 7) 15 0) = 0 ∧ (s.prot 6 7).b ≤ 0) ∧
    (let s := (set d3 .BO_CFG 6 7 0x8100F5D8).modProt 6 7 fun p => { p with b := 800, hold := 1 }
     backoffTarget (energy blk.xs) (sfld (s.cfg2 .BO_CFG 6 7) 15 0) < (s.prot 6 7).b ∧ 0 < (s.prot 6 7).hold) ∧
    (let s := (set d3 .BO_CFG 6 7 0x8100F5D8).modProt 6 7 fun p => { p with b := 800, hold := 0 }
     backoffTarget (energy blk.xs) (sfld (s.cfg2 .BO_CFG 6 7) 15 0) < (s.prot 6 7).b ∧ (s.prot 6 7).hold = 0) := by decide

theorem witness_Presence :
    (let s := d0.modList 6 7 fun l => { l with st := .present, due := some 0 }
     ((s.dies[(6 : DieIx)]).lists[(7 : Fin 8)]).due = some 0 ∧ ((s.dies[(6 : DieIx)]).lists[(7 : Fin 8)]).waiting = none ∧
       ((s.dies[(6 : DieIx)]).lists[(7 : Fin 8)]).running = none ∧ 0 ≤ s.time.ft ∧ handleWorks s = true) ∧
    (let s := (d0.modList 6 7 fun l => { l with st := .present, due := some 0 }).modDie 6 fun d => { d with laneLost := true }
     ((s.dies[(6 : DieIx)]).lists[(7 : Fin 8)]).due = some 0 ∧ (s.dies[(6 : DieIx)]).laneLost = true) ∧
    (let s := { (d0.modList 6 7 fun l => { l with st := .present, due := some 0 }) with time := { d0.time with ft := 5000000000 } }
     ((s.dies[(6 : DieIx)]).lists[(7 : Fin 8)]).due = some 0 ∧ 0 + 5000000000 ≤ s.time.ft) ∧
    (let s := { (d0.modList 6 7 fun l => { l with st := .checking, waiting := some 0 }) with
       time := { d0.time with ft := 2 * 10 ^ 9 } }
     ((s.dies[(6 : DieIx)]).lists[(7 : Fin 8)]).waiting = some 0 ∧ 0 + 2 * 10 ^ 9 ≤ s.time.ft) ∧
    (let s := d0.modList 6 7 fun l => { l with st := .checking, running := some 0 }
     ((s.dies[(6 : DieIx)]).lists[(7 : Fin 8)]).running = some 0 ∧ presMatch s 6 7 [] = none) ∧
    (let s := (set d5 .PRES_CFG 6 0 0x80000000).modList 6 0 fun l => { l with st := .missing, running := some 0, misses := 2 }
     ((s.dies[(6 : DieIx)]).lists[(0 : Fin 8)]).running = some 0 ∧ presMatch s 6 0 [] = none ∧
       2 ≤ ((s.dies[(6 : DieIx)]).lists[(0 : Fin 8)]).misses ∧ subjectOf s 6 7 = some 0) ∧
    (let s := (set d5 .PRES_CFG 6 0 0x80000000).modList 6 0 fun l => { l with st := .missing, running := some 0, misses := 1 }
     let s := s.putReg ⟨.PRES_ID, 6, 0, 31⟩ 0x800003FF
     ((s.dies[(6 : DieIx)]).lists[(0 : Fin 8)]).running = some 0 ∧ presMatch s 6 0 [(false, -60, 1023)] = some 31 ∧
       subjectOf s 6 7 = some 0 ∧ (s.prot 6 7).presSince ≤ 0) ∧
    (let s := (set d5 .PRES_CFG 6 0 0x80000000).modList 6 0 fun l => { l with st := .missing, running := some 0, misses := 1 }
     let s := (s.putReg ⟨.PRES_ID, 6, 0, 31⟩ 0x800003FF).modProt 6 7 fun p => { p with presSince := 1 }
     subjectOf s 6 7 = some 0 ∧ 0 < (s.prot 6 7).presSince) := by decide

theorem witness_TddPattern :
    (let s := set d3 .TDD_CFG 6 0 0xA0000A0A
     Admits .host ⟨.TDD_ADV, 6, 0, 0⟩ (bitsWord ⟨.TDD_ADV, 6, 0, 0⟩ 0x80000000 0 s) s ∧ s.Canonical ∧
       bit (s.cfg1 .TDD_CFG 6) 31 = true ∧ patternFault s 6 none (latchPattern s 6 none (stagedPattern s 6)) = 0 ∧
       (s.dies[(6 : DieIx)]).tdd.active = none) ∧
    (let s := (set d3 .TDD_CFG 6 0 0xA0000A0A).modTdd 6 fun t =>
       { t with active := some ⟨0xA0000A0A, 0, 0, 0, 0, none, none, none, none⟩ }
     Admits .host ⟨.TDD_ADV, 6, 0, 0⟩ (bitsWord ⟨.TDD_ADV, 6, 0, 0⟩ 0x80000000 0 s) s ∧ s.Canonical ∧
       bit (s.cfg1 .TDD_CFG 6) 31 = true ∧ patternFault s 6 none (latchPattern s 6 none (stagedPattern s 6)) = 0 ∧
       (s.dies[(6 : DieIx)]).tdd.active = some ⟨0xA0000A0A, 0, 0, 0, 0, none, none, none, none⟩) ∧
    (let s := set d3 .TDD_CFG 6 0 0xE0000A0A
     Admits .host ⟨.TDD_ADV, 6, 0, 0⟩ (bitsWord ⟨.TDD_ADV, 6, 0, 0⟩ 0x80000000 0 s) s ∧ s.Canonical ∧
       patternFault s 6 none (latchPattern s 6 none (stagedPattern s 6)) ≠ 0) ∧
    (Admits .host ⟨.TDD_ADV, 6, 0, 0⟩ (bitsWord ⟨.TDD_ADV, 6, 0, 0⟩ 0x80000000 0 d3) d3 ∧ d3.Canonical ∧
      bit (d3.cfg1 .TDD_CFG 6) 31 = false) ∧
    (let s := d5.modTdd 6 fun t => { t with next := some ⟨0xA0000A0A, 0, 0, 0, 0, none, none, none, none⟩ }
     (s.dies[(6 : DieIx)]).tdd.next = some ⟨0xA0000A0A, 0, 0, 0, 0, none, none, none, none⟩) ∧
    (let s := d5.modTdd 6 fun t => { t with corr := some 501 }
     (s.dies[(6 : DieIx)]).tdd.corr = some 501) ∧
    (tddReady d5 6 = true ∧ (d5.strand 6 7).st = .running ∧ isTdd d5 6 7 = true ∧ outKind d5 6 7 = 1 ∧
      ((d5.dies[(6 : DieIx)]).duty[(2 : PortIx)]).hold = false) ∧
    (let s := (set (set d5 .COEX_PORTS 0 0 (mkWord [(26, 26, 1)])) .COEX_CFG 0 0 0x40000000).modPort 6 2 fun p =>
       { p with cycling := true, st := .receive }
     (s.port 6 2).cycling = true ∧ (s.port 6 2).moving = none ∧ (s.port 6 2).inProg = none ∧ (s.port 6 2).st = .receive ∧
       (s.port 6 2).dutyHold = false ∧ coexBars s 6 2 = true) ∧
    (let s := { d5 with time := { d5.time with ft := 2 * 10 ^ 9 } }
     (s.dies[(6 : DieIx)]).tdd.lastDet = some 0 ∧ (s.dies[(6 : DieIx)]).tdd.valid = true ∧
       0 + fld (s.cfg1 .TDD_SYNC 6) 31 28 * 10 ^ 9 ≤ s.time.ft ∧ isTdd s 6 7 = true ∧ tddReady s 6 = true ∧
       outKind s 6 7 = 1 ∧ outPort s 6 7 = 2) ∧
    (let s := d5.modPort 6 2 fun p => { p with cycling := true, st := .transmit }
     (s.port 6 2).cycling = true ∧ (s.port 6 2).moving = none ∧ (s.port 6 2).inProg = none ∧ (s.port 6 2).st = .transmit) ∧
    (let s := d5.modPort 6 2 fun p => { p with cycling := true, st := .receive }
     (s.port 6 2).st = .receive ∧ (s.port 6 2).dutyHold = false ∧ coexBars s 6 2 = false) := by
  and_intros <;> first | exact admits_of (by decide) | exact ⟨by decide, by decide⟩ | decide

theorem witness_DutyAndLean :
    (((d5.dies[(6 : DieIx)]).duty[(2 : PortIx)]).frac d5.time.ft < portDuty d5 6 2) ∧
    (let s := { d5 with time := { d5.time with ft := 10000000 } }
     let s := (s.modDie 6 fun d => { d with duty := vset d.duty 2 ⟨0, 0, false, some 0, []⟩ }).modPort 6 2 fun p =>
       { p with st := .transmit }
     portDuty s 6 2 = 100 ∧ portDuty s 6 2 ≤ ((s.dies[(6 : DieIx)]).duty[(2 : PortIx)]).frac s.time.ft ∧
       ((s.dies[(6 : DieIx)]).duty[(2 : PortIx)]).hold = false ∧ (s.port 6 2).st = .transmit ∧ (s.port 6 2).moving = none) ∧
    (∃ d : Duty, d.since = some 0 ∧ d.past = []) ∧
    (let s := { (set (set dU .LEAN_CFG 6 3 0x80000000) .LEAN_MASK 6 3 0x8000) with time := { dU.time with ft := 10 ^ 9 } }
     bit (s.cfg2 .LEAN_CFG 6 3) 31 = true ∧ leanUp s 6 3 = [15] ∧ (leanUp s 6 3).all (ugShut s 6) = true ∧
       leanOutside s 6 3 0 = false) ∧
    (let s := { (set (set dU .LEAN_CFG 6 3 0x80000000) .LEAN_MASK 6 3 0x8000) with time := { dU.time with ft := 10 ^ 6 } }
     let s := s.modLean 6 3 fun x => { x with burst := some 0 }
     bit (s.cfg2 .LEAN_CFG 6 3) 31 = true ∧ (leanUp s 6 3).all (ugShut s 6) = true ∧
       leanOutside s 6 3 (leanLmax s 6 3) = true) ∧
    (let s := (set (set dU .LEAN_CFG 6 3 0x80000000) .LEAN_MASK 6 3 0x8000).modProt 6 15 fun p => { p with ug := .opened }
     (leanUp s 6 3).all (ugShut s 6) = false) ∧
    (tddEntry d5 6 = some 0 ∧ burstOf d5 6 0 0 0 = true ∧ (d5.dies[(6 : DieIx)]).tdd.active ≠ none ∧
      (d5.dies[(6 : DieIx)]).tdd.lastDet ≠ none) ∧
    (let s := d5.modTdd 6 fun t => { t with lastDet := none }
     tddEntry s 6 = some 0 ∧ burstOf s 6 0 0 0 = true ∧ (s.dies[(6 : DieIx)]).tdd.lastDet = none) := by
  and_intros <;> first | exact ⟨⟨0, 0, false, some 0, []⟩, rfl, rfl⟩ | decide

theorem witness_RegulatoryRecord :
    Memory.wf d5.mem = true ∧ Admits .host ⟨.REG_EDIT, 0, 0, 0⟩ 1 dF ∧ Admits .host ⟨.REG_EDIT, 0, 0, 0⟩ 4 dF ∧
    Admits .host ⟨.REG_EDIT, 0, 0, 0⟩ 2 dF ∧ (dF.reg.busy = none ∧ dF.reg.staged = false) ∧
    (let s := { dF with reg := { dF.reg with staged := true } }
     Admits .host ⟨.REG_EDIT, 0, 0, 0⟩ 2 s ∧ s.reg.busy = none ∧ s.reg.staged = true) ∧
    (let s := { dF with reg := { dF.reg with staged := true, busy := some .host } }
     s.reg.busy = some .host ∧ handleWorks s = true ∧ mramVerdict s = .allowed ∧
       mramVerdict { s with thm := { s.thm with win := .closed } } = .refused) := by
  and_intros <;> first | exact admits_of (by decide) | decide

theorem witness_RegulatoryRecord_contents :
    editFault (stagedBytes d0) ≠ 0 ∧ editFault (stagedBytes (writeWord .staging 0 1 d0)) = 0 := by decide

/-! ## Programs and their loader -/

/-- Strand 7 of die 6 with an invocation in progress. -/
def d6 : State := d3.modProg 6 7 fun p => { p with sc := { p.sc with running := true } }

/-- A loader command in progress on die 6. -/
def loading (op slot mask : Nat) (s : State) : State :=
  s.modLoader 6 fun x => { x with busy := some ⟨op, slot, 0, mask, false, 0, .host⟩ }

/-- Words of the smallest stream image: its header by R234, with its CRC-32, and a HALT. -/
def putImage (sp : Space) (off crc : Nat) (s : State) : State :=
  [(0, 0x32495957), (4, 2), (8, 256), (12, 1), (0x14, 0x02034003), (0x18, 1), (0x20, 0xFF), (0xFC, crc), (0x104, 0xFC000000)].foldl
    (fun s p => writeWord sp (off + p.1) (BitVec.ofNat 32 p.2) s) s

theorem witness_Invocations :
    (let s := d3.modProg 6 7 fun p => { p with inQ := [WInput.zero] }
     (s.prog 6 7).inQ = [WInput.zero] ∧ boundImage s 6 7 = some img ∧ (s.strand 6 7).st ≠ .stopped ∧
       (s.prog 6 7).sc.running = false ∧ weaverBusy s 6 7 = false) ∧
    ((d3.modProg 6 7 fun p => { p with outQ := [blk] }).prog 6 7).outQ = [blk] ∧
    (let s := (d3.modProg 6 7 fun p => { p with laQ := [some 0] }).modDie 6 fun d =>
       { d with slots := vset d.slots 2 (some { img with laCoil := 13 }) }
     (s.prog 6 7).laQ = [some 0] ∧ boundImage s 6 7 = some { img with laCoil := 13 } ∧
       imageCoil { img with laCoil := 13 } = some 13 ∧ (s.dies[(6 : DieIx)]).laneLost = false) ∧
    (let s := (d3.modProg 6 7 fun p => { p with laQ := [some 0] }).modDie 6 fun d =>
       { d with slots := vset d.slots 2 (some { img with laCoil := 13 }), laneLost := true }
     (s.prog 6 7).laQ = [some 0] ∧ (s.dies[(6 : DieIx)]).laneLost = true) ∧
    (let s := d3.modProg 6 7 fun p => { p with inQ := [WInput.zero], paramWait := true }
     (s.prog 6 7).inQ = [WInput.zero] ∧ (s.prog 6 7).paramWait = true ∧ Arrives .host ⟨.PRG_PARAM, 6, 7, 7⟩ 5 s) ∧
    Admits .host ⟨.PRG_PCTRL, 6, 7, 0⟩ 1 d3 ∧ (Admits .host ⟨.PRG_PCTRL, 6, 15, 0⟩ 1 d3 ∧ (d3.strand 6 15).st = .stopped) := by
  and_intros <;> first | exact admits_of (by decide) | exact arrives_of (by decide) | decide

theorem witness_LoaderTakes :
    (d0.dies[(6 : DieIx)]).loader.busy = none ∧
    (∀ p ∈ [(1, 15, 0), (2, 15, 31), (4, 15, 0), (5, 0, 0), (6, 15, 0), (3, 0, 31), (7, 0, 31)],
      admitsB .host ⟨.PRG_CMD, 6, 0, 0⟩ (loaderWord p.1 p.2.1 p.2.2) d0 = true) := by decide

theorem witness_LoaderEnds :
    ((loading 1 15 0 d3).dies[(6 : DieIx)]).loader.busy = some ⟨1, 15, 0, 0, false, 0, .host⟩ ∧
    handleWorks (loading 1 15 0 d3) = true ∧ boundTo (loading 1 2 0 d3) 6 2 = [7] ∧ boundTo (loading 1 15 0 d3) 6 15 = [] ∧
    streamFault (libBytes (loading 2 15 0 d3) 0) = 1 ∧
    (let s := loading 4 2 0x80 d3
     (strandsOf 0x80).any (fun i => (s.strand 6 i).st != .stopped) = true) ∧
    (let s := loading 4 15 0x8000 d3
     (strandsOf 0x8000).any (fun i => (s.strand 6 i).st != .stopped) = false ∧
       (strandsOf 0x8000).find? (fun i => bindFault s 6 15 i != 0) = some 15 ∧
       (let s := placed s 6 15
        (strandsOf 0x8000).find? (fun i => bindFault s 6 2 i != 0) = some 15 ∧
        (let s := s.modDie 6 fun d => { d with slots := vset d.slots 2 (some { img with dir := 2, latMax := 0 }) }
         (strandsOf 0x8000).find? (fun i => bindFault s 6 2 i != 0) = none))) ∧
    mramVerdict d3 = .allowed ∧ mramVerdict { d3 with thm := { d3.thm with win := .closed } } = .refused := by decide

theorem loadIn_canonical : (loading 1 15 0 (putImage .load (6 * 2 ^ 24) 0x758E86E2 d0)).Canonical := ⟨by decide, by decide⟩

theorem witness_LoaderEnds_image :
    (let s := putImage .load (6 * 2 ^ 24) 0x758E86E2 d0
     streamFault (loadBuffer s 6) = 0 ∧ field (loadBuffer s 6) 0x0C 4 = 1 ∧ field (loadBuffer s 6) 0x10 4 = 0 ∧
       fitRun 0x8000 1 (progRuns (otherImages s 6 (some 15))) = some 0 ∧
       fitRun 0x800 0 (coefRuns (otherImages s 6 (some 15))) = some 0) ∧
    streamFault (loadBuffer (putImage .load (6 * 2 ^ 24) 0x758E86E3 d0) 6) = 2 := by decide +kernel

/-! ## Withy instructions -/

/-- The upper half of an instruction word (R253). -/
def upper (op pred d a b m : Nat) : Word :=
  mkWord [(31, 26, op), (25, 24, pred), (23, 19, d), (18, 14, a), (13, 9, b), (8, 0, m)]

/-- Strand 7 of die 6 executing one instruction. -/
def exS (hi lo : Word) : State := writeWord .prog (6 * 2 ^ 24) lo (writeWord .prog (6 * 2 ^ 24 + 4) hi d6)

/-- Coil 23 executing one instruction on its core. -/
def exC (hi lo : Word) : State :=
  { (writeWord .coilProg 0 lo (writeWord .coilProg 4 hi (d0.modCoil 23 fun q =>
      { q with st := .running, image := some ⟨0, 1, 1, 0⟩, job := .released, ctx := { q.ctx with running := true } }))) with
    coreQ := vset d0.coreQ (coilCore d0 23) [23] }

/-- The conditions of Executes on the word that is there, as a test. -/
def executesB (x : Ctx) (n : WOp) (s : State) : Bool :=
  ctxRuns s x && match wfetch s x with | none => false | some w => wname w == some n && predHolds (ctxSc s x) w.pred

theorem executes_of {x : Ctx} {n : WOp} {s : State} (h : executesB x n s = true) : ∃ w, Executes x n w s := by
  simp only [executesB, Bool.and_eq_true] at h
  revert h
  cases hw : wfetch s x with
  | none => simp
  | some w =>
    intro h
    simp only [Bool.and_eq_true, beq_iff_eq] at h
    exact ⟨w, h.1, hw, h.2.1, h.2.2⟩

theorem witness_Withy_moves :
    ∀ p ∈ [(WOp.rdin, upper 0 0 31 0 0 0, (3 : Word)), (.wrout, upper 1 0 0 0 31 0, 3), (.mov, upper 2 0 1 2 0 0, 0),
      (.amov, upper 2 0 7 6 0 1, 0), (.smov, upper 2 0 7 15 0 2, 0), (.lds, upper 3 0 7 0 0 0, 0xFFFFFFFF),
      (.ldc, upper 4 0 0 0 0 0, 511), (.vsplat, upper 5 0 0 15 0 0, 0), (.stat, upper 6 0 0 0 0 0, 0),
      (.vget, upper 7 0 0 31 0 0, 15), (.vadd, upper 0x10 0 1 2 3 0, 0), (.vsub, upper 0x11 0 1 2 3 0, 0),
      (.vcmul, upper 0x12 0 1 2 3 0, 0), (.vcmulc, upper 0x12 0 1 2 3 1, 0), (.vmac, upper 0x13 0 7 2 3 0, 0),
      (.vmacc, upper 0x13 0 7 2 3 1, 0), (.vmul, upper 0x13 0 7 2 3 2, 0), (.vmulc, upper 0x13 0 7 2 3 3, 0),
      (.vpack, upper 0x14 0 1 7 0 0, 8), (.vshf, upper 0x15 0 1 2 0 0, 23), (.vconj, upper 0x16 0 1 2 0 0, 0),
      (.vneg, upper 0x16 0 1 2 0 1, 0), (.vmulj, upper 0x16 0 1 2 0 2, 0), (.vswap, upper 0x16 0 1 2 0 3, 0),
      (.vscl, upper 0x17 0 1 2 3 0, 0)], executesB (.strand 6 7) p.1 (exS p.2.1 p.2.2) = true := by decide

theorem witness_Withy_scalars :
    ∀ p ∈ [(WOp.saddi, upper 0x18 0 1 2 0 0, (0x80000000 : Word)), (.smax, upper 0x19 0 1 2 3 0, 0), (.smin, upper 0x19 0 1 2 3 1, 0),
      (.sadd, upper 0x1A 0 1 2 3 0, 0), (.ssub, upper 0x1A 0 1 2 3 1, 0), (.sand, upper 0x1A 0 1 2 3 2, 0),
      (.sor, upper 0x1A 0 1 2 3 3, 0), (.sxor, upper 0x1A 0 1 2 3 4, 0), (.sshl, upper 0x1A 0 1 2 3 5, 0),
      (.sshr, upper 0x1A 0 1 2 3 6, 0), (.slsr, upper 0x1A 0 1 2 3 7, 0), (.smul, upper 0x1B 0 1 2 3 31, 0),
      (.stest, upper 0x1E 0 1 2 0 0, 31), (.scmp, upper 0x1F 0 1 2 0 5, 0), (.sdb, upper 0x34 0 1 2 0 0, 0),
      (.loop, upper 0x3C 0 0 0 0 0, 65535), (.endLoop, upper 0x3D 0 0 0 0 0, 0), (.event, upper 0x3E 0 0 15 0 0, 65535),
      (.halt, upper 0x3F 0 0 0 0 0, 0)],
      executesB (.strand 6 7) p.1 (exS p.2.1 p.2.2) = true ∧ executesB (.coil 23) p.1 (exC p.2.1 p.2.2) = true := by decide

theorem witness_Withy_units :
    ∀ p ∈ [(WOp.vrot, upper 0x20 0 1 2 3 0, (0 : Word)), (.rset, upper 0x21 0 0 2 0 0, 0), (.rstep, upper 0x21 0 0 2 0 1, 0),
      (.vfir, upper 0x22 0 1 2 0 0, 0x3000), (.vfrac, upper 0x23 0 1 2 3 0, 3), (.cres, upper 0x28 0 1 0 0 0, 3),
      (.cest, upper 0x29 0 1 0 0 0, 3), (.gtrip, upper 0x2A 0 0 0 0 0, 0), (.cref, upper 0x2B 0 1 0 0 0, 0x103),
      (.gmon, upper 0x2C 0 1 0 0 0, 0), (.vpeak, upper 0x30 0 1 2 0 0, 0), (.vpow, upper 0x31 0 1 2 0 0, 0),
      (.vcnt, upper 0x32 0 1 2 3 0, 0), (.env, upper 0x33 0 0 2 0 0, 255), (.frecv, upper 0x38 0 1 0 0 0, 0x303),
      (.msend, upper 0x39 0 0 0 0 0, 0x300), (.mrecv, upper 0x3A 0 1 0 0 0, 0x307)],
      executesB (.strand 6 7) p.1 (exS p.2.1 p.2.2) = true := by decide

theorem witness_Withy_loop :
    ∀ p ∈ [(WOp.xmov, upper 2 0 1 15 0 3, (0 : Word)), (.ldx, upper 8 0 15 0 0 0, 0x80000000), (.xin, upper 9 0 1 0 0 0, 10),
      (.xout, upper 0xA 0 0 1 0 0, 2), (.xtab, upper 0xB 0 1 2 0 0, 1), (.xfroms, upper 0xC 0 1 2 0 0, 0),
      (.sfromx, upper 0xC 0 1 2 0 1, 0), (.xcmp, upper 0x1C 0 1 2 3 3, 0), (.xadd, upper 0x1D 0 1 2 3 0, 0),
      (.xsub, upper 0x1D 0 1 2 3 1, 0), (.xmul, upper 0x1D 0 1 2 3 2, 0), (.xmin, upper 0x1D 0 1 2 3 3, 0),
      (.xmax, upper 0x1D 0 1 2 3 4, 0), (.xabs, upper 0x1D 0 1 2 0 5, 0), (.xneg, upper 0x1D 0 1 2 0 6, 0),
      (.xclmp, upper 0x1D 0 1 2 3 7, 0)], executesB (.coil 23) p.1 (exC p.2.1 p.2.2) = true := by decide

/-- An instruction whose predicate is false: VADD if p0 with p0 false. -/
theorem witness_FalsePredicates :
    (let s := exS (upper 0x10 1 1 2 3 0) 0
     ctxRuns s (.strand 6 7) = true ∧ (wfetch s (.strand 6 7)).map wname = some (some .vadd) ∧
       (wfetch s (.strand 6 7)).map (fun w => predHolds (ctxSc s (.strand 6 7)) w.pred) = some false) := by decide

theorem witness_WithyControl :
    ctxSc (modSc (.strand 6 7) (fun c => { c with loops := [(1, 2)], pc := 0 }) (exS (upper 0x3D 0 0 0 0 0) 0)) (.strand 6 7) =
      { (WScalar.zero) with loops := [(1, 2)], running := true } ∧ isReceiverNow d6 6 7 = true ∧ (d6.guard 6 7).phase = .armed := by
  decide

/-! ## Ports, the scan receiver and coexistence -/

/-- Port 3 of die 6 in Receive with the PLL locked, the window of its die's reading fresh. -/
def d7 : State :=
  let s := (d0.modPort 6 3 fun p => { p with st := .receive, target := .receive }).modDie 6 fun d =>
    { d with pllRun := true, pllLock := true }
  { s with thm := { s.thm with dies := vmod s.thm.dies 7 fun x =>
    { x with st := .normal, past := [⟨0, false, 600, 0, false⟩], lastAt := some 0 } } }

theorem witness_PortCommands :
    (let s := d7.modPort 6 3 fun p => { p with inProg := some .receive }
     Admits .host ⟨.PRC_CTRL, 6, 3, 0⟩ 4 s ∧ portStateOf (fld (4 : Word) 2 0) = .transmit ∧ (s.port 6 3).inProg ≠ none) ∧
    (Admits .host ⟨.PRC_CTRL, 6, 3, 0⟩ 3 d7 ∧ portStateOf (fld (3 : Word) 2 0) = .receive ∧ (d7.port 6 3).st = .receive ∧
      (d7.port 6 3).target = .receive ∧ (d7.port 6 3).inProg = none ∧ (d7.port 6 3).moving = none ∧ (d7.port 6 3).parked = false) ∧
    (let s := d7.modPort 6 3 fun p => { p with pend := some (.transmit, false) }
     (s.port 6 3).pend = some (.transmit, false) ∧ (s.port 6 3).inProg = none ∧ s.handle.versionHeld = false ∧ s.thm.hold = false ∧
       freshReading s 6 = some true ∧ nextState (s.port 6 3).st .transmit = some .transmit ∧ coexBars s 6 3 = false ∧
       (s.dies[(6 : DieIx)]).pllLock = true ∧ (s.port 6 3).dutyHold = false) ∧
    (let s := d7.modPort 6 3 fun p => { p with pend := some (.transmit, false) }
     let s := { s with handle := { s.handle with versionHeld := true } }
     (s.port 6 3).pend = some (.transmit, false) ∧ (s.port 6 3).inProg = none ∧ s.handle.versionHeld = true) ∧
    (let s := d7.modPort 6 3 fun p => { p with pend := some (.transmit, false) }
     let s := { s with thm := { s.thm with hold := true } }
     (s.port 6 3).pend = some (.transmit, false) ∧ (s.port 6 3).inProg = none ∧ s.handle.versionHeld = false ∧ s.thm.hold = true) ∧
    (let s := d7.modPort 6 3 fun p => { p with pend := some (.transmit, false) }
     let s := { s with thm := { s.thm with dies := vmod s.thm.dies 7 fun x => { x with broken := true } } }
     (s.port 6 3).pend = some (.transmit, false) ∧ s.thm.hold = false ∧ freshReading s 6 = some false) ∧
    (let s := d7.modPort 6 3 fun p => { p with pend := some (.transmit, false) }
     let s := s.modDie 6 fun d => { d with pllLock := false }
     (s.port 6 3).pend = some (.transmit, false) ∧ (s.dies[(6 : DieIx)]).pllLock = false ∧ coexBars s 6 3 = false) ∧
    (let s := d7.modPort 6 3 fun p => { p with pend := some (.standby, false), st := .transmit, target := .transmit, paen := true }
     (s.port 6 3).pend = some (.standby, false) ∧ nextState .transmit .standby = some .synthOn ∧ (s.port 6 3).st = .transmit) ∧
    (let s := d7.modPort 6 3 fun p => { p with pend := some (.receive, true) }
     (s.port 6 3).pend = some (.receive, true) ∧ (s.port 6 3).moving = none ∧ (s.port 6 3).st = .receive) ∧
    (let s := (d7.modPort 6 3 fun p => { p with moving := some .transmit, inProg := some .transmit }).modDie 6 fun d =>
       { d with pllLock := false }
     (s.port 6 3).moving = some .transmit ∧ (s.dies[(6 : DieIx)]).pllLock = false) ∧
    (let s := d0.modPort 6 3 fun p => { p with pend := some (.receive, true), st := .standby }
     (s.port 6 3).pend = some (.receive, true) ∧ nextState (s.port 6 3).st .receive = some .synthOn ∧ (s.port 6 3).moving = none) ∧
    (let s := d7.modPort 6 3 fun p => { p with moving := some .transmit, inProg := some .transmit }
     (s.port 6 3).moving = some .transmit ∧ (s.dies[(6 : DieIx)]).pllLock = true ∧ (s.port 6 3).inProg = some .transmit ∧
       isDuplex s 6 3 = false) ∧
    (let s := d7.modPort 6 3 fun p => { p with st := .sleep, moving := some .standby, inProg := some .receive }
     (s.port 6 3).moving = some .standby ∧ nextState .standby .receive = some .synthOn) := by
  and_intros <;> first | exact admits_of (by decide) | decide

/-- Uplink strand 15 of die 6 sending to donor port 0, with tuning on, and the scan receiver at its tuner. -/
def dT : State := (sending (running (set d7 .PRC_CTRL 6 0 0x100) 6 15) 6 15).modScan 6 fun x => { x with task := 4, st := .receive }

theorem witness_PllRffeAndTuner :
    (let s := d0.modDie 6 fun d => { d with pllRun := true }
     (s.dies[(6 : DieIx)]).pllRun = true ∧ (s.dies[(6 : DieIx)]).pllLock = false ∧ s.pwr.refLong = false) ∧
    (let s := (d0.modDie 6 fun d => { d with pllRun := true }).modPort 6 3 fun p =>
       { p with st := .standby, moving := some .synthOn, inProg := some .transmit }
     (s.port 6 3).inProg = some .transmit ∧ (s.dies[(6 : DieIx)]).pllLock = false ∧ (s.port 6 3).moving = some .synthOn ∧
       (s.port 6 3).st = .standby) ∧
    (d7.dies[(6 : DieIx)]).pllLock = true ∧ pllNeeded d0 6 = false ∧ pllNeeded d7 6 = true ∧
    (let s := d7.modPort 6 3 fun p => { p with st := .transmit, target := .transmit, paen := true }
     (s.port 6 3).st = .transmit ∧ (s.port 6 3).pend = none ∧ (s.port 6 3).inProg = none) ∧
    (let s := d7.modPort 6 3 fun p => { p with st := .transmit, target := .transmit, paen := true, inProg := some .sleep }
     (s.port 6 3).st = .transmit ∧ (s.port 6 3).pend = none ∧ (s.port 6 3).inProg = some .sleep) ∧
    (let s := d7.modPort 6 3 fun p => { p with moving := some .transmit }
     (s.port 6 3).st ≠ .transmit ∧ (s.port 6 3).moving = some .transmit) ∧
    (let s := set (set d0 .RFFE_CFG 6 0 0x100) .RFFE_CMD 6 0 0x02310005
     Admits .host ⟨.RFFE_CMD, 6, 0, 0⟩ (bitsWord ⟨.RFFE_CMD, 6, 0, 0⟩ 0x80000000 0 s) s ∧ bit (s.cfg1 .RFFE_CFG 6) 8 = true) ∧
    (Admits .host ⟨.RFFE_CMD, 6, 0, 0⟩ (bitsWord ⟨.RFFE_CMD, 6, 0, 0⟩ 0x80000000 0 d0) d0 ∧ d0.Canonical) ∧
    (let s := d0.modRffe 6 fun r => { r with busy := some (true, ⟨4, 2, true, 7, 0⟩) }
     (s.dies[(6 : DieIx)]).rffe.busy = some (true, ⟨4, 2, true, 7, 0⟩) ∧ (s.dies[(6 : DieIx)]).rffe.owed = []) ∧
    (let s := d0.modRffe 6 fun r => { r with busy := some (true, ⟨3, 2, false, 7, 0⟩), owed := [⟨2, 1, false, 5, 9⟩] }
     (s.dies[(6 : DieIx)]).rffe.busy = some (true, ⟨3, 2, false, 7, 0⟩) ∧ (s.dies[(6 : DieIx)]).rffe.owed = [⟨2, 1, false, 5, 9⟩]) ∧
    (let s := d0.modRffe 6 fun r => { r with busy := some (false, ⟨1, 2, false, 7, 0⟩) }
     (s.dies[(6 : DieIx)]).rffe.busy = some (false, ⟨1, 2, false, 7, 0⟩)) ∧
    (tuneOn dT 6 0 = true ∧ uplinksOf dT 6 0 ≠ [] ∧ (uplinksOf dT 6 0).all (ugClosed dT 6) = true ∧ tunerTask dT 6 = true ∧ tunerTask d7 6 = false ∧
      (uplinksOf (set dT .UG_CFG 6 15 0) 6 0).all (ugClosed (set dT .UG_CFG 6 15 0) 6) = false) ∧
    (let s := (set dT .UG_CFG 6 15 0x80000000).modPort 6 0 fun p => { p with wantSearch := true }
     (s.port 6 0).wantSearch = true ∧ (s.port 6 0).search = none ∧ (∀ i, (s.canc 6 i).pathCap = false) ∧ tuneOn s 6 0 = true ∧
       (uplinksOf s 6 0).all (ugClosed s 6) = true ∧ tunerTask s 6 = true) ∧
    (let s := (set dT .UG_CFG 6 15 0x80000000).modPort 6 0 fun p => { p with wantSearch := true }
     let s := s.modRffe 6 fun r => { r with busy := some (true, ⟨4, 2, true, 7, 0⟩) }
     (s.port 6 0).wantSearch = true ∧ tuneOn s 6 0 = true ∧ tunerTask s 6 = true ∧
       (s.dies[(6 : DieIx)]).rffe.busy = some (true, ⟨4, 2, true, 7, 0⟩)) ∧
    (let s := set dT .UG_CFG 6 15 0
     tunerTask s 6 = true ∧ (-4501 : Int) < -4500 ∧ (uplinksOf s 6 0).all (ugClosed s 6) = false) ∧
    (let s := (set dT .TUNE_CFG 6 0 0x03000000).modPort 6 0 fun p => { p with search := some ⟨0, none, 2⟩ }
     (s.port 6 0).search = some ⟨0, none, 2⟩ ∧ 0 + 1 < fld (s.cfg2 .TUNE_CFG 6 0) 27 24) ∧
    (let s := (set dT .TUNE_CFG 6 0 0x03000000).modPort 6 0 fun p => { p with search := some ⟨1, some (0, 100), 2⟩ }
     (s.port 6 0).search = some ⟨1, some (0, 100), 2⟩ ∧ 1 + 1 < fld (s.cfg2 .TUNE_CFG 6 0) 27 24) ∧
    (let s := dT.modPort 6 0 fun p => { p with search := some ⟨0, some (0, 100), 0⟩ }
     (s.port 6 0).search = some ⟨0, some (0, 100), 0⟩ ∧ fld (s.cfg2 .TUNE_CFG 6 0) 27 24 = 1) := by
  and_intros <;> first | exact admits_of (by decide) | exact ⟨by decide, by decide⟩ | decide

theorem witness_ScanAndCoexistence :
    (let s := set d0 .SCAN_REQ 6 0 600000
     Admits .host ⟨.SCAN_REQ, 6, 0, 0⟩ (bitsWord ⟨.SCAN_REQ, 6, 0, 0⟩ 0x80000000 0 s) s ∧ (s.dies[(6 : DieIx)]).scan.reqOn = false) ∧
    (let s := (set d0 .SCAN_REQ 6 0 600000).modScan 6 fun x => { x with reqOn := true, task := 5, moving := some .standby }
     Admits .host ⟨.SCAN_REQ, 6, 0, 0⟩ (bitsWord ⟨.SCAN_REQ, 6, 0, 0⟩ 0x40000000 0 s) s ∧ (s.dies[(6 : DieIx)]).scan.reqOn = true ∧
       (s.dies[(6 : DieIx)]).scan.task ≠ 0 ∧ (s.dies[(6 : DieIx)]).scan.moving = some .standby) ∧
    (let s := d0.modScan 6 fun x => { x with reqOn := true, calDue := true }
     dueTask s 6 = 5 ∧ (s.dies[(6 : DieIx)]).scan.task = 0) ∧
    (let s := d0.modScan 6 fun x => { x with task := 6, st := .transmit, calDue := true }
     (s.dies[(6 : DieIx)]).scan.task = 6 ∧ (s.dies[(6 : DieIx)]).scan.st = .transmit ∧ (s.dies[(6 : DieIx)]).scan.moving = none ∧
       6 ≤ dueTask s 6) ∧
    (let s := d0.modScan 6 fun x => { x with task := 6, st := .transmit, calDue := true, reqOn := true }
     (s.dies[(6 : DieIx)]).scan.task = 6 ∧ (s.dies[(6 : DieIx)]).scan.st = .transmit ∧ dueTask s 6 < 6) ∧
    (let s := d5.modScan 6 fun x => { x with reqOn := true, task := 5, tddDue := true }
     (s.dies[(6 : DieIx)]).scan.task = 5 ∧ dueTask (s.modDie 6 fun d => { d with scan := { d.scan with tddDue := true } }) 6 ≤ 2) ∧
    (let s := ({ d0 with time := { d0.time with ft := 60 * 10 ^ 9 } }).modScan 6 fun x => { x with calOnce := true }
     (s.dies[(6 : DieIx)]).scan.calOnce = true ∧ (s.dies[(6 : DieIx)]).scan.imgRej < 6000 ∧
       (s.dies[(6 : DieIx)]).scan.calTime + 60 * 10 ^ 9 ≤ s.time.ft) ∧
    (let s := (set (set d0 .COEX_CFG 0 0 0x60000000) .COEX_PORTS 0 0 0x08000000).modPort 6 3 fun p =>
       { p with st := .transmit, target := .transmit, paen := true }
     coexRole s = 1 ∧ s.coex.gnt = false ∧ coexMasked s 6 3 = true ∧ (s.dies[(6 : DieIx)]).laneLost = false ∧
       (s.port 6 3).st = .transmit ∧ (s.port 6 3).moving = none ∧ coexMasked s 6 2 = false) ∧
    (let s := (set (set d0 .COEX_CFG 0 0 0x80000000) .COEX_PORTS 0 0 0x08000000).modPort 6 3 fun p =>
       { p with st := .transmit, target := .transmit, paen := true }
     let s := { s with coex := { s.coex with waiting := true, req := true, granting := true } }
     coexRole s = 2 ∧ s.coex.waiting = true ∧ s.coex.req = true ∧ s.coex.granting = true ∧ coexMasked s 6 3 = true ∧
       (s.port 6 3).st = .transmit) ∧
    (let s := (set (set d0 .COEX_CFG 0 0 0x80000000) .COEX_PORTS 0 0 0x08000000).modDie 6 fun d => { d with laneLost := true }
     coexRole s = 2 ∧ coexMasked s 6 3 = true ∧ (s.dies[(6 : DieIx)]).laneLost = true) ∧
    (let s := set (set d3 .COEX_CFG 0 0 0x80000000) .COEX_PORTS 0 0 0x04000000
     let s := (set (set s .LEAN_CFG 6 3 0x8000000A) .LEAN_MASK 6 3 0x80).modLean 6 3 fun x => { x with burst := some 0 }
     coexRole s = 2 ∧ wakeCoex s = s ∧ coexWindow s = true) := by
  and_intros <;> first | exact admits_of (by decide) | decide

/-! ## The coil engine -/

/-- Auxiliary coil 23, stopped, with an image, pair 47 enabled and limits in order. -/
def d8 : State :=
  let s := set (set d0 .COIL_CFG 23 0 (mkWord [(29, 28, 3), (27, 24, 1), (21, 16, 47), (14, 12, 1)])) .SP_MAX 23 0 65536
  let s := set (set (set s .SLEW_UP 23 0 1) .SLEW_DN 23 0 1) .DUTY_LIM 23 0 0xFFFF0000
  let s := set s .COIL_SENSE 23 0 0x003F3F2F
  (s.modPair 47 fun p => { p with en := true, shPeriod := 1000 }).modCoil 23 fun q => { q with image := some ⟨0, 1, 1, 0⟩ }

/-- Supply coil 13 with the same settings, in VERSION_HELD. -/
def dS : State :=
  let s := set (set d0 .COIL_CFG 13 0 (mkWord [(29, 28, 3), (27, 24, 1), (21, 16, 47), (14, 12, 1)])) .SP_MAX 13 0 65536
  let s := set (set (set s .SLEW_UP 13 0 1) .SLEW_DN 13 0 1) .DUTY_LIM 13 0 0xFFFF0000
  let s := set s .COIL_SENSE 13 0 0x003F3F2F
  let s := (s.modPair 47 fun p => { p with en := true, shPeriod := 1000 }).modCoil 13 fun q => { q with image := some ⟨0, 1, 1, 0⟩ }
  { s with handle := { s.handle with versionHeld := true } }

/-- Words of the smallest loop image of class 3, by R234 and R358. -/
def putLoop (crc : Nat) (s : State) : State :=
  [(0, 0x32495957), (4, 0x00010002), (8, 256), (12, 1), (0x14, 0x03000000), (0x18, 1), (0xFC, crc), (0x104, 0xFC000000)].foldl
    (fun s p => writeWord .coilLoad p.1 (BitVec.ofNat 32 p.2) s) s

/-- A coil loader command in progress for coil 23. -/
def coilBusy (op : Nat) (s : State) : State := { s with coilLdr := { s.coilLdr with busy := some ⟨op, 23, 0, 0, false, 0, .host⟩ } }

theorem witness_CoilCommands :
    d8.Canonical ∧ d8.coilLdr.busy = none ∧
    (∀ p ∈ [(1, 23, 0), (2, 23, 31), (4, 23, 0), (3, 0, 31)],
      admitsB .host ⟨.COIL_CMD, 0, 0, 0⟩ (coilWord p.1 p.2.1 p.2.2) d8 = true) ∧
    (let s := (coilBusy 1 d8).modCoil 23 fun q => { q with st := .running }
     s.coilLdr.busy = some ⟨1, 23, 0, 0, false, 0, .host⟩ ∧ handleWorks s = true ∧ Fin.ofNat 24 23 = (23 : CoilIx) ∧
       (s.coils[(23 : CoilIx)]).st ≠ .stopped) ∧
    ((coilBusy 2 d8).coils[(23 : CoilIx)]).st = .stopped ∧ loopFault (libBytes (coilBusy 2 d8) 0) = 1 ∧
    (Admits .host ⟨.COIL_CTRL, 23, 0, 0⟩ (bitsWord ⟨.COIL_CTRL, 23, 0, 0⟩ 1 0 d8) d8 ∧ coilChecks d8 23 = (.ok, some 0) ∧
      (d8.coils[(23 : CoilIx)]).st = .stopped) ∧
    (Admits .host ⟨.COIL_CTRL, 23, 0, 0⟩ (bitsWord ⟨.COIL_CTRL, 23, 0, 0⟩ 1 0 d0) d0 ∧ coilChecks d0 23 = (.badProgram, some 1) ∧
      (d0.coils[(23 : CoilIx)]).image = none) ∧
    (Admits .host ⟨.COIL_CTRL, 13, 0, 0⟩ (bitsWord ⟨.COIL_CTRL, 13, 0, 0⟩ 1 0 dS) dS ∧ (dS.coils[(13 : CoilIx)]).st = .stopped ∧
      coilLoading dS 13 = false ∧ coilChecks dS 13 = (.versionHeld, none)) ∧
    (let s := coilBusy 1 d8
     Admits .host ⟨.COIL_CTRL, 23, 0, 0⟩ (bitsWord ⟨.COIL_CTRL, 23, 0, 0⟩ 1 0 s) s ∧ (s.coils[(23 : CoilIx)]).st = .stopped ∧
       coilLoading s 23 = true) ∧
    (Admits .host ⟨.COIL_CTRL, 23, 0, 0⟩ (bitsWord ⟨.COIL_CTRL, 23, 0, 0⟩ 2 0 d8) d8 ∧ (d8.coils[(23 : CoilIx)]).st = .stopped) ∧
    (let s := d8.modCoil 23 fun q => { q with st := .running }
     Admits .host ⟨.COIL_CTRL, 23, 0, 0⟩ (bitsWord ⟨.COIL_CTRL, 23, 0, 0⟩ 2 0 s) s ∧ coilPort 23 = none ∧
       Admits .host ⟨.COIL_PCTRL, 23, 0, 0⟩ 1 s) ∧
    (let s := (d7.modCoil 13 fun q => { q with st := .running }).modPort 6 3 fun p => { p with st := .transmit }
     Admits .host ⟨.COIL_CTRL, 13, 0, 0⟩ (bitsWord ⟨.COIL_CTRL, 13, 0, 0⟩ 2 0 s) s ∧ coilPort 13 = some (6, 3) ∧
       (s.port 6 3).st = .transmit) ∧
    (Admits .host ⟨.TRACE_CFG, 23, 0, 0⟩ (bitsWord ⟨.TRACE_CFG, 23, 0, 0⟩ 0x80000000 0 d8) d8 ∧
      Admits .host ⟨.TRACE_CFG, 23, 0, 0⟩ (bitsWord ⟨.TRACE_CFG, 23, 0, 0⟩ 0x40000000 0 d8) d8 ∧
      (d8.coils[(23 : CoilIx)]).trace.st ≠ .armed) ∧
    (let s := (set d8 .TRACE_CFG 23 0 0x20000000).modCoil 23 fun q => { q with trace := ⟨.armed, 0, 0, 0, 0⟩ }
     Admits .host ⟨.TRACE_CFG, 23, 0, 0⟩ (bitsWord ⟨.TRACE_CFG, 23, 0, 0⟩ 0x40000000 0 s) s ∧
       (s.coils[(23 : CoilIx)]).trace.st = .armed ∧ bit (s.cfg1 .TRACE_CFG 23) 29 = true) := by
  and_intros <;> first | exact admits_of (by decide) | exact ⟨by decide, by decide⟩ | decide

theorem witness_CoilCommands_image :
    (let s := putLoop 0x6A7ABC71 d8
     loopFault (coilLoadBuffer s) = 0 ∧ field (coilLoadBuffer s) 0x17 1 = coilClass 23 ∧ coilClass 13 ≠ 3 ∧
       loopPortsOk 3 (imageWords (coilLoadBuffer s)) = true ∧ coilUnfitted s 23 = false ∧
       fitRun 8192 1 (coilRuns s (some 23)) = some 0) ∧ loopFault (coilLoadBuffer (putLoop 0x6A7ABC70 d8)) = 2 := by
  decide +kernel

theorem witness_CoilPeriod :
    (let s := d8.modCoil 23 fun q => { q with st := .running, stopWait := true }
     (s.coils[(23 : CoilIx)]).job ≠ .released ∧ (s.coils[(23 : CoilIx)]).st ≠ .stopped ∧ (s.coils[(23 : CoilIx)]).stopWait = true) ∧
    (d8.coils[(23 : CoilIx)]).stopWait = false ∧ bit (d8.cfg1 .COIL_CFG 23) 1 = false ∧ fld (d8.cfg1 .COIL_SENSE 23) 5 0 = 47 ∧
    (let s := d8.modCoil 23 fun q => { q with st := .starting }
     (s.coils[(23 : CoilIx)]).st = .starting ∧ coilClass 23 ≠ 2 ∧ coilClass 23 ≠ 0) ∧
    (let s := d8.modCoil 23 fun q => { q with st := .running }
     (s.coils[(23 : CoilIx)]).st = .running ∧ (s.coils[(23 : CoilIx)]).job = .idle ∧ s.coreQ[coilCore s 23] = []) ∧
    (let s := (dS.modCoil 13 fun q => { q with st := .running }).modCoil 23 fun q => { q with st := .running, job := .released }
     let s := { s with coreQ := vset s.coreQ 3 [23] }
     (s.coils[(13 : CoilIx)]).st = .running ∧ (s.coils[(13 : CoilIx)]).job = .idle ∧ s.coreQ[coilCore s 13] = [] ++ [23] ∧
       coreCycle (s.coils[(23 : CoilIx)]).relAt = coreCycle s.time.ft ∧ (s.coils[(23 : CoilIx)]).ctx.pc = 0) ∧
    (executesB (.coil 23) .halt (exC (upper 0x3F 0 0 0 0 0) 0) = true ∧
      ((exC (upper 0x3F 0 0 0 0 0) 0).lash.srcs[srcOf (128 + 23)]).sev < 4) ∧
    (let s := d8.modCoil 23 fun q => { q with st := .running, job := .released }
     (s.coils[(23 : CoilIx)]).job = .released ∧ srcSeen (srcOf 3) s = true ∧ (s.lash.srcs[srcOf 3]).sev < 4 ∧
       (s.lash.srcs[srcOf (128 + 23)]).sev < 4 ∧ boundPairs 23 s = [47]) := by decide

/-! ## Plait -/

theorem witness_PlaitPairs :
    (let s := d8.modPair 47 fun p => { p with next := some 5 }
     (s.pairs[(47 : PairIx)]).en = true ∧ (s.pairs[(47 : PairIx)]).next = some 5 ∧ s.plait.hostReq = 0 ∧
       (∀ c : CoilIx, (s.coils[c]).loadReq = false) ∧ Nat.land s.plait.tripIn (tripMask s 47) = 0) ∧
    ((d8.pairs[(47 : PairIx)]).next = none ∧ (d8.pairs[(47 : PairIx)]).bound + 2 * (d8.pairs[(47 : PairIx)]).period = 120) ∧
    (let s := { d8 with plait := { d8.plait with hostReq := 2 ^ 47 } }
     lowestPair (2 ^ 47) = some 47 ∧ s.plait.hostReq = 2 ^ 47) ∧
    (let s := set d8 .PL_MASK1 0 0 0x8000
     Admits .host ⟨.PL_CMD, 0, 0, 0⟩ 1 s ∧ Admits .host ⟨.PL_CMD, 0, 0, 0⟩ 2 s ∧ maskPairs (hostMask s) = [47] ∧
       pairOwned s 47 = false ∧ s.plait.hostReq = 0) ∧
    (let s := (set d8 .PL_MASK1 0 0 0x8000).modCoil 23 fun q => { q with st := .running }
     Admits .host ⟨.PL_CMD, 0, 0, 0⟩ 1 s ∧ Admits .host ⟨.PL_CMD, 0, 0, 0⟩ 2 s ∧ pairOwned s 47 = true) ∧
    (Admits .host ⟨.PAIR_CTRL, 47, 0, 0⟩ (bitsWord ⟨.PAIR_CTRL, 47, 0, 0⟩ 1 0 d8) d8 ∧ d8.Canonical ∧
      Admits .host ⟨.PAIR_CTRL, 47, 0, 0⟩ (bitsWord ⟨.PAIR_CTRL, 47, 0, 0⟩ 0 1 d8) d8 ∧
      Admits .host ⟨.PAIR_CTRL, 47, 0, 0⟩ (bitsWord ⟨.PAIR_CTRL, 47, 0, 0⟩ 0x10000 0 d8) d8 ∧
      (d8.pairs[(47 : PairIx)]).latched = false) ∧
    (let s := (set d8 .PAIR_TRIP 47 0 0x000101FF).modPair 47 fun p => { p with latched := true }
     Admits .host ⟨.PAIR_CTRL, 47, 0, 0⟩ (bitsWord ⟨.PAIR_CTRL, 47, 0, 0⟩ 0x10000 0 s) s ∧
       (s.pairs[(47 : PairIx)]).latched = true ∧ Nat.land s.plait.tripIn (tripMask s 47) = 0) ∧
    (let s := (set { d8 with plait := { d8.plait with tripIn := 128 } } .PAIR_TRIP 47 0 0x000101FF).modPair 47 fun p =>
       { p with latched := true }
     Admits .host ⟨.PAIR_CTRL, 47, 0, 0⟩ (bitsWord ⟨.PAIR_CTRL, 47, 0, 0⟩ 0x10000 0 s) s ∧
       Nat.land s.plait.tripIn (tripMask s 47) ≠ 0 ∧ tripMask s 47 / 2 ^ 7 % 2 = 1) := by
  and_intros <;> first | exact admits_of (by decide) | exact ⟨by decide, by decide⟩ | decide

theorem witness_PlaitOutputs :
    (let p : Pair := { (d8.pairs[(47 : PairIx)]) with cald := true, dt := 3, sched := ⟨false, some 10, some 20⟩ }
     p.cald = true ∧ p.off = false ∧ p.cut = none ∧ p.sched.rise = some 10 ∧ (p.outputs 13).1 = true ∧ (p.outputs 12).1 = false ∧
       p.sched.fall = some 20 ∧ p.origin + 20 ≤ 23 ∧ (p.outputs 23).2 = true ∧ (p.outputs 22).2 = false) ∧
    (let p : Pair := { (d8.pairs[(47 : PairIx)]) with cut := some 5 }
     p.cut = some 5 ∧ p.origin + 5 ≤ 5) ∧
    (d8.plait.driven = false ∧ pairPins d8 47 0 = none) ∧
    (let s := (set d8 .PAIR_CTRL 47 0 0x400).modPair 47 fun p => { p with en := false }
     let s := { s with plait := { s.plait with driven := true } }
     s.plait.driven = true ∧ s.pwr.st ≠ .foot ∧ atSafe s 47 = true ∧ (s.pairs[(47 : PairIx)]).safeFrom.1 ≤ 0 ∧
       (s.pairs[(47 : PairIx)]).safeFrom.2 ≤ 0 ∧ pairPins s 47 0 = some (true, false)) ∧
    (let s := d8.modPair 47 fun p => { p with cald := true, sched := ⟨true, none, some 20⟩ }
     atSafe s 47 = false ∧ (pairOn s 47 (plaitFine s)).1 = true) ∧
    (let s := d8.modPair 47 fun p => { p with cald := true, sched := .low }
     atSafe s 47 = false ∧ (pairOn s 47 (plaitFine s)).2 = true) := by decide

/-! ## The wale fabric -/

/-- A device of address 1 with port 7 UP towards addresses 0 and 2; its root is another device. -/
def dW : State :=
  let s := d0.modWport 7 fun p => { p with st := .up }
  s.modWale fun x => { x with addr := 1, level := 1, upPort := 7, joined := true, root := ⟨2, true, 1⟩,
                              routes := vset (vset x.routes 2 7) 0 7 }

/-- The header of a request to address d. -/
def hdr (d : Fin 64) : WaleHdr := ⟨d, 2, false, 31, 255, 0, 7, 0, 0, 0⟩

/-- A header with the tag that verifies for its payload in a state. -/
def tagged (w : WaleIx) (h : WaleHdr) (resp : Bool) (p : List Byte) (s : State) : WaleHdr :=
  { h with tag := BitVec.ofNat 128 (gcmTag (s.wport w).keyRx ((s.wport w).nonce false) (frameBytes (frameOf h resp p) h.seq.val)) }

/-- LinkTakes and Serves of port 7 for a header with its tag. -/
def Taken (h : WaleHdr) (resp : Bool) (p : List Byte) (s : State) : Prop := LinkTakes 7 (tagged 7 h resp p s) resp p s
def Served (h : WaleHdr) (p : List Byte) (s : State) : Prop := Serves 7 (tagged 7 h false p s) p s

/-- The conditions of LinkTakes but the tag, as a test. -/
def takesB (w : WaleIx) (h : WaleHdr) (resp : Bool) (p : List Byte) (s : State) : Bool :=
  (s.wport w).st == .up && decide (p.length ≤ 256) && h.zeros == 0 && h.seq.val == ((s.wport w).chan resp).seqRx

theorem takes_of {h : WaleHdr} {resp : Bool} {p : List Byte} {s : State} (hb : takesB 7 h resp p s = true) :
    Taken h resp p s := by
  simp only [takesB, Bool.and_eq_true, beq_iff_eq, decide_eq_true_eq] at hb
  exact ⟨hb.1.1.1, hb.1.1.2, hb.1.2, beq_self_eq_true _, hb.2⟩

theorem serves_of {h : WaleHdr} {p : List Byte} {s : State}
    (hb : takesB 7 h false p s = true ∧ h.dst.val = s.wale.addr ∧ h.dst.val ≠ 63 ∧
      keptFor (linkTaken 7 h false s) (portFrame 7 h false p) = none) : Served h p s :=
  ⟨takes_of hb.1, hb.2.1, hb.2.2.1, hb.2.2.2⟩

/-- A tag that is one more than the one that verifies does not. -/
theorem wrong_tag (h : WaleHdr) (resp : Bool) (p : List Byte) (s : State) :
    frameOk s 7 (frameOf h resp p) h.seq.val ((tagged 7 h resp p s).tag + 1) = false := by
  simp [frameOk, tagged]

theorem witness_WalePort :
    (Admits .host ⟨.PORT_CTRL, 7, 0, 0⟩ (bitsWord ⟨.PORT_CTRL, 7, 0, 0⟩ 1 0 (clearSent d0)) (clearSent d0) ∧
      (d0.wport 7).st = .down ∧ d0.Canonical ∧ noHoldDown d0 7 = true) ∧
    (let s := d0.modWport 7 fun p => { p with lastUp := some 0 }
     Admits .host ⟨.PORT_CTRL, 7, 0, 0⟩ (bitsWord ⟨.PORT_CTRL, 7, 0, 0⟩ 1 0 (clearSent s)) (clearSent s) ∧
       noHoldDown s 7 = false) ∧
    (Admits .host ⟨.PORT_CTRL, 7, 0, 0⟩ (bitsWord ⟨.PORT_CTRL, 7, 0, 0⟩ 0 1 (clearSent dW)) (clearSent dW) ∧
      (dW.wport 7).st ≠ .down) ∧
    (let s := d0.modWport 7 fun p => { p with st := .train, trains := 63 }
     (s.wport 7).st = .train ∧ 64 ≤ (s.wport 7).trains + 1 ∧ s.lid.rngFail = false) ∧
    ((d0.modWport 7 fun p => { p with st := .train, trains := 62 }).wport 7).trains + 1 < 64 ∧
    (let s := d0.modWport 7 fun p => { p with st := .auth, hello := some ⟨3, 0, 0, 0⟩ }
     (s.wport 7).st = .auth ∧ (s.wport 7).hello = some ⟨3, 0, 0, 0⟩ ∧ certValid [] 3 = false ∧ (s.wport 7).authed = false) ∧
    (let s := d0.modWport 7 fun p => { p with st := .auth, authed := true, t1 := some 0, t3 := some 0, t4 := some 0 }
     (s.wport 7).authed = true ∧ (s.wport 7).t1 = some 0 ∧ (s.wport 7).t3 = some 0 ∧ (s.wport 7).t4 = some 0) ∧
    (let s := (set d0 .PORT_CTRL 7 0 1).modWport 7 fun p => { p with st := .authFail }
     (s.wport 7).st = .authFail ∧ portEn s 7 = true ∧ ((set d0 .PORT_CTRL 7 0 1).wport 7).st = .down ∧
       noHoldDown (set d0 .PORT_CTRL 7 0 1) 7 = true) ∧
    (let s := dW.modChan 7 true fun c => { c with unacked := [⟨frameOf (hdr 2) true [], 0, 4⟩] }
     ((s.wport 7).chan true).unacked = [⟨frameOf (hdr 2) true [], 0, 4⟩] ∧ (s.wport 7).st = .up) ∧
    (((dW.modChan 7 true fun c => { c with unacked := [⟨frameOf (hdr 2) true [], 0, 3⟩] }).wport 7).chan true).unacked =
      [⟨frameOf (hdr 2) true [], 0, 3⟩] ∧
    (let s := dW.modWport 7 fun p => { p with t1 := some 0, t3 := some 0, t4 := some 0 }
     (s.wport 7).st = .up ∧ s.wale.upPort = 7 ∧ s.wale.joined = true ∧ (s.wport 7).t1 = some 0 ∧
       (0 : Int) = 50 * (diff48 0 0 - diff48 0 0) - sfld (s.cfg1 .PORT_CTRL 7) 31 16) ∧
    (let s := (dW.modWport 7 fun p => { p with t1 := some 0, t3 := some 5, t4 := some 0 }).modWale fun x => { x with joined := false }
     let s := s.modDie 6 fun d => { d with armed := some (1, 0) }
     (s.wport 7).st = .up ∧ s.wale.upPort = 7 ∧ s.wale.joined = false ∧ (s.wport 7).t3 = some 5 ∧
       (s.dies[(6 : DieIx)]).armed = some (1, 0)) := by
  and_intros <;> first | exact admits_of (by decide) | exact ⟨by decide, by decide⟩ | decide

theorem witness_WaleFrames :
    (d0.wport 7).st ≠ .up ∧ (dW.wport 7).st = .up ∧ ({ hdr 1 with zeros := 16 } : WaleHdr).zeros ≠ 0 ∧
    (let h := tagged 7 { hdr 1 with seq := 1 } false ([1, 0, 0, 0] ++ wordBytes 0) dW
     h.seq.val ≠ ((dW.wport 7).chan false).seqRx ∧ h.zeros = 0 ∧
       frameOk dW 7 (frameOf h false ([1, 0, 0, 0] ++ wordBytes 0)) h.seq.val h.tag = true) ∧
    frameOk dW 7 (frameOf (hdr 1) false ([1, 0, 0, 0] ++ wordBytes 0)) (hdr 1).seq.val
      ((tagged 7 (hdr 1) false ([1, 0, 0, 0] ++ wordBytes 0) dW).tag + 1) = false ∧
    (5 ≤ field [(0x50 : Byte)] 0 1 / 16 ∧ field [(0x20 : Byte)] 0 1 / 16 < 5 ∧ field [(0x20 : Byte)] 0 1 / 16 ≠ 1) ∧
    Served (hdr 1) ([1, 0, 0, 0] ++ wordBytes 0x000E0000) dW ∧ ((hdr 1).host = true → (hdr 1).src.val = 0) ∧
    Served { hdr 1 with host := true } ([1, 0, 0, 0] ++ wordBytes 0x000E0000) dW ∧
    Served (hdr 1) ([2, 0, 0, 0] ++ wordBytes 0 ++ wordBytes 0) dW ∧ Served (hdr 1) ([3, 0, 0, 0] ++ List.replicate 252 0) dW ∧
    Served (hdr 1) ([4, 0, 0, 0] ++ wordBytes 0 ++ List.replicate 248 0) dW ∧
    (let s := dW.modWale fun x => { x with kept := [⟨2, 7, [], 0⟩] }
     Taken (hdr 1) false ([1, 0, 0, 0] ++ wordBytes 0) s ∧
       keptFor (linkTaken 7 (hdr 1) false s) (portFrame 7 (hdr 1) false ([1, 0, 0, 0] ++ wordBytes 0)) = some ⟨2, 7, [], 0⟩) ∧
    (Taken (hdr 0) false ([1, 0, 0, 0] ++ wordBytes 0) dW ∧ (hdr 0).dst.val ≠ dW.wale.addr ∧ 1 < (hdr 0).hops.val ∧
      routePort dW 0 = some 7) ∧
    (let s := d6.modDie 6 fun d => { d with slots := vset d.slots 2 (some { img with res := [⟨255, 2, 0, 0, false⟩] }) }
     (boundImage s 6 7).map (fun g => g.res[0]?) = some (some ⟨255, 2, 0, 0, false⟩) ∧ (s.strand 6 7).st ≠ .stopped) := by
  and_intros <;> first | exact wrong_tag _ _ _ _ | exact beq_self_eq_true _ | exact serves_of (by decide) | exact takes_of (by decide) | decide

/-- A transaction of the device towards address 2. -/
def txn0 (waiting : Bool) (n : Nat) : Txn := ⟨{ frameOf (hdr 2) false [1] with src := 1, from_ := 8 }, .cane 15, n, waiting, 0⟩

theorem witness_WaleFrames_transactions :
    (let s := dW.modWale fun x => { x with txns := [txn0 false 1] }
     Taken { hdr 1 with src := 2 } true [0] s ∧ findTxn s 7 2 = some (txn0 false 1) ∧ codeOf 0 ≠ .timeout) ∧
    codeOf 8 = .timeout ∧ isTransaction (txn0 false 8).f = true ∧ (txn0 false 8).attempts < 9 ∧
    (let t : Txn := { txn0 false 1 with owner := .strand 7 7, f := { (txn0 false 1).f with payload := [0x11] } }
     let s := dW.modWale fun x => { x with txns := [t] }
     findTxn s 7 2 = some t ∧ isTransaction t.f = false ∧ t.waiting = false ∧ t.owner ≠ .device) ∧
    (let s := dW.modWale fun x => { x with txns := [txn0 false 9] }
     findTxn s 7 2 = some (txn0 false 9) ∧ 9 ≤ (txn0 false 9).attempts ∧ (txn0 false 9).owner = .cane 15) ∧
    (let s := dW.modWale fun x => { x with txns := [txn0 true 1] }
     findTxn s 7 2 = some (txn0 true 1) ∧ routePort s (txn0 true 1).f.dst = some 7) ∧
    (field [(0x10 : Byte), 255] 0 1 / 16 = 1 ∧ (dW.wale.hops.find? fun x => x.inPort == some (7, field [0x10, 255] 1 1)) = none) ∧
    (let g : Hop := ⟨2, some (7, 255), 0, some (7, 3), 0, 4, 0, true⟩
     let s := dW.modWale fun x => { x with hops := [g] }
     (s.wale.hops.find? fun x => x.inPort == some (7, field (0x10 :: 255 :: List.replicate 261 (0 : Byte)) 1 1)) = some g ∧
       field (0x10 :: 255 :: List.replicate 261 (0 : Byte)) 0 1 / 16 = 1 ∧
       g.admits 263 = true ∧ (0x10 :: 255 :: List.replicate 261 (0 : Byte)).length = 263) ∧
    (let s := (set (running dW 6 7) .STR_PLACE 6 7 (mkWord [(31, 24, 255), (7, 6, 2), (11, 10, 2)])).modStrand 6 7 fun t =>
       { t with toGate := [blk], gate := 0, m24 := true }
     let g : Hop := ⟨1, none, 255, some (7, 3), 0, 4, 0, true⟩
     let s := (s.modEp 255 fun x => { x with st := .admitted }).modWale fun x => { x with hops := [g] }
     (s.strand 6 7).toGate = [blk] ∧ (s.strand 6 7).gate = 0 ∧ muteBits s 6 7 ≠ 0 ∧ outKind s 6 7 = 2 ∧ outEp s 6 7 = 255 ∧ (s.ep 255).st = .admitted ∧
       (s.wale.hops.find? fun x => x.inPort.isNone && x.srcEp == outEp s 6 7 && x.admitted) = some g) := by
  and_intros <;> first | exact takes_of (by decide) | decide

/-- Source endpoint 255 for endpoint 3 of address d at rate code 5. -/
def source (d : Nat) : State := set dW .EP_CFG 255 0 (mkWord [(31, 24, 3), (21, 16, d), (10, 8, 5), (1, 0, 1)])

theorem witness_StreamsAndRoutes_sources :
    (Admits .host ⟨.EP_CTRL, 255, 0, 0⟩ 0x80000000 (clearSent dW) ∧ fld (dW.cfg1 .EP_CFG 255) 1 0 ≠ 1 ∧ (dW.ep 255).asked = none) ∧
    (let s := (source 1).modEp 255 fun x => { x with st := .admitted }
     Admits .host ⟨.EP_CTRL, 255, 0, 0⟩ 0x80000000 (clearSent s) ∧ (s.ep 255).st = .admitted ∧ (s.ep 255).asked = none) ∧
    (let s := ((source 2).modEp 255 fun x => { x with asked := some 0 }).modWale fun x =>
       { x with hops := [⟨1, none, 255, some (7, 4), 0, 4, 0, false⟩] }
     (s.ep 255).asked ≠ none ∧ routePort s (fld (s.cfg1 .EP_CFG 255) 21 16) = some 7 ∧
       s.wale.hops = [⟨1, none, 255, some (7, 4), 0, 4, 0, false⟩]) ∧
    (let s := dW.modEp 255 fun x => { x with st := .broken, reroute := true }
     (s.ep 255).st = .broken ∧ (s.ep 255).reroute = true ∧ Admits .host ⟨.EP_CTRL, 255, 0, 0⟩ 0x40000000 (clearSent s)) ∧
    (let s := set (set (source 1) .EP_CFG 3 0 (mkWord [(31, 24, 255), (21, 16, 1), (10, 8, 5), (1, 0, 2)])) .EP_PLAY 3 0 0xFFFFF
     Admits .host ⟨.EP_CTRL, 255, 0, 0⟩ 0x80000000 (clearSent s) ∧ fld (s.cfg1 .EP_CFG 255) 1 0 = 1 ∧
       fld (s.cfg1 .EP_CFG 255) 21 16 = s.wale.addr ∧ sinkFault s 3 1 255 false 5 (dRoute 5 0 false) = 0) ∧
    (let s := source 2
     Admits .host ⟨.EP_CTRL, 255, 0, 0⟩ 0x80000000 (clearSent s) ∧ fld (s.cfg1 .EP_CFG 255) 21 16 ≠ s.wale.addr ∧
       routePort s 2 = some 7 ∧ slotsUsed s 7 + slotsOf 5 false ≤ 128 ∧
       fld (s.cfg1 .EP_CFG 255) 21 16 ≠ 63) ∧
    (let s := (source 2).modWale fun x => { x with hops := [⟨1, none, 0, some (7, 0), 0, 128, 0, true⟩] }
     routePort s 2 = some 7 ∧ 128 < slotsUsed s 7 + slotsOf 5 false) ∧
    (Admits .host ⟨.EP_CTRL, 255, 0, 0⟩ 0x40000000 (clearSent dW) ∧ (dW.ep 255).st = .idle) ∧
    (let s := dW.modEp 255 fun x => { x with st := .admitted }
     Admits .host ⟨.EP_CTRL, 255, 0, 0⟩ 0x40000000 (clearSent s) ∧ (s.ep 255).st = .admitted) ∧
    (let s := (dW.modEp 255 fun x => { x with asked := some 0 }).modWale fun x => { x with txns := [{ txn0 false 1 with
       owner := .device, f := { (txn0 false 1).f with srcEp := 255, payload := [0x10] } }] }
     (s.ep 255).asked ≠ none ∧ Taken { hdr 1 with src := 2 } true (codeBytes .ok ([0] ++ leBytes 4 5 ++ [3])) s ∧
       Taken { hdr 1 with src := 2 } true (codeBytes .ok [6]) s ∧
       (findTxn s 7 2).map (fun t => (t.owner, field t.f.payload 0 1, t.f.srcEp)) = some (.device, 0x10, 255)) := by
  and_intros <;> first | exact admits_of (by decide) | exact takes_of (by decide) | decide

theorem witness_StreamsAndRoutes_frames :
    Served (hdr 1) [0x10, 0, 5, 9, 1] dW ∧
    (Taken { hdr 1 with host := true } false [0x11, 9] dW ∧ ({ hdr 1 with host := true } : WaleHdr).src.val ≠ 0) ∧
    (let s := set (set dW .EP_CFG 255 0 (mkWord [(31, 24, 0), (21, 16, 2), (10, 8, 5), (1, 0, 2)])) .EP_PLAY 255 0 0xFFFFF
     Served (hdr 1) [0x10, 0, 5, 9, 1] s ∧ sinkFault s 255 2 0 false 5 (dRoute 5 1 false) = 0) ∧
    sinkFault dW 255 2 0 false 5 (dRoute 5 1 false) = 3 ∧
    (Taken (hdr 0) false [0x10, 0, 5, 9, 1] dW ∧ routePort dW 0 = some 7 ∧ slotsUsed dW 7 + slotsOf 5 false ≤ 128 ∧
      1 < (hdr 0).hops.val) ∧
    (let s := dW.modWale fun x => { x with hops := [⟨2, some (7, 9), 0, none, 255, 4, 0, true⟩] }
     Taken (hdr 1) false [0x11, 9] s ∧
       (s.wale.hops.find? fun g => g.inPort == some (7, 9)) = some ⟨2, some (7, 9), 0, none, 255, 4, 0, true⟩) ∧
    (Taken (hdr 63) false ([0x20] ++ leBytes 8 1 ++ [1, 0]) dW ∧
      (⟨1, true, 1⟩ : RootView).better (rootView dW) = true ∧ (⟨3, true, 1⟩ : RootView).better (rootView dW) = false) ∧
    ((3 : Nat) ≠ (rootView dW).serial ∧ (dW.wport 7).peerLevel = 0 ∧ bit (dW.cfg0 .WALE_CTRL) 1 = false) ∧
    (let s := { dW with serial := 3 }
     Taken (hdr 63) false ([0x20] ++ leBytes 8 2 ++ [0, 0]) s ∧ (rootView s).serial = 2 ∧ (rootView s).cane = true ∧
       s.wale.upPort = 7 ∧ (ownView s).better ⟨2, false, 0 + 1⟩ = false) ∧
    Taken (hdr 63) false [0x21, 62, 1, 7] dW ∧ Taken (hdr 63) false [0x21, 62, 1, 8] dW ∧
    (Taken (hdr 63) false ([0x22] ++ wordBytes 5 ++ List.replicate 64 7) dW ∧ bit (dW.cfg0 .WALE_CTRL) 1 = false ∧
      bit ((set dW .WALE_CTRL 0 0 2).cfg0 .WALE_CTRL) 1 = true) ∧
    (Served (hdr 1) ([0x23, 7, 3] ++ leBytes 8 5) dW ∧ isRoot dW = false ∧
      isRoot (dW.modWale fun x => { x with root := ⟨1, true, 0⟩ }) = true) ∧
    (let s := d0.modWale fun x => { x with rootLost := some 0 }
     Admits .host ⟨.WALE_CTRL, 0, 0, 0⟩ (bitsWord ⟨.WALE_CTRL, 0, 0, 0⟩ 1 0 (clearSent s)) (clearSent s) ∧ isRoot s = true ∧
       upPorts s = [] ∧ s.wale.rootLost ≠ none ∧ (upPorts dW).head? = some 7) ∧
    (Admits .host ⟨.ROUTE_CMD, 0, 0, 0⟩ 1 (clearSent (set dW .WALE_CTRL 0 0 2))) := by
  and_intros <;> first | exact admits_of (by decide) | exact serves_of (by decide) | exact takes_of (by decide) | decide

/-! ## The Cane link -/

/-- The link in a state. -/
def caneIn (st : CaneState) : State := d0.modCane fun c => { c with st := st }

/-- The header of a new local request of tag 15. -/
def ch (loc retry : Bool) (d : Fin 64) : CaneHdr := ⟨15, loc, retry, d, 255, 0⟩

/-- A record of severity 1. -/
def rec1 : SkeinRec := ⟨1, 0, 0, 0, 0, 0, 1, 1, false, false, false, 0, 0x0101, 0⟩

/-- The response of tag 15. -/
def resp15 : CaneResp := ⟨15, .ok, true, 0, []⟩

theorem takes_new {h : CaneHdr} {s : State} (h1 : s.cane.st = .up) (h2 : (s.cane.tags[h.tag]).st = .free) : CaneTakes h s := ⟨h1, .inl h2⟩

theorem witness_CaneLink_states :
    (d0.pwr.inReset = false ∧ d0.cane.st = .quiet ∧ hubOn d0 = true) ∧ (caneIn .align).cane.st = .align ∧
    (caneIn .hello).cane.st = .hello ∧ (caneIn .hello).cane.helloSent = false ∧
    ((caneIn .hello).modCane fun c => { c with helloSent := true, helloBoth := true }).cane.helloBoth = true ∧
    ((caneIn .up).modCane fun c => { c with quietSent := true }).cane.quietSent = true ∧
    (let s := (caneIn .up).modCane fun c => { c with quietAsked := true }
     s.cane.st = .up ∧ s.cane.quietAsked = true ∧ caneIdle s = true) ∧
    (let s := set (caneIn .up) .CANE_CTRL 0 0 1
     fld (s.cfg0 .CANE_CTRL) 7 0 ≠ 0 ∧ caneIdle s = true ∧ s.cane.quietSent = false ∧ caneEventWaits s = false) ∧
    (let s := (set (caneIn .up) .CANE_CTRL 0 0 0x10000).modCane fun c => { c with credits := 1, evtMissed := 3 }
     bit (s.cfg0 .CANE_CTRL) 16 = true ∧ 0 < s.cane.credits ∧ caneEventWaits s = true ∧ s.cane.evtMissed ≠ 0) ∧
    (let s := (set (caneIn .up) .CANE_CTRL 0 0 0x10000).modCane fun c => { c with credits := 1, evtQ := [rec1] }
     0 < s.cane.credits ∧ caneEventWaits s = true ∧ s.cane.evtMissed = 0) ∧
    (let s := (set d0 .CANE_CTRL 0 0 0x10000).modCane fun c => { c with credits := 1, evtMissed := 3 }
     s.cane.st = .quiet ∧ caneEventWaits s = true ∧ 0 < s.cane.credits) := by decide

theorem witness_CaneLink_requests :
    CaneTakes (ch true false 0) (caneIn .up) ∧ caneLocal (caneIn .up) (ch true false 0) = true ∧
    CaneTakes (ch false false 63) (caneIn .up) ∧ caneLocal (caneIn .up) (ch false false 63) = false ∧
    ((caneIn .up).pwr.st = .active ∧ (caneIn .up).pwr.transit = none) ∧
    (let s := { caneIn .up with pwr := { (caneIn .up).pwr with st := .doze } }
     s.pwr.st ≠ .active ∧ (writeAt .host 4 wakeAddr 2 (caneTaken (ch true false 0) s)).1 = .ok) ∧
    (let s := { (caneIn .up).modDie 6 (fun d => { d with released := false }) with pwr := { (caneIn .up).pwr with st := .doze } }
     let r := writeAt .host 4 wakeAddr 2 (caneTaken (ch true false 0) s)
     r.1 = .ok ∧ r.2.pwr.transit ≠ none) ∧
    (let s := { caneIn .up with pwr := { (caneIn .up).pwr with st := .doze, failLow := true } }
     s.pwr.st ≠ .active ∧ (writeAt .host 4 wakeAddr 2 (caneTaken (ch true false 0) s)).1 ≠ .ok) ∧
    (let s := { caneIn .up with wale := { (caneIn .up).wale with routes := vset (caneIn .up).wale.routes 2 7 } }
     (ch false false 2).dst.val ≠ 63 ∧ s.wale.routes[(ch false false 2).dst] < 8 ∧ caneLocal s (ch false false 2) = false) ∧
    (let s := (caneIn .up).modTag 15 fun g => { g with st := .busy }
     (s.cane.tags[(ch true true 0).tag]).st = .busy) ∧
    (let s := (caneIn .up).modTag 15 fun g => { g with st := .done resp15, ready := some resp15 }
     (s.cane.tags[(ch true true 0).tag]).st = .done resp15 ∧ (ch true true 0).retry = true ∧
       (s.cane.tags[(15 : Fin 16)]).ready = some resp15) ∧
    (let s := d0.modCane fun c => { c with txQ := [resp15] }
     s.cane.waitQ = [] ∧ (s.cane.txQ.any fun r => r.tag == (15 : Fin 16).val) = true) := by
  and_intros <;> first | exact takes_new (by decide) (by decide) | decide

/-! ## Handle, boot and updates -/

/-- A booted device from reset, with the boot block of a trial boot in copy A. -/
def withBoot (sel trial : Bool) (tries : Nat) (s : State) : State :=
  { s with handle := { s.handle with copyA := ⟨true, 1, sel, trial, tries⟩ } }

theorem witness_HandleAndBoot :
    (d0.pwr.resetDue = false ∧ Admits .host ⟨.RST_CTRL, 0, 0, 0⟩ 0xA501 d0) ∧
    ((bootBlock State.reset.handle).2.trial = false ∧ (bootBlock (withBoot true true 2 State.reset).handle).2 = ⟨true, 1, true, true, 2⟩ ∧
      (bootBlock (withBoot true true 3 State.reset).handle).2.tries = 3) ∧
    (let s := { d0 with handle := { d0.handle with ready := false, st := .boot } }
     s.handle.recovery = false ∧ s.handle.ready = false ∧ s.handle.st = .boot ∧ s.handle.hubVer ≠ 0 ∧ s.handle.half = none) ∧
    (let s := { d0 with handle := { d0.handle with ready := false, st := .boot, half := some true } }
     s.handle.ready = false ∧ s.handle.st = .boot ∧ s.handle.hubVer ≠ 0 ∧ s.handle.half ≠ none) ∧
    (let s := { loading 1 2 0 (coilBusy 1 d0) with reg := { d0.reg with busy := some .host } }
     let s := s.modUpd fun u => { u with busy := some ⟨6, 1, 0, 0, .host⟩ }
     s.handle.st ≠ .restart ∧ s.handle.hubVer ≠ 0 ∧ (s.dies[(6 : DieIx)]).loader.busy ≠ none ∧ s.coilLdr.busy ≠ none ∧
       s.reg.busy ≠ none ∧ s.handle.upd.busy ≠ none) ∧
    (d0.pwr.failLow = false ∧ (let s := { d0 with pwr := { d0.pwr with failLow := true } }; s.pwr.failLow = true)) ∧
    (d0.handle.st ≠ .restart ∧ d0.handle.hubVer ≠ 0 ∧ d0.tap.haltHandle = false ∧ (d0.lash.srcs[srcOf 2]).sev < 4) ∧
    (let s := { d0 with handle := { d0.handle with st := .restart } }
     s.handle.st = .restart ∧ pkgHeaderOk (pkgHeader s s.handle.slot) = false) := by
  and_intros <;> first | exact admits_of (by decide) | decide

/-- An update in progress. -/
def updating (op target index : Nat) (s : State) : State :=
  s.modUpd fun u => { u with busy := some ⟨op, target, index, 0, .host⟩ }

/-- Changing the Handle. -/
def hdl (f : Handle → Handle) (s : State) : State := { s with handle := f s.handle }

theorem witness_UpdatesAndReplay_commands :
    (∀ p ∈ [(1, 2, 0), (2, 2, 1535), (3, 2, 0), (4, 2, 0), (5, 0, 0), (6, 2, 0)],
      admitsB .host ⟨.UPD_CTRL, 0, 0, 0⟩ (updWord p.1 p.2.1 p.2.2) dF = true) ∧ dF.handle.upd.busy = none ∧ dF.handle.st ≠ .restart ∧
    Memory.wf dF.mem = true ∧ handleWorks (updating 1 0 0 dF) = true ∧ mramVerdict (updating 1 0 0 dF) = .allowed ∧
    ((updating 1 0 0 dF).cfg0 .UPD_SIZE).toNat = 0 ∧
    (let s := updating 1 0 0 (set dF .UPD_SIZE 0 0 0x00600000)
     (s.cfg0 .UPD_SIZE).toNat ≠ 0 ∧ (s.cfg0 .UPD_SIZE).toNat ≤ 0x00600000 ∧ s.handle.recovery = false ∧ (0 : Nat) = b2n s.handle.slot ∧
      s.handle.trial = false) ∧ (1 : Nat) ≠ b2n dF.handle.slot ∧
    (updating 2 1 0 dF).handle.upd.target ≠ some 1 ∧
    (let s := hdl (fun h => { h with upd := { h.upd with target := some 1, verified := true } }) (updating 2 1 1535 (set dF .UPD_SIZE 0 0 0x00600000))
     s.handle.upd.target = some 1 ∧ 1535 * 4096 < (s.cfg0 .UPD_SIZE).toNat ∧ (s.cfg0 .UPD_SIZE).toNat ≤ 1536 * 4096 ∧
       verifyPkg true s ≠ 0 ∧ s.handle.upd.verified = true) ∧
    (let s := updating 1 1 0 (set dF .UPD_SIZE 0 0 0x00600000)
     (s.cfg0 .UPD_SIZE).toNat ≠ 0 ∧ (1 : Nat) ≠ b2n s.handle.slot ∧ s.handle.trial = false ∧ mramVerdict s = .allowed) ∧
    (let s := hdl (fun h => { h with slot := true, mcSlot := some false }) (updating 1 0 0 (set dF .UPD_SIZE 0 0 0x00600000))
     (0 : Nat) ≠ b2n s.handle.slot ∧ s.handle.mcSlot = some ((0 : Nat) == 1) ∧ mramVerdict s = .allowed) ∧
    (let s := hdl (fun h => { h with upd := { h.upd with target := some 1 } }) (updating 2 1 1536 (set dF .UPD_SIZE 0 0 0x00600000))
     s.handle.upd.target = some 1 ∧ (s.cfg0 .UPD_SIZE).toNat ≤ 1536 * 4096) ∧
    (let s := updating 4 1 0 dF
     s.handle.upd.verified = false) ∧
    (let s := hdl (fun h => { h with upd := { h.upd with target := some 1, verified := true } }) (updating 4 1 0 dF)
     s.handle.upd.target = some 1 ∧ s.handle.upd.verified = true ∧ mramVerdict s = .allowed) ∧
    (let s := hdl (fun h => { h with upd := { h.upd with target := some 2, verified := true } }) (updating 4 2 0 dF)
     s.handle.upd.target = some 2 ∧ s.handle.upd.verified = true) ∧
    (let s := updating 5 0 0 dF
     s.handle.trial = false) ∧
    (let s := hdl (fun h => { h with trial := true }) (updating 5 0 0 dF)
     s.handle.trial = true ∧ mramVerdict s = .allowed) ∧
    (let s := { hdl (fun h => { h with trial := true }) (updating 5 0 0 dF) with thm := { dF.thm with win := .closed } }
     s.handle.trial = true ∧ mramVerdict s = .refused) ∧
    (let s := updating 6 1 0 dF
     s.handle.upd.busy = some ⟨6, 1, 0, 0, .host⟩ ∧ handleWorks s = true) ∧
    handleWorks (hdl (fun h => { h with st := .restart }) d0) = false := by decide +kernel

theorem witness_UpdatesAndReplay_verify :
    (let s := hdl (fun h => { h with upd := { h.upd with target := some 1 } }) (updating 3 1 0 (set dF .UPD_SIZE 0 0 0x00600000))
     s.handle.upd.target = some 1 ∧ verifyPkg true s ≠ 0) := by decide +kernel

/-- A replay of the one entry in half A: its kind, the upper half of its first word, its address and its value. -/
def replaying (kind : Nat) (since : Option Nat) : State :=
  let s := writeWord .mram (halfBase false + 12) 1 (writeWord .mram (halfBase false + 16) (BitVec.ofNat 32 kind)
    (writeWord .mram (halfBase false + 20) 0x000E0000 (writeWord .mram (halfBase false + 28) 0xFFFFFFFF d0)))
  hdl (fun h => { h with half := some false, replay := some ⟨0, false, since⟩ }) s

theorem witness_UpdatesAndReplay_replay :
    (let s := replaying 1 none
     s.handle.replay = some ⟨0, false, none⟩ ∧ s.handle.half = some false ∧ handleWorks s = true ∧ replayCount s false = 1 ∧
       field (replayEntry s false 0) 0 1 = 1) ∧
    (let s := replaying 2 none
     s.handle.replay = some ⟨0, false, none⟩ ∧ field (replayEntry s false 0) 0 1 = 2 ∧ (readAt .replay 4 0x000E0000 s).1 = .ok ∧
       (readAt .replay 4 0x000E0000 s).2.1 &&& BitVec.ofNat 32 (field (replayEntry s false 0) 12 4) ≠ 0) ∧
    (let s := writeWord .mram (halfBase false + 20) 0x000F0000 (replaying 1 none)
     field (replayEntry s false 0) 0 1 = 1 ∧
       (writeAt .replay 4 (BitVec.ofNat 32 (field (replayEntry s false 0) 4 4)) 0xFFFFFFFF s).1 ≠ .ok ∧ s.handle.cfgFirstSet = false) ∧
    (let s := replaying 3 none
     field (replayEntry s false 0) 0 1 = 3) ∧ replayWaits (replaying 2 (some 0)) 2 = some 0 ∧
    replayWaits (replaying 3 (some 0)) 3 = some 0 ∧
    (let s := hdl (fun h => { h with replay := some ⟨1, false, none⟩ }) (replaying 1 none)
     replayCount s false ≤ 1) ∧
    (let s := set d0 .TEL_CFG 0 0 0x2F2F
     fld (s.cfg0 .TEL_CFG) 5 0 = 47 ∧ fld (s.cfg0 .TEL_CFG) 13 8 = 47) ∧
    (let s := hdl (fun h => { h with vMin := some 5, vMax := some 5 }) (set d0 .TEL_CFG 0 0 0x2F2F)
     s.handle.vMin = some 5 ∧ s.handle.vMax = some 5) ∧
    (let s := set (set d0 .TEL_CFG 0 0 0x2F2F) .TEL_VMAX 0 0 0x80000000
     sfld (s.cfg0 .TEL_VMAX) 31 0 < snsValue s 47 s.sns[47] ∧ s.handle.telOver = 0) ∧
    (let s := hdl (fun h => { h with telOver := 1 }) (set (set d0 .TEL_CFG 0 0 0x2F2F) .TEL_VMAX 0 0 0x80000000)
     sfld (s.cfg0 .TEL_VMAX) 31 0 < snsValue s 47 s.sns[47] ∧ 1 ≤ s.handle.telOver ∧ (s.lash.srcs[srcOf 6]).active = false) := by
  decide +kernel

/-! ## Skein and Tally -/

/-- A record of Tally. -/
def tally1 : TallyRec := ⟨1, 0, 0, 0, 0, 0, false, false, 0, 0, 0, false⟩

/-- Changing the recorder and Tally. -/
def skn (f : Skein → Skein) (s : State) : State := { s with skein := f s.skein }
def tly (f : Tally → Tally) (s : State) : State := { s with tally := f s.tally }

theorem witness_SkeinRecorder :
    d0.Canonical ∧ (skn (fun x => { x with newest := some (rec1, false) }) d0).skein.newest = some (rec1, false) ∧
    (let x := (skn (fun x => { x with newest := some (rec1, true) }) d0).skein
     x.newest = some (rec1, true) ∧ skeinPlace { x with newest := none } 1 = true) ∧
    (let s := skn (fun x => { x with newest := some (rec1, true), buffer := List.replicate 4096 rec1 }) d0
     s.skein.newest = some (rec1, true) ∧ skeinPlace { s.skein with newest := none } 1 = false) ∧
    (let s := skn (fun x => { x with wanted := true }) d0
     handleWorks s = true ∧ s.skein.flushing = none ∧ s.skein.wanted = true ∧ s.skein.frozen = none ∧ s.skein.newest = none) ∧
    (let s := skn (fun x => { x with newest := some (rec1, false), wanted := true, buffer := [rec1] }) d0
     handleWorks s = true ∧ s.skein.flushing = none ∧ s.skein.wanted = true ∧ s.skein.frozen = none ∧ mramVerdict s = .allowed ∧
       s.skein.buffer ≠ []) ∧
    (d0.skein.buffer = [] ∧ d0.skein.newest = none ∧ d0.skein.wanted = false) ∧
    (let s := { skn (fun x => { x with wanted := true }) d0 with thm := { d0.thm with win := .neither } }
     mramVerdict s = .waits ∧ convertible s 0 = true) ∧
    (let s := skn (fun x => { x with flushing := some [rec1], unreported := 2 }) d0
     s.skein.flushing = some [rec1] ∧ s.skein.clearWait = [] ∧ s.skein.unreported ≠ 0) ∧
    (Admits .host ⟨.SKN_CTRL, 0, 0, 0⟩ (bitsWord ⟨.SKN_CTRL, 0, 0, 0⟩ 1 0 d0) d0 ∧
      Admits .host ⟨.SKN_CTRL, 0, 0, 0⟩ (bitsWord ⟨.SKN_CTRL, 0, 0, 0⟩ 4 0 d0) d0 ∧ skeinUsed d0.skein < 3000 ∧
      Admits .host ⟨.SKN_CTRL, 0, 0, 0⟩ (bitsWord ⟨.SKN_CTRL, 0, 0, 0⟩ 8 0 d0) d0) ∧
    (Admits .host ⟨.SKN_CTRL, 0, 0, 0⟩ (bitsWord ⟨.SKN_CTRL, 0, 0, 0⟩ 2 0 dF) dF ∧ mramVerdict dF = .allowed ∧
      dF.skein.flushing = none) ∧
    (let s := skn (fun x => { x with flushing := some [] }) dF
     Admits .host ⟨.SKN_CTRL, 0, 0, 0⟩ (bitsWord ⟨.SKN_CTRL, 0, 0, 0⟩ 2 0 s) s ∧ s.skein.flushing ≠ none ∧ mramVerdict s = .allowed) ∧
    (let s := { dF with thm := { dF.thm with win := .closed } }
     Admits .host ⟨.SKN_CTRL, 0, 0, 0⟩ (bitsWord ⟨.SKN_CTRL, 0, 0, 0⟩ 2 0 s) s ∧ mramVerdict s = .refused) ∧
    (skn (fun x => { x with frozen := some 1 }) d0).skein.frozen ≠ none := by
  and_intros <;> first | exact admits_of (by decide) | exact ⟨by decide, by decide⟩ | decide

theorem witness_TallyLog :
    d0.Canonical ∧
    (let s := tly (fun x => { x with next := 3 }) d0
     Admits .host ⟨.TLY_ACK, 0, 0, 0⟩ 2 s ∧ seqLt 2 s.tally.ack = false ∧ seqLt 2 s.tally.next = true ∧
       Admits .host ⟨.TLY_ACK, 0, 0, 0⟩ 3 s ∧ seqLt 3 s.tally.next = false) ∧
    (let s := tly (fun x => { x with staged := [tally1] }) d0
     s.tally.staged = [tally1] ∧ mramVerdict s = .allowed) ∧
    Admits .host ⟨.WT_CTRL, 0, 0, 0⟩ 1 d0 ∧ (Admits .host ⟨.TLY_SEAL, 0, 0, 0⟩ 1 d0 ∧ d0.tally.sealing = false) ∧
    (tly (fun x => { x with sealing := true }) d0).tally.sealing = true := by
  and_intros <;> first | exact admits_of (by decide) | exact ⟨by decide, by decide⟩ | decide

/-! ## The Lashing -/

/-- Changing a source, and the thermal guard, the power, the Lid and the TAP. -/
def src (n : SrcIx) (f : LashSrc → LashSrc) (s : State) : State := s.modSrc n f
def thmS (f : Thermal → Thermal) (s : State) : State := { s with thm := f s.thm }
def pwr (f : Power → Power) (s : State) : State := { s with pwr := f s.pwr }
def lid (f : Lid → Lid) (s : State) : State := { s with lid := f s.lid }
def tap (f : Tap → Tap) (s : State) : State := { s with tap := f s.tap }

theorem witness_LashingSources :
    srcSeen (srcOfDie 6 5) State.reset = false ∧ srcSeen (srcOfDie 6 5) d0 = true ∧ srcDie (srcOfDie 6 5) = some 6 ∧
    (2 < ((src (srcOf 3) (fun x => { x with sev := 3, scope := true }) d0).lash.srcs[srcOf 3]).sev) ∧
    (3 < ((src (srcOf 3) (fun x => { x with sev := 4 }) d0).lash.srcs[srcOf 3]).sev ∧ d0.lash.safe = false) ∧
    (((src (srcOf 3) (fun x => { x with sev := 2 }) d0).lash.srcs[srcOf 3]).sev < 3 ∧ d0.skein.newest = none ∧
      skeinUsed d0.skein < 3000) ∧
    (let s := src (srcOfDie 6 0) (fun x => { x with auto := true, latched := true, sev := 3 }) d0
     let x := s.lash.srcs[srcOfDie 6 0]
     x.auto = true ∧ x.mutes = true ∧ x.sev = 3 ∧ x.still = false) ∧
    ((src (srcOfDie 6 0) (fun x => { x with auto := false }) d0).lash.srcs[srcOfDie 6 0]).auto = false ∧
    (((src (srcOfDie 6 1) (fun x => { x with sev := 4 }) d0).lash.srcs[srcOfDie 6 1]).sev = 4 ∧
      ((src (srcOf 8) (fun x => { x with sev := 4 }) d0).lash.srcs[srcOf 8]).sev = 4) ∧
    srcOfDie 6 5 ≠ srcOfDie 6 1 ∧ (d0.isFitted 6 = true ∧ (d0.dies[(6 : DieIx)]).powered = true ∧ (d0.dies[(6 : DieIx)]).released = true) := by
  decide

/-- The word of a GO. -/
def goWord (dry at_ len n : Nat) : Word := mkWord [(31, 31, 1), (29, 29, dry), (28, 28, at_), (23, 8, len), (7, 0, n)]

theorem witness_LashingCommands :
    d0.Canonical ∧ Admits .host ⟨.LSH_CTRL, 0, 0, 0⟩ 2 d0 ∧ Admits .host ⟨.LSH_CTRL, 0, 0, 0⟩ 1 d0 ∧ d0.lash.safe = false ∧
    (let s := { d0 with lash := { d0.lash with safe := true } }
     Admits .host ⟨.LSH_CTRL, 0, 0, 0⟩ 1 s ∧ s.lash.safe = true ∧ s.lash.collector = false ∧
       s.tap.ir ∉ [TapInstr.extest, .clamp, .highz] ∧
       ∀ m : SrcIx, 4 ≤ (s.lash.srcs[m]).sev → (s.lash.srcs[m]).latched = false ∧ (s.lash.srcs[m]).still = false) ∧
    (let s := { d0 with lash := { d0.lash with safe := true, collector := true } }
     Admits .host ⟨.LSH_CTRL, 0, 0, 0⟩ 1 s ∧ s.lash.collector = true) ∧
    (Admits .host ⟨.LSH_SRC_STAT, 207, 0, 0⟩ 1 d0 ∧ (d0.lash.srcs[(207 : SrcIx)]).still = false ∧
      ((src 207 (fun x => { x with active := true }) d0).lash.srcs[(207 : SrcIx)]).still = true) ∧
    Admits .host ⟨.LSH_INJ, 0, 0, 0⟩ (goWord 1 1 65535 207) dF ∧ Admits .host ⟨.LSH_INJ, 0, 0, 0⟩ (goWord 0 0 0 9) dF ∧
    (Admits .host ⟨.LSH_INJ, 0, 0, 0⟩ (goWord 1 0 0 207) dF ∧ srcUsed 207 = true ∧ dF.lash.inj = none) ∧
    (let s := { dF with lash := { dF.lash with inj := some ⟨207, false, false, 1⟩ } }
     Admits .host ⟨.LSH_INJ, 0, 0, 0⟩ (goWord 0 1 65535 207) s ∧ s.lash.inj ≠ none ∧
       Admits .host ⟨.LSH_INJ, 0, 0, 0⟩ (bitsWord ⟨.LSH_INJ, 0, 0, 0⟩ 0x40000000 0 s) s) ∧
    (let s := src 207 (fun x => { x with latched := true, sev := 4 }) dF
     Admits .host ⟨.LSH_INJ, 0, 0, 0⟩ (goWord 0 0 0 207) s ∧ s.lash.inj = none ∧ srcSeen 207 s = true ∧
       (s.lash.srcs[(207 : SrcIx)]).latched = true ∧ (s.lash.srcs[(207 : SrcIx)]).injected = false ∧
       (s.lash.srcs[(207 : SrcIx)]).dry = false ∧ (s.lash.srcs[(207 : SrcIx)]).ended = false ∧ (s.lash.srcs[(207 : SrcIx)]).sev = 4) ∧
    (let s := dF.modDie 6 fun d => { d with released := false }
     Admits .host ⟨.LSH_INJ, 0, 0, 0⟩ (goWord 1 0 0 117) s ∧ srcUsed 117 = true ∧ srcSeen 117 s = false) ∧
    (let s := { dF with lash := { dF.lash with inj := some ⟨207, false, false, 0⟩ } }
     s.lash.inj = some ⟨207, false, false, 0⟩) := by
  and_intros <;> first | exact admits_of (by decide) | exact ⟨by decide, by decide⟩ | decide

/-! ## The thermal guard -/

/-- A conversion of a die in progress. -/
def converting (d : Fin 8) (s : State) : State := thmS (fun x => { x with cur := some (d, 0, [.timer]) }) s

theorem witness_ThermalConversions :
    (converting 7 d0).thm.cur = some (7, 0, [.timer]) ∧ d0.thm.cur = none ∧
    (let s := thmS (fun x => { x with queue := [⟨7, .timer⟩, ⟨0, .confirm⟩] }) d0
     (s.thm.queue.filter fun r => convertible s r.die).find? (fun x =>
       (s.thm.queue.filter fun r => convertible s r.die).all fun y => decide (x.who.prio ≤ y.who.prio)) = some ⟨0, .confirm⟩) ∧
    (let s := { (thmS (fun x => { x with dies := vmod x.dies 7 fun y => { y with past := [⟨0, false, 300, 0, false⟩], again := true } }) d0) with
       time := { d0.time with ft := 500000000 } }
     (s.thm.dies[(7 : Fin 8)]).past.find? (fun r => decide (r.t + 500000000 ≤ s.time.ft)) = some ⟨0, false, 300, 0, false⟩ ∧
       (s.thm.dies[(7 : Fin 8)]).again = true ∧ convertible s 7 = true) ∧
    (let s := thmS (fun x => { x with queue := [⟨7, .timer⟩] }) State.reset
     s.thm.cur = none ∧ s.thm.queue.filter (fun r => convertible s r.die) = []) ∧
    (let s := converting 7 { (thmS (fun x => { x with dies := vmod x.dies 7 fun y => { y with past := [⟨0, false, 300, 0, false⟩] } }) d0) with
       time := { d0.time with ft := 500000000 } }
     s.thm.cur = some (7, 0, [.timer]) ∧
       (s.thm.dies[(7 : Fin 8)]).past.find? (fun r => decide (r.t + 500000000 ≤ s.time.ft)) = some ⟨0, false, 300, 0, false⟩) ∧
    convertible State.reset 7 = false ∧ srcSeen (srcOfDie 6 8) d0 = true ∧
    (d0.thm.hold = false ∧
      Admits .host ⟨.THM_CTRL, 0, 0, 0⟩ (bitsWord ⟨.THM_CTRL, 0, 0, 0⟩ (mkWord [(15, 15, 1), (14, 12, 7)]) 0x7000 d0) d0) := by
  and_intros <;> first | exact admits_of (by decide) | decide

/-- A die in a state with a first reading taken at time 0. -/
def firstAt (st : ThmState) (temp : Int) : State :=
  converting 7 { thmS (fun x => { x with dies := vmod x.dies 7 fun y => { y with st := st, first := some ⟨0, false, temp, 0, false⟩ } }) d0 with
    time := { d0.time with ft := 10000000 } }

theorem witness_ThermalStates :
    (d0.thm.dies[(7 : Fin 8)]).st = .off ∧ ((firstAt .normal 1250).thm.dies[(7 : Fin 8)]).st = .normal ∧
    ((firstAt .normal 1250).thm.dies[(7 : Fin 8)]).first = some ⟨0, false, 1250, 0, false⟩ ∧
    Reading.meets ⟨0, false, 1250, 0, false⟩ .shutdown = true ∧ Reading.meets ⟨0, false, 1150, 0, false⟩ .throttle = true ∧
    Reading.meets ⟨0, false, 1050, 0, false⟩ .warn = true ∧ (⟨0, false, 999, 0, false⟩ : Reading).level < 1000 ∧
    (thmS (fun x => { x with win := .closed, winFirst := some 0 }) d0).thm.winFirst = some 0 ∧
    (Admits .host ⟨.THM_CTRL, 0, 0, 0⟩ (bitsWord ⟨.THM_CTRL, 0, 0, 0⟩ 0x10000 0 d0) d0 ∧ anyShut d0 = false ∧ d0.thm.hold = false) ∧
    (let s := firstAt .shutdown 900
     Admits .host ⟨.THM_CTRL, 0, 0, 0⟩ (bitsWord ⟨.THM_CTRL, 0, 0, 0⟩ 0x10000 0 s) s ∧ anyShut s = true) ∧
    (let s := thmS (fun x => { x with hold := true }) (set d0 .THM_CTRL 0 0 0x0A)
     Admits .host ⟨.THM_CTRL, 0, 0, 0⟩ (bitsWord ⟨.THM_CTRL, 0, 0, 0⟩ 0x10000 0 s) s ∧ s.thm.hold = true ∧ autoOk s = false) ∧
    (let s := thmS (fun x => { x with hold := true }) (set d0 .THM_CTRL 0 0 0x10A)
     Admits .host ⟨.THM_CTRL, 0, 0, 0⟩ (bitsWord ⟨.THM_CTRL, 0, 0, 0⟩ 0x10000 0 s) s ∧ autoOk s = true ∧
       bit (s.cfg0 .THM_CTRL) 8 = true) ∧
    (thmS (fun x => { x with hold := true, rearms := 3 }) d0).thm.rearms = 3 := by
  and_intros <;> first | exact admits_of (by decide) | decide

/-! ## Clocks and power -/

theorem witness_ThermalStates_readings :
    (let s := converting 7 d0
     s.thm.cur = some (7, 0, [.timer]) ∧ (s.thm.dies[(7 : Fin 8)]).st = .off) ∧
    (let s := converting 7 (thmS (fun x => { x with dies := vmod x.dies 7 fun y => { y with st := .normal } }) d0)
     (s.thm.dies[(7 : Fin 8)]).st ≠ .off ∧ (s.thm.dies[(7 : Fin 8)]).first = none) ∧
    (let s := { firstAt .normal 1250 with time := d0.time }
     s.time.ft < 0 + 10000000) ∧
    (let s := firstAt .warn 1250
     (s.thm.dies[(7 : Fin 8)]).st = .warn ∧ s.thm.cur = some (7, 0, [.timer])) ∧
    (let s := firstAt .warn 999
     (s.thm.dies[(7 : Fin 8)]).st = .warn) ∧
    (let s := firstAt .throttle 1099
     (s.thm.dies[(7 : Fin 8)]).st = .throttle ∧ (⟨0, false, 1099, 0, false⟩ : Reading).level < 1100) ∧
    (let s := firstAt .shutdown 999
     (s.thm.dies[(7 : Fin 8)]).st = .shutdown) ∧
    (let s := converting 0 (thmS (fun x => { x with win := .closed }) d0)
     s.thm.win = .closed ∧ s.thm.winFirst = none ∧ s.thm.cur = some (0, 0, [.timer])) ∧
    (let s := converting 0 (thmS (fun x => { x with win := .closed, winFirst := some 0 }) d0)
     s.thm.winFirst = some 0 ∧ s.time.ft < 0 + 10000000) ∧
    (let s := converting 0 (thmS (fun x => { x with win := .neither }) d0)
     s.thm.win = .neither) ∧
    (let s := (thmS (fun x => { x with hold := true }) (set d0 .THM_CTRL 0 0 0x0A)).modPort 6 2 fun p =>
       { p with parked := true, target := .receive }
     Admits .host ⟨.THM_CTRL, 0, 0, 0⟩ (bitsWord ⟨.THM_CTRL, 0, 0, 0⟩ 0x10000 0 s) s ∧ anyShut s = false ∧ autoOk s = false ∧
       (s.port 6 2).parked = true ∧ (s.port 6 2).pend = none) ∧
    (let s := thmS (fun x => { x with hold := true, rearms := 3 }) (set d0 .THM_CTRL 0 0 0x10A)
     s.thm.hold = true ∧ anyShut s = false ∧ bit (s.cfg0 .THM_CTRL) 8 = true ∧ s.thm.rearms = 3) := by
  and_intros <;> first | exact admits_of (by decide) | decide

theorem witness_PowerStates :
    (let s := hdl (fun h => { h with lent := true }) d0
     Admits .host ⟨.PWR_CTRL, 0, 0, 0⟩ 1 s ∧ Admits .host ⟨.PWR_CTRL, 0, 0, 0⟩ 0x5A04 s ∧ s.handle.lent = true) ∧
    (Admits .host ⟨.PWR_CTRL, 0, 0, 0⟩ 1 d0 ∧ Admits .host ⟨.PWR_CTRL, 0, 0, 0⟩ 0x5A04 d0 ∧ d0.handle.lent = false ∧
      d0.pwr.transit = none ∧ d0.pwr.st = .active ∧ mramVerdict d0 = .allowed) ∧
    (let s := pwr (fun x => { x with st := .doze }) d0
     Admits .host ⟨.PWR_CTRL, 0, 0, 0⟩ 1 s ∧ s.pwr.st ≠ .active ∧ Admits .host ⟨.PWR_CTRL, 0, 0, 0⟩ 2 s) ∧
    (let s := thmS (fun x => { x with win := .closed }) d0
     Admits .host ⟨.PWR_CTRL, 0, 0, 0⟩ 0x5A04 s ∧ mramVerdict s = .refused) ∧
    (let s := pwr (fun x => { x with transit := some .toDoze }) d0
     s.pwr.transit = some .toDoze ∧ allQuiet s = true ∧ s.pwr.wakePend = none ∧ s.handle.mcSlot ≠ none ∧ 0 < s.fitted ∧
       (pwr (fun x => { x with wakePend := some 4 }) s).pwr.wakePend = some 4) ∧
    (let s := set (set (pwr (fun x => { x with st := .doze }) (d0.modDie 6 fun d => { d with released := false })) .WAKE_CFG 0 0 0x00010004)
       .COEX_CFG 0 0 0x40000000
     Admits .host ⟨.PWR_CTRL, 0, 0, 0⟩ 2 s ∧ fld (s.cfg0 .WAKE_CFG) 31 16 = 1 ∧ bit (s.cfg0 .WAKE_CFG) 2 = true ∧ coexRole s = 1 ∧
       s.pwr.st = .doze ∧ s.isFitted 6 = true ∧ (s.dies[(6 : DieIx)]).released = false) ∧
    (pwr (fun x => { x with st := .doze, transit := some .toFoot }) d0).pwr.transit = some .toFoot ∧
    (let s := d0.modCoil 0 fun q => { q with st := .running }
     coilClass 0 = 0 ∧ (s.coils[(0 : CoilIx)]).st ≠ .stopped ∧ Admits .host ⟨.PWR_CTRL, 0, 0, 0⟩ 1 s) ∧
    (coilClass 23 ≠ 0 ∧ allQuiet (pwr (fun x => { x with transit := some .toFoot }) d0) = true ∧ d0.pwr.wakePend = none) ∧
    (Admits .host ⟨.PWR_CTRL, 0, 0, 0⟩ 2 d0 ∧ fld (d0.cfg0 .WAKE_CFG) 31 16 = 0) ∧
    (let s := pwr (fun x => { x with st := .foot }) (set d0 .WAKE_CFG 0 0 0x00010000)
     s.pwr.st = .foot ∧ s.pwr.transit = none ∧ fld (s.cfg0 .WAKE_CFG) 31 16 ≠ 0) ∧
    (pwr (fun x => { x with transit := some .fromFoot, st := .foot }) d0).pwr.transit = some .fromFoot := by
  and_intros <;> first | exact admits_of (by decide) | decide

theorem witness_PowerFailAndClocks :
    (let s := pwr (fun x => { x with inReset := true, failLow := true }) d0
     s.pwr.inReset = true ∧ s.pwr.failLow = true) ∧
    (d0.pwr.inReset = false ∧ d0.pwr.failLow = false ∧ d0.pwr.failWrites = false ∧ mramVerdict d0 = .allowed) ∧
    (let s := pwr (fun x => { x with refLost := true }) d0
     s.pwr.refLost = true ∧ s.pwr.refLong = false) ∧
    (pwr (fun x => { x with st := .foot, failLow := true }) d0).pwr.failLow = true ∧ d0.pwr.st ≠ .foot ∧ d0.skein.flushing = none ∧
    (let s := pwr (fun x => { x with failLow := true, failWrites := true }) d0
     s.pwr.failWrites = true ∧ mramVerdict s = .allowed ∧ s.skein.clearWait = [] ∧ s.skein.unreported = 0) ∧
    upPortUp d0 = false ∧ upPortUp dW = true ∧ (pwr (fun x => { x with refLost := true }) d0).pwr.refLost = true ∧
    d0.pwr.footRc = false ∧ (pwr (fun x => { x with footRc := true }) d0).pwr.footRc = true ∧
    clockWanted d0 (.scan 6) = false ∧
    clockWanted (d0.modScan 6 fun x => { x with task := 6 }) (.scan 6) = true := by decide

/-! ## The Lid, the TAP and the generator -/

theorem witness_LidStates :
    (Admits .host ⟨.LID_CTRL, 0, 0, 0⟩ (mkWord [(13, 8, 7), (0, 0, 1)]) d0 ∧
      Admits .host ⟨.LID_CTRL, 0, 0, 0⟩ (mkWord [(13, 8, 33), (0, 0, 1)]) d0 ∧
      Admits .host ⟨.LID_CTRL, 0, 0, 0⟩ (mkWord [(13, 8, 8), (0, 0, 1)]) d0 ∧ d0.lid.rngFail = false ∧ d0.lid.lockLeft = 0 ∧
      d0.lid.checking = none) ∧
    (let s := lid (fun x => { x with lockLeft := 1 }) d0
     Admits .host ⟨.LID_CTRL, 0, 0, 0⟩ (mkWord [(13, 8, 32), (0, 0, 1)]) s ∧ s.lid.lockLeft ≠ 0) ∧
    (Admits .host ⟨.LID_CTRL, 0, 0, 0⟩ 2 d0 ∧ d0.lid.st = .closed ∧ Admits .host ⟨.LID_CTRL, 0, 0, 0⟩ 2 dF ∧ dF.lid.st ≠ .closed ∧
      dF.reg.busy = none) ∧
    (Admits .host ⟨.LID_CTRL, 0, 0, 0⟩ (mkWord [(13, 8, 32), (2, 2, 1)]) d0 ∧
      Admits .host ⟨.LID_CTRL, 0, 0, 0⟩ (mkWord [(13, 8, 8), (2, 2, 1)]) dF ∧ mramVerdict dF = .allowed) ∧
    (let s := thmS (fun x => { x with win := .closed }) dF
     Admits .host ⟨.LID_CTRL, 0, 0, 0⟩ (mkWord [(13, 8, 8), (2, 2, 1)]) s ∧ mramVerdict s = .refused) ∧
    (let s := { dF with reg := { dF.reg with busy := some .host } }
     Admits .host ⟨.LID_CTRL, 0, 0, 0⟩ 2 s ∧ s.lid.st ≠ .closed ∧ s.reg.busy ≠ none) ∧
    (lid (fun x => { x with checking := some ⟨8, 0, false⟩ }) d0).lid.checking = some ⟨8, 0, false⟩ ∧
    fld ((set dF .LID_CFG 0 0 5).cfg0 .LID_CFG) 7 0 ≠ 0 ∧ fld ((set dF .LID_CFG 0 0 0).cfg0 .LID_CFG) 7 0 = 0 := by
  and_intros <;> first | exact admits_of (by decide) | decide

/-- A Lid record whose password is eight bytes of zero. -/
def lidRec : LidRecord := { d0.lid.recA with good := true, salt := 0, hash := pwHash 0 (leBytes 8 0) }

theorem witness_LidStates_password :
    lidRecord { d0 with lid := { d0.lid with recA := lidRec, recB := { d0.lid.recB with good := false } } } = some (false, lidRec) ∧
    lidRec.hash = pwHash lidRec.salt (leBytes 8 0) := by
  refine ⟨?_, ?_⟩
  · simp [lidRecord, lidRec]
  · simp only [lidRec]

theorem witness_LidStates_failures :
    (lid (fun x => { x with checking := some ⟨8, 0, false⟩, fails := 9 }) d0).lid.fails = 9 ∧ satInc 255 9 = 10 := by decide

theorem witness_TapInstructions :
    (d0.lid.st = .closed ∧ dF.lid.st = .factory ∧ (lid (fun x => { x with st := .service }) d0).lid.st ≠ .closed) ∧
    ((lid (fun x => { x with rngFail := true }) d0).lid.rngFail = true ∧ d0.lid.rngFail = false) ∧
    ((lid (fun x => { x with lockLeft := 5 }) d0).lid.lockLeft ≠ 0 ∧ d0.lid.lockLeft = 0) ∧
    ((lid (fun x => { x with chal := some (1, 7, 0) }) d0).lid.chal = some (1, 7, 0) ∧ d0.time.ft < 0 + 60000000000 ∧
      d0.lid.chal = none) ∧
    (dF.tap.hmWait = none ∧ hmemPlace (0x7FFFF / 4 * 4) = some (.handleSram, 0x7FFFC) ∧
      hmemPlace 0x40000000 = some (.mram, 0) ∧ hmemPlace 0x80000 = none ∧ Memory.wf dF.mem = true) ∧
    (dF.lash.srcs[srcOf 9]).sev = 4 := by decide

/-! ## Further clauses

The clauses that name Config.verifies, Config.routesLegal or Config.otpKey (a good certificate, a good package, a good
response, a legal set of route tables) rest on constants without a body, so no closed term can be shown to meet them. -/

/-- A lean group of strand 15 whose burst came 2 ms ago in a period of 5 ms. -/
theorem witness_LeanEnter :
    (let s := { (set (set dU .LEAN_CFG 6 3 0x80000000) .LEAN_MASK 6 3 0x8000).modLean 6 3 fun x => { x with burst := some 0 } with
       time := { dU.time with ft := 2000000 } }
     bit (s.cfg2 .LEAN_CFG 6 3) 31 = true ∧ (leanUp s 6 3).all (ugShut s 6) = true ∧
       leanOutside s 6 3 (leanLmax s 6 3) = true) := by decide

/-! ## Commands that are not well formed -/

/-- Each check of Instr.wf refuses a command. -/
theorem test_ill_formed :
    ∀ c ∈ [Instr.registerWrite .host 0 0 0, .registerWrite .host 9 0 0,
      .blockAtPointIn 0 0 true (List.replicate 65 ⟨0, 0⟩) 0 [] [] true, .blockAtPointIn 0 0 true [⟨2147483648, 0⟩] 0 [] [] true,
      .blockAtPointIn 0 0 true [] 65 [] [] true, .blockAtPointIn 0 0 true [] 0 [⟨0, -2147483649⟩] [] true,
      .blockAtPointIn 0 0 true [] 0 [] (List.replicate 65 ⟨0, 0⟩) true,
      .adcOverload 0 0 16384, .messageArrival 0 0 0 (List.replicate 31 0),
      .presenceCheckDone 0 0 (List.replicate 9 (true, 0, 0)), .presenceCheckDone 0 0 [(true, 32768, 0)],
      .scanTaskDone 0 0 0 (List.replicate 9 (true, 0, 0)), .scanTaskDone 0 0 0 [(true, 0, 1024)],
      .rffeTransactionDone 0 65536 true, .authHello 0 (2 ^ 64) 0 0 0, .authHello 0 0 0 (2 ^ 256 * 2 ^ 256 * 2 ^ 256 * 256) 0, .authHello 0 0 0 0 (2 ^ 256),
      .authCert 0 [] 0, .authCert 0 [0] (2 ^ 256 * 2 ^ 256 * 2 ^ 256), .time 0 (2 ^ 48), .timeRx 0 (2 ^ 48),
      .streamFrameRx 0 (List.replicate 198 0) 0, .waleMessage 0 (hdr 1) (List.replicate 31 0), .waleBulkWrite 0 (hdr 1) 0 [],
      .waleBulkWrite 0 (hdr 1) 0 (List.replicate 249 0), .discoveryClaim 0 (hdr 1) (2 ^ 64) false 0,
      .routeTableLoad 0 (hdr 1) 0 (List.replicate 63 0), .linkEvent 0 (hdr 1) 0 0 (2 ^ 64),
      .responseFrameRx 0 (hdr 1) 0 (List.replicate 256 0), .admissionAnswer 0 (hdr 1) 0 (2 ^ 32) 0,
      .caneBulkWrite (ch true false 0) 0 [], .caneBulkWrite (ch true false 0) 0 (List.replicate 249 0),
      .lidresp (2 ^ 256 * 2 ^ 256 * 2 ^ 256), .lidpw 8 (2 ^ 256), .tapHalt 256], c.wf = false := by decide

theorem test_well_formed :
    ∀ c ∈ [Instr.registerWrite .host 4 0 0, .adcOverload 0 0 16383, .messageArrival 0 0 0 (List.replicate 32 0),
      .scanTaskDone 0 0 0 [(true, -32768, 1023)], .streamFrameRx 0 (List.replicate 263 0) 0, .tapHalt 255, .halt (.coil 23)],
      c.wf = true := by decide

/-- No row of the table has bits. -/
theorem test_no_word : decodeTableWord 0 0 = none ∧ d0.withFetchWord 0 0 = d0 := by decide

/-! ## Worked examples of spec/ -/

/-- The words of 07_withy_reference.md, Encoding examples: OP, PRED, DST, SA, SB, MOD and IMM of each. -/
theorem test_withy_words :
    ([0x0400400100000000, 0xE008400100000000, 0x7C08C00300000400, 0xFA00C00000000101, 0x4C11100100000000, 0x7610020200000000,
      0xF000000000000004].map fun w => (wname (wparse w), wparse w)) =
    [(some .wrout, ⟨1, 0, 0, 1, 0, 1, 0⟩), (some .frecv, ⟨0x38, 0, 1, 1, 0, 1, 0⟩), (some .scmp, ⟨0x1F, 0, 1, 3, 0, 3, 0x400⟩),
     (some .event, ⟨0x3E, 2, 0, 3, 0, 0, 0x101⟩), (some .vmacc, ⟨0x13, 0, 2, 4, 8, 1, 0⟩), (some .xmul, ⟨0x1D, 2, 2, 0, 1, 2, 0⟩),
     (some .loop, ⟨0x3C, 0, 0, 0, 0, 0, 4⟩)] := by decide

/-- The word with a nonzero IMM[1:0] is refused; the zero SMUL is accepted by both profiles, the zero VFRAC by the stream
profile alone (the same example). -/
theorem test_withy_word_rules :
    wordOk true 0 255 (wparse 0x0400400100000000) = true ∧ wordOk true 0 255 (wparse 0x0400400100000002) = false ∧
    wordOk true 0 255 (wparse 0x6C00000000000000) = true ∧ wordOk false 0 255 (wparse 0x6C00000000000000) = true ∧
    wordOk true 0 255 (wparse 0x8C00000000000000) = true ∧ wordOk false 0 255 (wparse 0x8C00000000000000) = false := by decide

/-- The state after a command. -/
def after (c : Instr) (s : State) : State := match exec c s with | .next t => t | _ => s

/-- A lane of a register of strand 6.7. -/
def lane (s : State) (n l : Nat) : Cx := (vReg s 6 7 n)[Fin.ofNat 16 l]

/-- A vector register with one lane. -/
def putLane (n : Nat) (z : Cx) (s : State) : State := putV 6 7 n (vset (Vector.replicate 16 ⟨0, 0⟩) 0 z) s

/-- VCMUL v3, v1, v2 on (0.75, 0.75) clamps Q and sets SAT (07_withy_reference.md, R261's example). -/
theorem test_vcmul_saturates :
    (let t := after (.vcmul (.strand 6 7)) (putLane 1 ⟨6291456, 6291456⟩ (putLane 2 ⟨6291456, 6291456⟩
        (exS (upper 0x12 0 3 1 2 0) 0)))
     lane t 3 0 = ⟨0, 8388607⟩ ∧ (t.prog 6 7).fSat = true) := by decide +kernel

/-- VPEAK of full scale, and SDB of it (07_withy_reference.md, R284's example). -/
theorem test_vpeak_sdb :
    sReg (after (.vpeak (.strand 6 7)) (putLane 2 ⟨32767 * 256, 0⟩ (exS (upper 0x30 0 1 2 0 0) 0))) (.strand 6 7) 1 = 1073676289 ∧
    sReg (after (.sdb (.strand 6 7)) (putS (.strand 6 7) 2 1073676289 (exS (upper 0x34 0 1 2 0 0) 0))) (.strand 6 7) 1 = 301 := by
  decide +kernel

/-- The strand block of 3.10, the limiter of 3.S0 and the words of 4.2 (00_scope.md, 20_address_map.md and
01_architecture.md, worked examples). -/
theorem test_addresses :
    keyAddr ⟨.STR_CTRL, 2, 10, 0⟩ / 0x1000 = 0x01C2A ∧ keyAddr ⟨.STR_CTRL, 3, 2, 0⟩ / 0x1000 = 0x02022 ∧
    addrDecode 0x01C88200 = some (.reg ⟨.LIM_LEVEL, 2, 2, 0⟩) ∧ addrDecode 0x0142000C = some (.reg ⟨.STR_LAT, 0, 0, 0⟩) ∧
    keyAddr ⟨.PRC_CTRL, 1, 2, 0⟩ = 0x018C0200 := by decide

/-- A host write to the Skein ring is denied, and DENY_ADDR holds it (20_address_map.md, worked example). -/
theorem test_denied :
    (let t := after (.registerWrite .host 4 0x41400000 1) d0
     t.done.code = .accessDenied ∧ (regValue ⟨.DENY_ADDR, 0, 0, 0⟩ t) = 0x41400000) := by decide

/-- The second-zone band of 2.1 meets the band of 2.0 (02_converters_riddle.md, worked example): f_c of 3 870.72 MHz and
6 451.20 MHz with 100 MHz. -/
theorem test_alias :
    zoneOf 0x600000000000 = false ∧ zoneOf 0xA00000000000 = true ∧
    (bandOf 0x600000000000 2000).alias = bandOf 0xA00000000000 2000 := by decide

/-- The ALC of 2.3 (03_strands.md, worked example): GAIN 45.00, TARGET -18.00, P_in -51.00 dBFS, ATTACK 2. -/
theorem test_alc :
    ([1, 2, 3].map fun n => (List.range n).foldl (fun g _ => alcStep g (-1800) (-5100) 900 2 10) (45 * 65536)) =
      [42 * 65536, 39 * 65536 + 49152, 38 * 65536 + 4096] ∧ alcRound (38 * 65536 + 4096) = 761 := by decide

/-- The request header of a local read with tag 5 (13_cane_link.md, worked example) answers with these bytes before its
SEQ. -/
theorem test_cane_response :
    (let s := after (.caneRegisterRead ⟨5, true, false, 0, 0, 0⟩ 0x0142000C) (caneIn .up)
     let t := after (.caneResponseReady 5) s
     (t.cane.sent.map fun l => l.take 6) = [[0x25, 0, 0xBF, 0, 4, 0]]) := by decide

/-- The tenth failed attempt locks the Lid for 1 s and the eleventh for 2 s (19_lid_security.md, worked example). -/
theorem test_lockout :
    ([8, 9, 10].map fun n => min (2 ^ (satInc 255 n - 10)) 65536) = [1, 1, 2] ∧
    (after (.lidOpen .host 32) (lid (fun x => { x with lockLeft := 1, fails := 10 }) d0)).done.code = .busy ∧
    (after (.lidOpen .host 32) (lid (fun x => { x with lockLeft := 1, fails := 10 }) d0)).lid.fails = 10 := by decide

/-- IDCODE of a ZVX-4208 (R565). -/
theorem test_idcode : (after .idcode d0).tap.shiftOut % 4096 = 0x5CB := by decide

/-- Writes that arrive and are refused by their register's rules: both bits of STR_CTRL and STR_GROUP, PRG_PARAM while
parameters wait; and a block of zeros at the level stage. -/
theorem witness_RefusedByRule :
    (Arrives .host ⟨.STR_CTRL, 6, 7, 0⟩ 3 d3 ∧ bit (3 : Word) 0 = true ∧ bit (3 : Word) 1 = true) ∧
    (Arrives .host ⟨.STR_GROUP, 6, 0, 0⟩ 0x80008000 d3 ∧ bit (0x80008000 : Word) 15 = true ∧ bit (0x80008000 : Word) 31 = true) ∧
    (let s := d3.modProg 6 7 fun p => { p with paramWait := true }
     Arrives .host ⟨.PRG_PARAM, 6, 7, 7⟩ 1 s ∧ (s.prog 6 7).paramWait = true) ∧
    (let b : Block := ⟨true, List.replicate 64 ⟨0, 0⟩, 0, []⟩
     ((d3.modStrand 6 7 fun t => { t with toLevel := [b] }).strand 6 7).toLevel = [b] ∧ b.valid = true ∧
       ∀ z ∈ b.xs, z = ⟨0, 0⟩) := by
  and_intros <;> first | exact arrives_of (by decide) | decide
end Sys2Proof.Tests
end

section
/-!
PROOFS. The NCO's APPLY and the swap requests (02_converters_riddle.md R55, R61, R62, R81, R82, R86, R89, R208).
-/
namespace Sys2Proof.Machine
open Sys2Proof

/-! ## Admitted register writes, by the effect that the register gives -/

/-- An admitted write completes with its effect's code, and only the logs and the report of Lean come beside the effect. -/
theorem writeReg_effect {o : Origin} {x : RegKey} {w : Word} {s e : State} {c : Code} (h : Admits o x w s)
    (hw : writable x.reg = true) (he : regEffect o x w s = (c, e)) :
    (writeReg o x w s).done = ⟨c, 0⟩ ∧ KeepsBut logParts e (writeReg o x w s) := by
  obtain ⟨a, b, q, l, g⟩ := writeReg_admitted h hw
  rw [g, he]
  refine ⟨rfl, fun p hp => ?_⟩
  cases p <;> first | rfl | exact absurd (by decide) hp

/-- A command that changed one band die and then logged: the die is as the change left it, and only the band dies and the
logs differ from before. -/
theorem KeepsBut.of_modDie {s t : State} {k : DieIx} {f : Die → Die} (h : KeepsBut logParts (s.modDie k f) t) :
    t.dies = (s.modDie k f).dies ∧ KeepsBut (.dies :: logParts) s t :=
  ⟨h .dies (by decide), ((modDie_keeps k f s).mono (by decide)).trans (h.mono fun _ => List.mem_cons_of_mem _)⟩

/-- A riddle register without RW fields has its effect on the state as it stands. -/
theorem regEffect_riddle_storeless {o : Origin} {x : RegKey} {w : Word} {s : State} (h : x.reg.chapter = .riddle)
    (hm : storedMask x.reg = 0) : regEffect o x w s = writeStrand x.reg (Fin.ofNat 7 x.i) x.j w s s := by
  have ht : x.reg ≠ .TAP := fun e => by simp [e] at h
  rw [regEffect_riddle h, storeRw_none hm ht]

/-- Writing APPLY to NCO_CTRL is `ncoApply`. -/
theorem regEffect_apply (o : Origin) (k : DieIx) (i : StrandIx) (s : State) :
    regEffect o ⟨.NCO_CTRL, k.val, i.val, 0⟩ 1 s = ncoApply k i s := by
  rw [regEffect_riddle_storeless (by simp) (by simp)]
  have hbit : bit 1 0 = true := by decide
  simp only [writeStrand, hbit, if_true, dieIx_val, strandIx_val]

/-- The word of SWAP_REQ gives back its target and its fade exponent. -/
theorem swapWord_fields (b : Fin 2) (K : Fin 16) :
    fld (mkWord [(8, 8, b.val), (3, 0, K.val)]) 8 8 = b.val ∧ fld (mkWord [(8, 8, b.val), (3, 0, K.val)]) 3 0 = K.val := by
  simp only [fld, mkWord, List.foldl, BitVec.toNat_ofNat]
  omega

/-- The word of RDL_GROUP_SWAP gives back its mask, its target and its fade exponent. -/
theorem groupSwapWord_fields (mask : BitVec 16) (b : Fin 2) (K : Fin 16) :
    fld (mkWord [(24, 24, b.val), (19, 16, K.val), (15, 0, mask.toNat)]) 15 0 = mask.toNat ∧
    fld (mkWord [(24, 24, b.val), (19, 16, K.val), (15, 0, mask.toNat)]) 24 24 = b.val ∧
    fld (mkWord [(24, 24, b.val), (19, 16, K.val), (15, 0, mask.toNat)]) 19 16 = K.val := by
  have hm : mask.toNat < 2 ^ 16 := mask.isLt
  simp only [fld, mkWord, List.foldl, BitVec.toNat_ofNat]
  omega

/-- Writing SWAP_REQ is `swapRequest`. -/
theorem regEffect_swap (o : Origin) (k : DieIx) (i : StrandIx) (b : Fin 2) (K : Fin 16) (s : State) :
    regEffect o ⟨.SWAP_REQ, k.val, i.val, 0⟩ (mkWord [(8, 8, b.val), (3, 0, K.val)]) s =
      (.ok, swapRequest k i b K.val s) := by
  obtain ⟨hb, hK⟩ := swapWord_fields b K
  rw [regEffect_riddle_storeless (by simp) (by simp)]
  simp only [writeStrand, hb, hK, Fin.ofNat_val_eq_self]

/-- Writing RDL_GROUP_SWAP is `groupSwap`. -/
theorem regEffect_groupSwap (o : Origin) (k : DieIx) (mask : BitVec 16) (b : Fin 2) (K : Fin 16) (s : State) :
    regEffect o ⟨.RDL_GROUP_SWAP, k.val, 0, 0⟩ (mkWord [(24, 24, b.val), (19, 16, K.val), (15, 0, mask.toNat)]) s =
      groupSwap k mask.toNat b K.val s := by
  obtain ⟨hm, hb, hK⟩ := groupSwapWord_fields mask b K
  rw [regEffect_riddle_storeless (by simp) (by simp)]
  simp only [writeStrand, hm, hb, hK, Fin.ofNat_val_eq_self]

/-! ## Running strands -/

theorem isRunning_iff {s : State} {k : DieIx} {i : StrandIx} : isRunning s k i = true ↔ (s.strand k i).st ≠ .stopped := by
  simp [isRunning]

theorem isRunning_eq_false_iff {s : State} {k : DieIx} {i : StrandIx} :
    isRunning s k i = false ↔ (s.strand k i).st = .stopped := by
  simp [isRunning]

/-- A change of a riddle chain leaves the state of every strand. -/
@[simp] theorem strand_modRid (s : State) (k k' : DieIx) (i i' : StrandIx) (f : Riddle → Riddle) :
    (s.modRid k i f).strand k' i' = s.strand k' i' := by
  simp only [State.strand_eq, State.modRid_eq, State.modDie_dies, Fin.getElem_fin, vmod_getElem]
  split <;> rfl

/-! ## The cases of an APPLY (R55, R61, R62, R208) -/

/-- While an APPLY is pending another changes nothing (R61). -/
theorem ncoApply_pending {k : DieIx} {i : StrandIx} {s : State} (hp : (s.rid k i).pending = true) :
    ncoApply k i s = (.ok, s) := by
  simp only [ncoApply, hp, if_true]

/-- On a stopped strand an APPLY commits at once (R62). -/
theorem ncoApply_stopped {k : DieIx} {i : StrandIx} {s : State} (hp : (s.rid k i).pending = false)
    (hs : (s.strand k i).st = .stopped) :
    ncoApply k i s = (.ok, s.modRid k i fun r =>
      { r with phase := phaseAt r s.time.ft, phaseFt := s.time.ft, ftw := stagedFtw s k i,
               phOff := (s.cfg2 .NCO_PHASE k i).toNat, pending := false, cfgFault := 0 }) := by
  have hr : isRunning s k i = false := isRunning_eq_false_iff.mpr hs
  simp only [ncoApply, hp, hr, Bool.false_eq_true, Bool.not_false, if_false, if_true, ncoCommit, State.modRid_eq,
    State.modDie_modDie, vmod_vmod]

section Running
variable {k : DieIx} {i : StrandIx} {s : State} (hp : (s.rid k i).pending = false)
  (hr : (s.strand k i).st ≠ .stopped)
include hp hr

/-- On a running strand an APPLY that the placement refuses leaves its cause (R55). -/
theorem ncoApply_misplaced (hf : placeFault s k i (stagedFtw s k i) ≠ 0) :
    ncoApply k i s = (.badProgram, s.modRid k i fun r => { r with cfgFault := placeFault s k i (stagedFtw s k i) }) := by
  simp only [ncoApply, hp, isRunning_iff.mpr hr, Bool.false_eq_true, Bool.not_true, if_false, if_pos hf]

/-- On a running strand with an output an APPLY that the regulatory record refuses leaves its cause (R208). -/
theorem ncoApply_unlicensed (hf : placeFault s k i (stagedFtw s k i) = 0) (ho : hasOutput s k i = true)
    (hg : regFaultBand s k i (stagedFtw s k i) ≠ 0) :
    ncoApply k i s = (.lockedRegulatory, s.modProt k i fun p =>
      { p with regFault := regFaultBand s k i (stagedFtw s k i) }) := by
  simp only [ncoApply, hp, isRunning_iff.mpr hr, hf, ho, ne_eq, not_true, Bool.false_eq_true, Bool.not_true, if_false,
    if_true, if_pos hg]

/-- On a running strand an APPLY that both allow waits for its boundary (R62). -/
theorem ncoApply_waits (hf : placeFault s k i (stagedFtw s k i) = 0)
    (hg : hasOutput s k i = true → regFaultBand s k i (stagedFtw s k i) = 0) :
    ncoApply k i s = (.ok, s.modRid k i fun r => { r with pending := true, cfgFault := 0 }) := by
  have hn : (if hasOutput s k i then regFaultBand s k i (stagedFtw s k i) else 0) = 0 := by
    split
    · rename_i ho; exact hg ho
    · rfl
  simp only [ncoApply, hp, isRunning_iff.mpr hr, hf, hn, ne_eq, not_true, Bool.false_eq_true, Bool.not_true, if_false]

end Running

/-! ## The cases of a swap request (R81, R82, R86, R89) -/

/-- A request on a running strand becomes pending, in place of an earlier one (R81, R86). -/
theorem swapRequest_running {k : DieIx} {i : StrandIx} {s : State} (b : Fin 2) (K : Nat)
    (hr : (s.strand k i).st ≠ .stopped) : swapRequest k i b K s = s.modRid k i fun r =>
      { r with replaced := r.replaced || r.pend.isSome, pend := some (b, K) } := by
  simp only [swapRequest, isRunning_iff.mpr hr, Bool.not_true, Bool.false_eq_true, if_false]

/-- A request on a stopped strand makes its target the active bank (R82). -/
theorem swapRequest_stopped {k : DieIx} {i : StrandIx} {s : State} (b : Fin 2) (K : Nat)
    (hs : (s.strand k i).st = .stopped) : swapRequest k i b K s = s.modRid k i fun r => { r with active := b } := by
  simp only [swapRequest, isRunning_eq_false_iff.mpr hs, Bool.not_false, if_true]

/-- Requests on running strands, in order: each becomes pending, as none of them stops another strand. -/
theorem each_swapRequest_running {k : DieIx} (b : Fin 2) (K : Nat) (l : List StrandIx) (s : State)
    (hr : ∀ j ∈ l, (s.strand k j).st ≠ .stopped) :
    (s.each l fun j s => swapRequest k j b K s) = s.each l fun j s => s.modRid k j fun r =>
      { r with replaced := r.replaced || r.pend.isSome, pend := some (b, K) } := by
  induction l generalizing s with
  | nil => rfl
  | cons j l ih =>
    simp only [State.each, List.foldl_cons] at ih ⊢
    rw [swapRequest_running b K (hr j List.mem_cons_self)]
    refine ih _ fun j' hj' => ?_
    rw [strand_modRid]
    exact hr j' (List.mem_cons_of_mem j hj')

/-- The condition of a group swap: every masked strand runs, and all at one rate (R89). -/
theorem groupSwap_condition_iff (k : DieIx) (l : List StrandIx) (s : State) :
    (l.all fun i => isRunning s k i && l.all fun j => rdlH s k i == rdlH s k j) = true ↔
      ∀ j ∈ l, (s.strand k j).st ≠ .stopped ∧ ∀ j' ∈ l, rdlH s k j = rdlH s k j' := by
  simp only [List.all_eq_true, Bool.and_eq_true, beq_iff_eq, isRunning_iff]

/-- A group of running strands of one rate: each has the request pending (R89). -/
theorem groupSwap_requested {k : DieIx} {m : Nat} (b : Fin 2) (K : Nat) {s : State}
    (h : ∀ j ∈ maskStrands m, (s.strand k j).st ≠ .stopped ∧ ∀ j' ∈ maskStrands m, rdlH s k j = rdlH s k j') :
    groupSwap k m b K s = (.ok, s.each (maskStrands m) fun j s => s.modRid k j fun r =>
      { r with replaced := r.replaced || r.pend.isSome, pend := some (b, K) }) := by
  simp only [groupSwap, if_pos ((groupSwap_condition_iff k _ s).mpr h)]
  rw [each_swapRequest_running b K _ s fun j hj => (h j hj).1]

/-- A group with a stopped strand or with two rates: nothing changes (R89). -/
theorem groupSwap_refused {k : DieIx} {m : Nat} (b : Fin 2) (K : Nat) {s : State}
    (h : ∃ j ∈ maskStrands m, (s.strand k j).st = .stopped ∨ ∃ j' ∈ maskStrands m, rdlH s k j ≠ rdlH s k j') :
    groupSwap k m b K s = (.badProgram, s) := by
  obtain ⟨j, hj, hbad⟩ := h
  have hn : ¬ ∀ j ∈ maskStrands m, (s.strand k j).st ≠ .stopped ∧ ∀ j' ∈ maskStrands m, rdlH s k j = rdlH s k j' := by
    intro hall
    obtain ⟨hrun, hrate⟩ := hall j hj
    rcases hbad with hst | ⟨j', hj', hne⟩
    · exact hrun hst
    · exact hne (hrate j' hj')
  simp only [groupSwap, if_neg (mt (groupSwap_condition_iff k _ s).mp hn)]

/-! ## The commands -/

section Commands
variable {o : Origin} {k : DieIx} {s e : State} {c : Code}

/-- APPLY as a command that its effect accepts. -/
theorem exec_ncoApply_accepted {i : StrandIx} (h : Admits o ⟨.NCO_CTRL, k.val, i.val, 0⟩ 1 s)
    (he : ncoApply k i s = (.ok, e)) : Answers (exec (.ncoApply o k i) s) (Accepted e) :=
  ⟨_, rfl, writeReg_accepted h (by simp) ((regEffect_apply o k i s).trans he)⟩

/-- APPLY as a command that its effect refuses with a change of the strand's die. -/
theorem exec_ncoApply_refused {i : StrandIx} {f : Die → Die} (h : Admits o ⟨.NCO_CTRL, k.val, i.val, 0⟩ 1 s)
    (he : ncoApply k i s = (c, s.modDie k f)) : Answers (exec (.ncoApply o k i) s) fun t =>
      t.done = ⟨c, 0⟩ ∧ t.dies = (s.modDie k f).dies ∧ KeepsBut (.dies :: logParts) s t := by
  obtain ⟨hd, hk⟩ := writeReg_effect h (by simp) ((regEffect_apply o k i s).trans he)
  exact ⟨_, rfl, hd, hk.of_modDie⟩

/-- SWAP_REQ as a command. -/
theorem exec_swapReq_accepted {i : StrandIx} {b : Fin 2} {K : Fin 16}
    (h : Admits o ⟨.SWAP_REQ, k.val, i.val, 0⟩ (mkWord [(8, 8, b.val), (3, 0, K.val)]) s) :
    Answers (exec (.swapReq o k i b K) s) (Accepted (swapRequest k i b K.val s)) :=
  ⟨_, rfl, writeReg_accepted h (by simp) (regEffect_swap o k i b K s)⟩

/-- RDL_GROUP_SWAP as a command that its effect accepts. -/
theorem exec_rdlGroupSwap_accepted {mask : BitVec 16} {b : Fin 2} {K : Fin 16}
    (h : Admits o ⟨.RDL_GROUP_SWAP, k.val, 0, 0⟩ (mkWord [(24, 24, b.val), (19, 16, K.val), (15, 0, mask.toNat)]) s)
    (he : groupSwap k mask.toNat b K.val s = (.ok, e)) :
    Answers (exec (.rdlGroupSwap o k mask b K) s) (Accepted e) :=
  ⟨_, rfl, writeReg_accepted h (by simp) ((regEffect_groupSwap o k mask b K s).trans he)⟩

/-- RDL_GROUP_SWAP as a command that its effect refuses. -/
theorem exec_rdlGroupSwap_refused {mask : BitVec 16} {b : Fin 2} {K : Fin 16}
    (h : Admits o ⟨.RDL_GROUP_SWAP, k.val, 0, 0⟩ (mkWord [(24, 24, b.val), (19, 16, K.val), (15, 0, mask.toNat)]) s)
    (he : groupSwap k mask.toNat b K.val s = (c, s)) :
    Answers (exec (.rdlGroupSwap o k mask b K) s) fun t => t.done = ⟨c, 0⟩ ∧ KeepsBut logParts s t :=
  ⟨_, rfl, writeReg_effect h (by simp) ((regEffect_groupSwap o k mask b K s).trans he)⟩

end Commands

/-- Settles O11: each clause is the write's effect in one case of `ncoApply`, `swapRequest` or `groupSwap`. -/
theorem applyAndSwap : Obligations.ApplyAndSwap := by
  unfold Obligations.ApplyAndSwap
  refine ⟨fun o k i s h => ⟨fun hp => ?pending, fun hp => ⟨fun hs => ?stopped, fun hr hf hg => ?waits,
      fun hr hf => ?misplaced, fun hr hf ho hg => ?unlicensed⟩⟩,
    fun o k i mask b K s => ⟨fun h => ⟨fun hr => ?swapRunning, fun hs => ?swapStopped⟩,
      fun h => ⟨fun hg => ?groupRequested, fun hg => ?groupRefused⟩⟩⟩
  case pending => exact exec_ncoApply_accepted h (ncoApply_pending hp)
  case stopped => exact exec_ncoApply_accepted h (ncoApply_stopped hp hs)
  case waits => exact exec_ncoApply_accepted h (ncoApply_waits hp hr hf hg)
  case misplaced => exact exec_ncoApply_refused h (ncoApply_misplaced hp hr hf)
  case unlicensed => exact exec_ncoApply_refused h (ncoApply_unlicensed hp hr hf ho hg)
  case swapRunning => exact swapRequest_running b K.val hr ▸ exec_swapReq_accepted h
  case swapStopped => exact swapRequest_stopped b K.val hs ▸ exec_swapReq_accepted h
  case groupRequested => exact exec_rdlGroupSwap_accepted h (groupSwap_requested b K.val hg)
  case groupRefused => exact exec_rdlGroupSwap_refused h (groupSwap_refused b K.val hg)

end Sys2Proof.Machine
end

section
/-!
PROOFS. Frames of the strands: what changes at most one band die, and of its strands nothing that a view shows.
-/
namespace Sys2Proof.Machine
open Sys2Proof

/-! ## The frame of the strands -/

/-- The second state differs from the first in one band die, and in neither register words nor memory; a view of each
strand of that die is as it was. -/
structure StrandFrame {β : Type} (π : Strand → β) (k : DieIx) (s t : State) : Prop where
  strand : ∀ i : StrandIx, π (t.strand k i) = π (s.strand k i)
  other : OtherDies k s t
  regs : t.regs = s.regs
  mem : t.mem = s.mem

namespace StrandFrame
variable {β : Type} {π : Strand → β} {k : DieIx} {s t u : State}

theorem refl : StrandFrame π k s s := ⟨fun _ => rfl, OtherDies.refl k s, rfl, rfl⟩

theorem trans (h : StrandFrame π k s t) (g : StrandFrame π k t u) : StrandFrame π k s u :=
  ⟨fun i => (g.strand i).trans (h.strand i), h.other.trans g.other, g.regs.trans h.regs, g.mem.trans h.mem⟩

theorem each {α : Type} {f : α → State → State} (h : ∀ a s, StrandFrame π k s (f a s)) (l : List α) (s : State) :
    StrandFrame π k s (s.each l f) := by
  induction l generalizing s with
  | nil => exact refl
  | cons a l ih => exact (h a s).trans (ih (f a s))

/-- A change outside the band dies. -/
theorem of_dies (hd : t.dies = s.dies) (hr : t.regs = s.regs) (hm : t.mem = s.mem) : StrandFrame π k s t :=
  ⟨fun i => by rw [State.strand_eq, State.strand_eq, hd], OtherDies.of_eq hd, hr, hm⟩

theorem of_log (h : LogOnly s t) : StrandFrame π k s t := of_dies h.dies h.regs h.mem

theorem of_drive (h : DriveOnly s t) : StrandFrame π k s t := by
  obtain ⟨a, b, c, rfl⟩ := h
  exact of_dies rfl rfl rfl

/-- What a register write leaves beside its effect. -/
theorem of_keeps (h : KeepsBut logParts s t) : StrandFrame π k s t :=
  of_dies (h .dies (by decide)) (h .regs (by decide)) (h .mem (by decide))

/-! A further change keeps the frame when it leaves the strands of the die, or what the view shows of one. -/

theorem modDie {f : Die → Die} (h : StrandFrame π k s t) (hf : ∀ d, (f d).strands = d.strands) :
    StrandFrame π k s (t.modDie k f) := by
  refine h.trans ⟨fun i => ?_, modDie_other k f t, rfl, rfl⟩
  simp [State.strand_eq, hf]

theorem modStrand {i : StrandIx} {f : Strand → Strand} (h : StrandFrame π k s t)
    (hf : ∀ x, π (f x) = π x := by intro x; rfl) : StrandFrame π k s (t.modStrand k i f) := by
  refine h.trans ⟨fun j => ?_, modDie_other k _ t, rfl, rfl⟩
  by_cases e : i.val = j.val <;> simp [State.strand_eq, e, hf]

theorem modRid {i : StrandIx} {f : Riddle → Riddle} (h : StrandFrame π k s t) : StrandFrame π k s (t.modRid k i f) :=
  h.modDie fun _ => rfl
theorem modProg {i : StrandIx} {f : Prog → Prog} (h : StrandFrame π k s t) : StrandFrame π k s (t.modProg k i f) :=
  h.modDie fun _ => rfl
theorem modPort {p : PortIx} {f : Port → Port} (h : StrandFrame π k s t) : StrandFrame π k s (t.modPort k p f) :=
  h.modDie fun _ => rfl
theorem modCanc {i : StrandIx} {f : Canc → Canc} (h : StrandFrame π k s t) : StrandFrame π k s (t.modCanc k i f) :=
  h.modDie fun _ => rfl
theorem modGuard {i : StrandIx} {f : Guard → Guard} (h : StrandFrame π k s t) : StrandFrame π k s (t.modGuard k i f) :=
  h.modDie fun _ => rfl
theorem modProt {i : StrandIx} {f : Prot → Prot} (h : StrandFrame π k s t) : StrandFrame π k s (t.modProt k i f) :=
  h.modDie fun _ => rfl
theorem modList {e : Fin 8} {f : PresList → PresList} (h : StrandFrame π k s t) : StrandFrame π k s (t.modList k e f) :=
  h.modDie fun _ => rfl

end StrandFrame

theorem strand_modStrand_same (k : DieIx) (i : StrandIx) (f : Strand → Strand) (s : State) :
    (s.modStrand k i f).strand k i = f (s.strand k i) := by
  simp [State.strand_eq]

theorem strand_modStrand_ne {k : DieIx} {i j : StrandIx} (h : j ≠ i) (f : Strand → Strand) (s : State) :
    (s.modStrand k i f).strand k j = s.strand k j := by
  have hv : ¬ i.val = j.val := fun e => h (Fin.ext e.symm)
  simp [State.strand_eq, hv]

/-! ## Operations that leave every strand -/

section Kept
variable {β : Type} (π : Strand → β) (k : DieIx) (i : StrandIx) (s : State)

theorem checkBroken_frame (g : List StrandIx) : StrandFrame π k s (checkBroken k g s) := by
  unfold checkBroken
  split
  · dsimp only
    split
    · exact .refl
    · exact .trans (.each (fun _ _ => StrandFrame.refl.modCanc) _ _) (.of_log (skeinEvent_log ..))
  · exact .refl

theorem computeCap_frame (g : List StrandIx) : StrandFrame π k s (computeCap k g s) := by
  unfold computeCap
  split
  · exact .trans (.each (fun _ _ => StrandFrame.refl.modCanc) g s) (checkBroken_frame ..)
  · exact .refl

theorem reformGroups_frame : StrandFrame π k s (reformGroups k s) := by
  unfold reformGroups
  refine .trans (.trans (.each (fun _ _ => StrandFrame.refl.modCanc) _ s) (.each (fun x s => ?cleared) _ _))
    (.each (fun x s => ?computed) _ _)
  case cleared =>
    split
    · exact .refl
    · exact StrandFrame.refl.modCanc
  case computed =>
    dsimp only
    split
    · exact .trans (.each (fun _ _ => StrandFrame.refl.modCanc) _ s) (computeCap_frame ..)
    · exact .refl

theorem traceTrig_drive (c : CoilIx) (n : Nat) : DriveOnly s (traceTrig c n s) := by
  unfold traceTrig; dsimp only; split
  · exact ⟨_, _, _, rfl⟩
  · exact DriveOnly.refl s

theorem coilFlag_drive (c : CoilIx) (n : Nat) : DriveOnly s (coilFlag c n s) := by
  unfold coilFlag; dsimp only; split
  · exact DriveOnly.refl s
  · exact DriveOnly.trans ⟨_, _, _, rfl⟩ (traceTrig_drive ..)

theorem laUpdate_frame (c : CoilIx) (cause : Nat) : StrandFrame π k s (laUpdate c cause s) := by
  unfold laUpdate
  dsimp only
  split
  · exact .refl
  · split
    · refine .trans (.of_drive (DriveOnly.trans ?_ (traceTrig_drive ..))) (.of_log (skeinEvent_log ..))
      exact DriveOnly.trans ⟨_, _, _, rfl⟩ (coilFlag_drive ..)
    · split
      · exact .of_dies rfl rfl rfl
      · exact .refl

theorem laStrand_frame : StrandFrame π k s (laStrand k i s) := by
  unfold laStrand
  split
  · exact laUpdate_frame ..
  · exact .refl

theorem fadeEnd_frame : StrandFrame π k s (fadeEnd k i s) := by
  unfold fadeEnd
  split
  · exact StrandFrame.refl.modRid
  · exact .refl

theorem reenable_frame (o : Origin) (l : List StrandIx) : StrandFrame π k s (reenable o k l s) := by
  unfold reenable
  split
  · refine .each (fun i s => ?_) l s
    split
    · exact StrandFrame.refl.modPort
    · exact .refl
  · exact .refl

end Kept

/-! ## Operations that leave the states of the strands -/

section States
variable (k : DieIx) (i : StrandIx) (s : State)

theorem syncRest_frame : StrandFrame Strand.st k s (syncRest k i s) := by
  unfold syncRest
  exact .modProt (.modStrand (.modGuard (.modCanc (.modCanc (.modCanc (.modProg .refl))))))

theorem syncReset_frame (T : Option Nat) : StrandFrame Strand.st k s (syncReset T k i s) := by
  unfold syncReset
  have committed : StrandFrame Strand.st k s (if (s.rid k i).pending then ncoCommit k i s else s) := by
    split
    · exact .modRid .refl
    · exact .refl
  split
  · exact .refl
  · exact .trans (.modRid (.modRid (.modRid (.trans (.modRid (.modRid committed)) (fadeEnd_frame ..)))))
      (syncRest_frame ..)

theorem presStart_frame : StrandFrame Strand.st k s (presStart k i s) := by
  unfold presStart
  dsimp only
  split
  · exact .modStrand (.modProt .refl)
  · exact .modList (.modStrand (.modProt .refl))

/-- What follows a START leaves the states of the strands. -/
theorem startRest_frame (l : List StrandIx) : StrandFrame Strand.st k s (startRest k l s) := by
  unfold startRest
  have latched : ∀ u, StrandFrame Strand.st k u (tddLatch k u) := fun u => StrandFrame.refl.modDie fun _ => rfl
  refine .trans (.trans (.trans (.trans (.trans (.each (fun i s => ?reset) l s) (.each (fun i s => ?present) l _))
    (latched _)) (reformGroups_frame ..)) (.each (fun i s => ?ahead) l _)) (.each (fun i s => ?muted) l _)
  case reset => exact syncReset_frame ..
  case present => exact presStart_frame ..
  case ahead => exact laStrand_frame ..
  case muted =>
    split
    · exact .modStrand .refl
    · exact .refl

theorem putFaults_frame (r : Code × Option Nat × Option Nat × Option Nat) :
    StrandFrame Strand.st k s (putFaults k i r s) := by
  obtain ⟨c, f, g, h⟩ := r
  have started : ∀ u, StrandFrame Strand.st k u
      (match f with | some f => u.modStrand k i fun t => { t with startFault := f } | none => u) := fun u => by
    cases f
    · exact .refl
    · exact .modStrand .refl
  have placed : ∀ u, StrandFrame Strand.st k u
      (match g with | some f => u.modRid k i fun t => { t with cfgFault := f } | none => u) := fun u => by
    cases g
    · exact .refl
    · exact .modRid .refl
  refine .trans ((started s).trans (placed _)) ?_
  cases h
  · exact .refl
  · exact .modProt .refl

theorem groupFault_frame (l : List StrandIx) (t : State) : StrandFrame Strand.st k s (groupFault k l t s) := by
  unfold groupFault
  split
  · exact .refl
  · exact .modProt (.modRid (.modStrand .refl))

end States
end Sys2Proof.Machine
end

section
/-!
PROOFS. Starts and stops of strands (03_strands.md R99 to R104).
-/
namespace Sys2Proof.Machine
open Sys2Proof

/-! ## Refused register writes -/

/-- A write that its register's own rule refuses completes with that rule's code, and only the logs and the report of
Lean come beside it. -/
theorem writeReg_refused {o : Origin} {x : RegKey} {w : Word} {s : State} (h : Arrives o x w s)
    (hc : placeRule (.reg x) w s ≠ .ok) :
    (writeReg o x w s).done = ⟨placeRule (.reg x) w s, 0⟩ ∧ KeepsBut logParts s (writeReg o x w s) := by
  have hr : ¬(recorded (.reg x) w s = true ∧ !canReserve s) := by
    rintro ⟨a, b⟩; simp [h.room a] at b
  have hs : writeServed o (BitVec.ofNat 32 (keyAddr x)) (.reg x) w s = (placeRule (.reg x) w s, s) := by
    unfold writeServed
    split
    · exact absurd ‹_› hc
    · rfl
  have ha : writeAt o 4 (BitVec.ofNat 32 (keyAddr x)) w s = (placeRule (.reg x) w s, s) := by
    unfold writeAt
    simp only [h.placed, h.origin, h.lid, h.target, Bool.not_true, Bool.false_eq_true, if_false, if_neg hr, hs]
  obtain ⟨a, b, c, l, g⟩ := leanReport_log s
  simp only [writeReg, access, if_true, ha, g, State.finish]
  refine ⟨trivial, fun p hp => ?_⟩
  cases p <;> first | rfl | exact absurd (by decide) hp

/-! ## Words -/

theorem bit_eq_testBit (w : Word) (n : Nat) : bit w n = w.toNat.testBit n := by
  rw [Nat.testBit_eq_decide_div_mod_eq]
  rfl

theorem testBit_fld (w : Word) (hi lo n : Nat) :
    (fld w hi lo).testBit n = (decide (n < hi + 1 - lo) && w.toNat.testBit (n + lo)) := by
  rw [fld, Nat.testBit_mod_two_pow, Nat.testBit_div_two_pow]

/-- A strand in both masks of STR_GROUP. -/
theorem strGroup_masks_meet {w : Word} (i : StrandIx) (hs : bit w i.val = true) (ht : bit w (16 + i.val) = true) :
    fld w 31 16 &&& fld w 15 0 ≠ 0 := by
  intro h
  have hb : (fld w 31 16 &&& fld w 15 0).testBit i.val = true := by
    rw [Nat.testBit_and, testBit_fld, testBit_fld, Nat.add_comm i.val 16, ← bit_eq_testBit, ← bit_eq_testBit, ht]
    simp [hs]
  simp [h] at hb


/-- The word of a group start. -/
theorem groupStartWord_fields (mask : BitVec 16) :
    fld (mkWord [(15, 0, mask.toNat)]) 15 0 = mask.toNat ∧ fld (mkWord [(15, 0, mask.toNat)]) 31 16 = 0 := by
  have hm : mask.toNat < 2 ^ 16 := mask.isLt
  simp only [fld, mkWord, List.foldl, BitVec.toNat_ofNat]
  omega

/-- The word of a group stop. -/
theorem groupStopWord_fields (mask : BitVec 16) :
    fld (mkWord [(31, 16, mask.toNat)]) 15 0 = 0 ∧ fld (mkWord [(31, 16, mask.toNat)]) 31 16 = mask.toNat := by
  have hm : mask.toNat < 2 ^ 16 := mask.isLt
  simp only [fld, mkWord, List.foldl, BitVec.toNat_ofNat]
  omega

theorem maskStrands_zero : maskStrands 0 = [] := by decide

/-! ## Writes that set START and STOP for one strand (R104) -/

theorem placeRule_strCtrl_both {k : DieIx} {i : StrandIx} {w : Word} {s : State} (hs : bit w 0 = true)
    (ht : bit w 1 = true) : placeRule (.reg ⟨.STR_CTRL, k.val, i.val, 0⟩) w s = .badProgram := by
  simp [placeRule, regRule, ruleDie, lrRefuses, restartBusy, badIf, hs, ht]

theorem placeRule_strGroup_both {k : DieIx} (i : StrandIx) {w : Word} {s : State} (hs : bit w i.val = true)
    (ht : bit w (16 + i.val) = true) : placeRule (.reg ⟨.STR_GROUP, k.val, 0, 0⟩) w s = .badProgram := by
  simp [placeRule, regRule, ruleDie, lrRefuses, restartBusy, badIf, strGroup_masks_meet i hs ht]

/-! ## One strand (R99, R102, R104) -/

section OneStrand
variable {k : DieIx} {i : StrandIx} {s : State}

/-- A START of a running strand changes nothing (R104). -/
theorem strandStart_running (h : (s.strand k i).st = .starting ∨ (s.strand k i).st = .running) :
    strandStart k i s = (.ok, s) := by
  rcases h with h | h <;> simp [strandStart, startNow, h]

/-- A START of a stopping strand is BUSY (R104). -/
theorem strandStart_stopping (h : (s.strand k i).st = .stopping) : strandStart k i s = (.busy, s) := by
  simp [strandStart, startNow, h]

/-- A STOP of a running strand begins the mute ramp (R102). -/
theorem strandStop_running (h : (s.strand k i).st = .starting ∨ (s.strand k i).st = .running) :
    strandStop k i s = s.modStrand k i fun t => { t with st := .stopping, m24 := true } := by
  rcases h with h | h <;> simp only [strandStop, h]

/-- A STOP of a stopped strand changes nothing (R104). -/
theorem strandStop_stopped (h : (s.strand k i).st = .stopped) : strandStop k i s = s := by
  simp only [strandStop, h]

end OneStrand

/-! ## The writes to STR_CTRL and STR_GROUP -/

/-- A strand register without RW fields: the effect on the state as it stands, and what a START re-enables. -/
theorem regEffect_strand_storeless {o : Origin} {x : RegKey} {w : Word} {s : State} (h : x.reg.chapter = .strand)
    (hm : storedMask x.reg = 0) : regEffect o x w s =
      if (writeStrand x.reg (Fin.ofNat 7 x.i) x.j w s s).1 = .ok then
        (.ok, reenable o (Fin.ofNat 7 x.i)
          ((startedBy x w).filter fun i => (s.strand (Fin.ofNat 7 x.i) i).st == .stopped)
          (writeStrand x.reg (Fin.ofNat 7 x.i) x.j w s s).2)
      else writeStrand x.reg (Fin.ofNat 7 x.i) x.j w s s := by
  have ht : x.reg ≠ .TAP := fun e => by simp [e] at h
  simp only [regEffect, h, storeRw_none hm ht]

section Writes
variable (o : Origin) (k : DieIx) (i : StrandIx) (s : State)

/-- Writing START to STR_CTRL is `strandStart`; the START of a stopped strand re-enables its transmitter. -/
theorem regEffect_start : regEffect o ⟨.STR_CTRL, k.val, i.val, 0⟩ 1 s =
    if (strandStart k i s).1 = .ok then
      (.ok, reenable o k ([i].filter fun j => (s.strand k j).st == .stopped) (strandStart k i s).2)
    else strandStart k i s := by
  have hbit : bit 1 0 = true := by decide
  rw [regEffect_strand_storeless (by simp) (by simp)]
  simp only [writeStrand, strCtrl, startedBy, hbit, if_true, dieIx_val, strandIx_val]

/-- Writing STOP to STR_CTRL is `strandStop`. -/
theorem regEffect_stop : regEffect o ⟨.STR_CTRL, k.val, i.val, 0⟩ 2 s = (.ok, strandStop k i s) := by
  have h0 : bit 2 0 = false := by decide
  have h1 : bit 2 1 = true := by decide
  rw [regEffect_strand_storeless (by simp) (by simp)]
  simp only [writeStrand, strCtrl, startedBy, h0, h1, Bool.false_eq_true, if_false, if_true, dieIx_val, strandIx_val,
    List.filter_nil, reenable_nil]

/-- Writing a mask of starts to STR_GROUP is `strandGroup` without stops. -/
theorem regEffect_groupStart (mask : BitVec 16) :
    regEffect o ⟨.STR_GROUP, k.val, 0, 0⟩ (mkWord [(15, 0, mask.toNat)]) s =
      if (strandGroup k mask.toNat 0 s).1 = .ok then
        (.ok, reenable o k ((maskStrands mask.toNat).filter fun j => (s.strand k j).st == .stopped)
          (strandGroup k mask.toNat 0 s).2)
      else strandGroup k mask.toNat 0 s := by
  obtain ⟨hs, ht⟩ := groupStartWord_fields mask
  rw [regEffect_strand_storeless (by simp) (by simp)]
  simp only [writeStrand, startedBy, hs, ht, dieIx_val]

/-- Writing a mask of stops to STR_GROUP stops its strands one after another (R101). -/
theorem regEffect_groupStop (mask : BitVec 16) :
    regEffect o ⟨.STR_GROUP, k.val, 0, 0⟩ (mkWord [(31, 16, mask.toNat)]) s =
      (.ok, s.each (maskStrands mask.toNat) (strandStop k)) := by
  obtain ⟨hs, ht⟩ := groupStopWord_fields mask
  rw [regEffect_strand_storeless (by simp) (by simp)]
  simp [writeStrand, startedBy, hs, ht, strandGroup, maskStrands_zero, groupTry, reenable_nil]

end Writes

/-! ## Group starts (R101) -/

section GroupStart
variable {k : DieIx} {i : StrandIx} {l : List StrandIx} {s : State}

/-- A strand that enters STARTING; every other strand keeps its state. -/
theorem enterStarting_states (j : StrandIx) :
    ((enterStarting k i s).strand k j).st = if j = i then .starting else (s.strand k j).st := by
  have entered : StrandFrame Strand.st k _ (enterStarting k i s) := .modProg (.modGuard .refl)
  rw [entered.strand]
  split
  · subst_vars; rw [strand_modStrand_same]
  · rw [strand_modStrand_ne ‹_›]

theorem enterStarting_other : OtherDies k s (enterStarting k i s) :=
  OtherDies.trans (OtherDies.trans (modDie_other k _ s) (modDie_other k _ _)) (modDie_other k _ _)

/-- A START of a stopped strand writes the faults of its checks and, where they pass, enters STARTING. -/
theorem startNow_stopped (h : (s.strand k i).st = .stopped) :
    startNow k i s = ((startChecks s k i).1, if (startChecks s k i).1 = .ok
      then enterStarting k i (putFaults k i (startChecks s k i) s) else putFaults k i (startChecks s k i) s) := by
  simp only [startNow, h]

/-- An accepted START leaves its strand STARTING if it was stopped, and the state of every other strand. -/
theorem startNow_states (h : (startNow k i s).1 = .ok) (j : StrandIx) :
    ((startNow k i s).2.strand k j).st =
      if j = i ∧ (s.strand k j).st = .stopped then .starting else (s.strand k j).st := by
  cases hst : (s.strand k i).st with
  | stopping => simp [startNow, hst] at h
  | starting | running =>
    simp only [startNow, hst]
    rw [if_neg]
    rintro ⟨rfl, hs⟩
    simp [hst] at hs
  | stopped =>
    rw [startNow_stopped hst] at h ⊢
    simp only at h
    simp only [h, if_true, enterStarting_states, (putFaults_frame k i s _).strand]
    by_cases e : j = i
    · subst e; simp [hst]
    · simp [e]

theorem startNow_other : OtherDies k s (startNow k i s).2 := by
  cases hst : (s.strand k i).st with
  | starting | running | stopping => simpa only [startNow, hst] using OtherDies.refl k s
  | stopped =>
    rw [startNow_stopped hst]
    have faults := (putFaults_frame k i s (startChecks s k i)).other
    dsimp only
    split
    · exact OtherDies.trans faults enterStarting_other
    · exact faults

/-- An accepted group START leaves every stopped strand of the group STARTING, and the state of every other strand. -/
theorem groupTry_states (h : (groupTry k l s).1 = .ok) (j : StrandIx) :
    ((groupTry k l s).2.strand k j).st =
      if j ∈ l ∧ (s.strand k j).st = .stopped then .starting else (s.strand k j).st := by
  induction l generalizing s with
  | nil => simp [groupTry]
  | cons i l ih =>
    by_cases hi : (startNow k i s).1 = .ok
    · have e : groupTry k (i :: l) s = groupTry k l (startNow k i s).2 := by simp only [groupTry, hi, if_true]
      rw [e] at h ⊢
      rw [ih h, startNow_states hi j]
      by_cases hj : j = i
      · subst hj; by_cases hs : (s.strand k j).st = .stopped <;> simp [hs]
      · simp [hj]
    · simp [groupTry, hi] at h

theorem groupTry_other : OtherDies k s (groupTry k l s).2 := by
  induction l generalizing s with
  | nil => exact OtherDies.refl k s
  | cons i l ih =>
    simp only [groupTry]
    split
    · exact OtherDies.trans startNow_other ih
    · exact startNow_other

/-- A group whose STARTs are all accepted: what follows them leaves the states that they gave (R101). -/
theorem strandGroup_started {m : Nat} (h : (groupTry k (maskStrands m) s).1 = .ok) :
    (strandGroup k m 0 s).1 = .ok ∧
      StrandFrame Strand.st k (groupTry k (maskStrands m) s).2 (strandGroup k m 0 s).2 := by
  have hland : Nat.land m 0 % 2 ^ 16 = 0 := by simp
  simp only [strandGroup, hland, ne_eq, not_true, if_false, h, if_true, maskStrands_zero, State.each, List.foldl_nil,
    true_and]
  split
  · exact .refl
  · exact startRest_frame ..

/-- A group with a START that fails: only the faults of the failing strand change (R101). -/
theorem strandGroup_failed {m : Nat} (h : (groupTry k (maskStrands m) s).1 ≠ .ok) :
    strandGroup k m 0 s =
      ((groupTry k (maskStrands m) s).1, groupFault k (maskStrands m) (groupTry k (maskStrands m) s).2 s) := by
  have hland : Nat.land m 0 % 2 ^ 16 = 0 := by simp
  simp only [strandGroup, hland, ne_eq, not_true, if_false, h]

end GroupStart

/-! ## The commands -/

section Commands
variable {o : Origin} {k : DieIx} {s : State}

theorem exec_strStart_running {i : StrandIx} (h : Admits o ⟨.STR_CTRL, k.val, i.val, 0⟩ 1 s)
    (hst : (s.strand k i).st = .starting ∨ (s.strand k i).st = .running) :
    Answers (exec (.strStart o k i) s) (Accepted s) := by
  have idle : [i].filter (fun j => (s.strand k j).st == .stopped) = [] := by
    rcases hst with hst | hst <;> simp [hst]
  refine ⟨_, rfl, writeReg_accepted h (by simp) ?_⟩
  rw [regEffect_start, strandStart_running hst, if_pos rfl, idle, reenable_nil]

theorem exec_strStart_stopping {i : StrandIx} (h : Admits o ⟨.STR_CTRL, k.val, i.val, 0⟩ 1 s)
    (hst : (s.strand k i).st = .stopping) :
    Answers (exec (.strStart o k i) s) fun t => t.done = ⟨.busy, 0⟩ ∧ KeepsBut logParts s t := by
  refine ⟨_, rfl, writeReg_effect h (by simp) ?_⟩
  rw [regEffect_start, strandStart_stopping hst, if_neg (by simp)]

theorem exec_strStop {i : StrandIx} (h : Admits o ⟨.STR_CTRL, k.val, i.val, 0⟩ 2 s) :
    Answers (exec (.strStop o k i) s) (Accepted (strandStop k i s)) :=
  ⟨_, rfl, writeReg_accepted h (by simp) (regEffect_stop ..)⟩

/-- A group START that every strand accepts. -/
theorem exec_strGroupStart_started {mask : BitVec 16}
    (h : Admits o ⟨.STR_GROUP, k.val, 0, 0⟩ (mkWord [(15, 0, mask.toNat)]) s)
    (hok : (groupTry k (maskStrands mask.toNat) s).1 = .ok) : Answers (exec (.strGroupStart o k mask) s) fun t =>
      t.done = ⟨.ok, 0⟩ ∧ StrandFrame Strand.st k (groupTry k (maskStrands mask.toNat) s).2 t := by
  obtain ⟨hc, hf⟩ := strandGroup_started hok
  have he := regEffect_groupStart o k s mask
  rw [if_pos hc] at he
  obtain ⟨hd, hk⟩ := writeReg_effect h (by simp) he
  exact ⟨_, rfl, hd, (hf.trans (reenable_frame ..)).trans (.of_keeps hk)⟩

/-- A group START that one strand refuses. -/
theorem exec_strGroupStart_failed {mask : BitVec 16}
    (h : Admits o ⟨.STR_GROUP, k.val, 0, 0⟩ (mkWord [(15, 0, mask.toNat)]) s)
    (hno : (groupTry k (maskStrands mask.toNat) s).1 ≠ .ok) : Answers (exec (.strGroupStart o k mask) s) fun t =>
      t.done = ⟨(groupTry k (maskStrands mask.toNat) s).1, 0⟩ ∧ StrandFrame Strand.st k s t := by
  have he := regEffect_groupStart o k s mask
  rw [strandGroup_failed hno, if_neg hno] at he
  obtain ⟨hd, hk⟩ := writeReg_effect h (by simp) he
  exact ⟨_, rfl, hd, (groupFault_frame ..).trans (.of_keeps hk)⟩

theorem exec_strGroupStop {mask : BitVec 16}
    (h : Admits o ⟨.STR_GROUP, k.val, 0, 0⟩ (mkWord [(31, 16, mask.toNat)]) s) :
    Answers (exec (.strGroupStop o k mask) s) (Accepted (s.each (maskStrands mask.toNat) (strandStop k))) :=
  ⟨_, rfl, writeReg_accepted h (by simp) (regEffect_groupStop ..)⟩

/-- A register write that the register's rule refuses as BAD_PROGRAM. -/
theorem exec_registerWrite_badProgram {x : RegKey} {w : Word} (h : Arrives o x w s)
    (hc : placeRule (.reg x) w s = .badProgram) :
    Answers (exec (.registerWrite o 4 (BitVec.ofNat 32 (keyAddr x)) w) s) fun t =>
      t.done = ⟨.badProgram, 0⟩ ∧ KeepsBut logParts s t :=
  ⟨_, rfl, hc ▸ writeReg_refused h (by simp [hc])⟩

end Commands

/-- Settles O16: one strand's case by its state, a group by the codes of its STARTs. -/
theorem strandStopsAndGroups : Obligations.StrandStopsAndGroups := by
  unfold Obligations.StrandStopsAndGroups
  refine ⟨fun o k i s => ⟨fun h => ⟨exec_strStart_running h, exec_strStart_stopping h⟩,
      fun h => ⟨fun hst => ?stopRunning, fun hst => ?stopStopped⟩⟩,
    fun o k mask s => ⟨fun h => ⟨fun hok => ?groupStarted, fun hno => ?groupFailed⟩, exec_strGroupStop⟩,
    fun o k i w s p hp h hs ht => exec_registerWrite_badProgram h ?both⟩
  case stopRunning => exact strandStop_running hst ▸ exec_strStop h
  case stopStopped => simpa only [strandStop_stopped hst] using exec_strStop h
  case groupStarted =>
    obtain ⟨t, ht, hd, hf⟩ := exec_strGroupStart_started h hok
    refine ⟨t, ht, hd, fun i hi hst => ?_, fun i hi => ?_, OtherDies.trans groupTry_other hf.other⟩
    · rw [hf.strand, groupTry_states hok, if_pos ⟨hi, hst⟩]
    · rw [hf.strand, groupTry_states hok, if_neg fun e => hi e.1]
  case groupFailed =>
    obtain ⟨t, ht, hd, hf⟩ := exec_strGroupStart_failed h hno
    exact ⟨t, ht, hd, hf.strand, hf.other, hf.regs, hf.mem⟩
  case both =>
    simp only [List.mem_cons, List.not_mem_nil, or_false] at hp
    rcases hp with rfl | rfl
    · exact placeRule_strCtrl_both hs ht
    · exact placeRule_strGroup_both i hs ht

end Sys2Proof.Machine
end

section
/-!
PROOFS. The level stage, the ALC and its start (03_strands.md R107 to R115, R124).
-/
namespace Sys2Proof.Machine
open Sys2Proof

/-! ## What the level stage reads, after a change of a strand -/

section Reads
variable (k : DieIx) (i : StrandIx) (f : Strand → Strand) (s : State)

theorem rid_modStrand (j : StrandIx) : (s.modStrand k i f).rid k j = s.rid k j := by
  simp [State.rid_eq]

theorem canc_modStrand (j : StrandIx) : (s.modStrand k i f).canc k j = s.canc k j := by
  simp [State.canc_eq]

theorem prot_modStrand (j : StrandIx) : (s.modStrand k i f).prot k j = s.prot k j := by
  simp [State.prot_eq]

theorem groupOf_modStrand (j : StrandIx) : groupOf (s.modStrand k i f) k j = groupOf s k j := by
  rw [groupOf, canc_modStrand, groupOf]

theorem isSilent_modStrand (j : StrandIx) : isSilent (s.modStrand k i f) k j = isSilent s k j := by
  unfold isSilent
  rw [groupOf_modStrand]
  rfl

theorem regMaxGain_modStrand (j : StrandIx) : regMaxGain (s.modStrand k i f) k j = regMaxGain s k j := by
  unfold regMaxGain strandEntry strandBand
  rw [rid_modStrand]
  rfl

theorem capMargin_modStrand (j : StrandIx) : capMargin (s.modStrand k i f) k j = capMargin s k j := by
  unfold capMargin
  rw [groupOf_modStrand, canc_modStrand]
  rfl

theorem leanDepth_modStrand (j : StrandIx) : leanDepth (s.modStrand k i f) k j = leanDepth s k j := by
  have lean : ∀ g : Fin 4, (((s.modStrand k i f).dies[k]).lean[g]) = (s.dies[k]).lean[g] := fun g => by simp
  unfold leanDepth
  simp only [lean]
  rfl

variable {f}

theorem isRunning_modStrand (hst : ∀ x, (f x).st = x.st) (j : StrandIx) :
    isRunning (s.modStrand k i f) k j = isRunning s k j := by
  rw [isRunning, (StrandFrame.refl.modStrand hst : StrandFrame Strand.st k s (s.modStrand k i f)).strand j, isRunning]

theorem backoffTerm_modStrand (hst : ∀ x, (f x).st = x.st) (j : StrandIx) (own : Nat) :
    backoffTerm (s.modStrand k i f) k j own = backoffTerm s k j own := by
  unfold backoffTerm
  simp only [isRunning_modStrand k i s hst, prot_modStrand]
  rfl

theorem gReq_modStrand (hg : ∀ x, (f x).gAlc = x.gAlc) (j : StrandIx) :
    gReq (s.modStrand k i f) k j = gReq s k j := by
  rw [gReq, (StrandFrame.refl.modStrand hg : StrandFrame Strand.gAlc k s (s.modStrand k i f)).strand j, gReq]
  rfl

/-- A change of a strand that leaves its state and g_alc leaves the target, for one choice of the thermal cap. -/
theorem gTarget_modStrand (hst : ∀ x, (f x).st = x.st) (hg : ∀ x, (f x).gAlc = x.gAlc) (own : Nat)
    (thermal : Option Int) : gTarget (s.modStrand k i f) k i own thermal = gTarget s k i own thermal := by
  simp only [gTarget, regMaxGain_modStrand, capMargin_modStrand, gReq_modStrand k i s hg,
    backoffTerm_modStrand k i s hst, leanDepth_modStrand]

end Reads

/-! ## The stage in two parts: what it finds, and what it makes of a block -/

/-- The state in which a block meets its gain: after the ALC, with the entry gains of a first valid block. -/
def levelReady (k : DieIx) (i : StrandIx) (b : Block) (s : State) : State :=
  if ((alcBlock k i b s).strand k i).first && b.valid then entryGains k i b.bo (alcBlock k i b s) else alcBlock k i b s

/-- g_tgt of a block in a state, with the floor (R107, R111). -/
def levelTarget (k : DieIx) (i : StrandIx) (b : Block) (u : State) : Int :=
  max (-800) (gTarget u k i b.bo (capThermal u k i))

/-- The gain at which the samples of a block begin (R109, R110). -/
def levelFrom (k : DieIx) (i : StrandIx) (b : Block) (u : State) : Int :=
  if (u.strand k i).first && b.valid then levelTarget k i b u else (u.strand k i).gApp

/-- g_app of a block (R107, R110). -/
def levelGain (k : DieIx) (i : StrandIx) (b : Block) (u : State) : Int :=
  if (u.strand k i).first && b.valid then levelTarget k i b u
  else if (u.strand k i).first then (u.strand k i).gApp
  else gainStep (u.strand k i).gApp (levelTarget k i b u) (fld (u.cfg2 .GAIN_CFG k i) 9 0)

/-- The block that leaves the stage (R109, R124). -/
def levelOut (k : DieIx) (i : StrandIx) (b : Block) (u : State) : Block :=
  withProbe u k i
    (if b.valid then { b with xs := gained u.freeCtr (levelFrom k i b u) (levelGain k i b u) b.xs } else b)

/-- What the stage makes of its strand. -/
def levelStrand (k : DieIx) (i : StrandIx) (b : Block) (rest : List Block) (u : State) (t : Strand) : Strand :=
  { t with toLevel := rest, toLim := t.toLim ++ [levelOut k i b u], gApp := levelGain k i b u,
           limit := limitBits u k i b.bo, m30 := decide (gTarget u k i b.bo (capThermal u k i) < -800),
           first := t.first && !b.valid }

/-- The state with a block through the stage, before the gain-margin rule looks at it (R107, R137, R157). -/
def levelPassed (k : DieIx) (i : StrandIx) (b : Block) (rest : List Block) (u : State) : State :=
  (u.tick.modStrand k i (levelStrand k i b rest u)).modCanc k i fun c => { c with chip := (c.chip + 64) % 32767 }

section Stage
variable {k : DieIx} {i : StrandIx} {b : Block} {rest : List Block} {s : State}

theorem levelBlock_cons (h : (s.strand k i).toLevel = b :: rest) : levelBlock k i s =
    let v := levelPassed k i b rest (levelReady k i b s)
    if closesLoop v k (groupOf v k i) then checkBroken k (groupOf v k i) v else v := by
  unfold levelBlock
  rw [h]
  rfl

/-- Past what the stage makes of its strand, no strand changes. -/
theorem levelBlock_frame {β : Type} (π : Strand → β) (h : (s.strand k i).toLevel = b :: rest) : StrandFrame π k
    ((levelReady k i b s).modStrand k i (levelStrand k i b rest (levelReady k i b s))) (levelBlock k i s) := by
  have passed : StrandFrame π k ((levelReady k i b s).modStrand k i (levelStrand k i b rest (levelReady k i b s)))
      (levelPassed k i b rest (levelReady k i b s)) := .modCanc (.of_dies rfl rfl rfl)
  rw [levelBlock_cons h]
  dsimp only
  split
  · exact passed.trans (checkBroken_frame ..)
  · exact passed

theorem strand_levelBlock (h : (s.strand k i).toLevel = b :: rest) : (levelBlock k i s).strand k i =
    levelStrand k i b rest (levelReady k i b s) ((levelReady k i b s).strand k i) :=
  ((levelBlock_frame id h).strand i).trans (strand_modStrand_same ..)

/-! ## What a block finds -/

theorem alcBlock_invalid (hv : b.valid = false) : alcBlock k i b s = s := by
  simp [alcBlock, hv]

theorem alcBlock_valid (hv : b.valid = true) : alcBlock k i b s = s.modStrand k i fun t =>
    { t with pIn := dbfs (energy b.xs) 64,
             gAlc := if bit (s.cfg2 .ALC_CFG k i) 31 then
               alcStep t.gAlc (sfld (s.cfg2 .ALC_CFG k i) 15 0) (dbfs (energy b.xs) 64)
                 (sfld (s.cfg2 .GAIN_CFG k i) 27 16) (fld (s.cfg2 .ALC_CFG k i) 23 20)
                 (fld (s.cfg2 .ALC_CFG k i) 28 24)
               else t.gAlc } := by
  rw [alcBlock, if_pos hv]

/-- The ALC changes p_in and g_alc of its strand at most. -/
theorem alcBlock_frame {β : Type} {π : Strand → β} (hπ : ∀ t p g, π { t with pIn := p, gAlc := g } = π t) :
    StrandFrame π k s (alcBlock k i b s) := by
  cases hv : b.valid with
  | false => rw [alcBlock_invalid hv]; exact .refl
  | true => rw [alcBlock_valid hv]; exact StrandFrame.refl.modStrand fun t => hπ t _ _

/-- The entry gains change nothing else of their strand. -/
theorem levelReady_frame {β : Type} {π : Strand → β} (hπ : ∀ t g h, π { t with gEntHub := g, gEntDie := h } = π t) :
    StrandFrame π k (alcBlock k i b s) (levelReady k i b s) := by
  unfold levelReady
  split
  · exact StrandFrame.refl.modStrand fun t => hπ t _ _
  · exact .refl

theorem levelReady_invalid (hv : b.valid = false) : levelReady k i b s = s := by
  rw [levelReady, hv, Bool.and_false, if_neg Bool.false_ne_true, alcBlock_invalid hv]

/-- A later block finds what the ALC leaves. -/
theorem levelReady_later (hf : (s.strand k i).first = false) : levelReady k i b s = alcBlock k i b s := by
  have first : ((alcBlock k i b s).strand k i).first = false :=
    ((alcBlock_frame (π := Strand.first) fun _ _ _ => rfl).strand i).trans hf
  rw [levelReady, first, Bool.false_and, if_neg Bool.false_ne_true]

/-- What a block finds of its strand is unchanged but for p_in, g_alc and the entry gains. -/
theorem strand_levelReady {β : Type} {π : Strand → β} (ha : ∀ t p g, π { t with pIn := p, gAlc := g } = π t)
    (he : ∀ t g h, π { t with gEntHub := g, gEntDie := h } = π t) :
    π ((levelReady k i b s).strand k i) = π (s.strand k i) :=
  ((alcBlock_frame ha).trans (levelReady_frame he)).strand i

/-- The power of a valid block (R113). -/
theorem pIn_levelReady (hv : b.valid = true) : ((levelReady k i b s).strand k i).pIn = dbfs (energy b.xs) 64 := by
  rw [(levelReady_frame (π := Strand.pIn) fun _ _ _ => rfl).strand, alcBlock_valid hv, strand_modStrand_same]

/-- One update of g_alc from the power of a valid block (R114). -/
theorem gAlc_levelReady (ha : bit (s.cfg2 .ALC_CFG k i) 31 = true) (hv : b.valid = true) :
    ((levelReady k i b s).strand k i).gAlc = alcStep (s.strand k i).gAlc (sfld (s.cfg2 .ALC_CFG k i) 15 0)
      (dbfs (energy b.xs) 64) (sfld (s.cfg2 .GAIN_CFG k i) 27 16) (fld (s.cfg2 .ALC_CFG k i) 23 20)
      (fld (s.cfg2 .ALC_CFG k i) 28 24) := by
  rw [(levelReady_frame (π := Strand.gAlc) fun _ _ _ => rfl).strand, alcBlock_valid hv, strand_modStrand_same]
  exact if_pos ha

/-- With the ALC off a block finds the target that stood before it, for one choice of the thermal cap. -/
theorem gTarget_levelReady (ha : bit (s.cfg2 .ALC_CFG k i) 31 = false) (own : Nat) (thermal : Option Int) :
    gTarget (levelReady k i b s) k i own thermal = gTarget s k i own thermal := by
  have alc : gTarget (alcBlock k i b s) k i own thermal = gTarget s k i own thermal := by
    cases hv : b.valid with
    | false => rw [alcBlock_invalid hv]
    | true =>
      rw [alcBlock_valid hv, gTarget_modStrand]
      · exact fun _ => rfl
      · intro x; simp only [ha, Bool.false_eq_true, if_false]
  rw [← alc, levelReady]
  split
  · rw [entryGains, gTarget_modStrand]
    · exact fun _ => rfl
    · exact fun _ => rfl
  · rfl

theorem first_levelReady : ((levelReady k i b s).strand k i).first = (s.strand k i).first :=
  strand_levelReady (fun _ _ _ => rfl) (fun _ _ _ => rfl)

theorem gApp_levelReady : ((levelReady k i b s).strand k i).gApp = (s.strand k i).gApp :=
  strand_levelReady (fun _ _ _ => rfl) (fun _ _ _ => rfl)

theorem toLim_levelReady : ((levelReady k i b s).strand k i).toLim = (s.strand k i).toLim :=
  strand_levelReady (fun _ _ _ => rfl) (fun _ _ _ => rfl)

theorem thm_levelReady : (levelReady k i b s).thm = s.thm := by
  have alc : (alcBlock k i b s).thm = s.thm := by unfold alcBlock; split <;> rfl
  rw [levelReady]
  split <;> exact alc

/-- What comes before the gain stays on the strand's die. -/
theorem levelReady_stays : StrandFrame (fun _ => ()) k s (levelReady k i b s) :=
  (alcBlock_frame fun _ _ _ => rfl).trans (levelReady_frame fun _ _ _ => rfl)

theorem capThermal_alcBlock : capThermal (alcBlock k i b s) k i = capThermal s k i := by
  cases hv : b.valid with
  | false => rw [alcBlock_invalid hv]
  | true => rw [alcBlock_valid hv, capThermal, strand_modStrand_same]; rfl

/-- Without a die in THROTTLE a block finds no thermal cap (R107). -/
theorem capThermal_levelReady_unthrottled (hh : throttled s 0 = false) (hd : throttled s (thmIx k) = false) :
    capThermal (levelReady k i b s) k i = none := by
  have same : ∀ d, throttled (levelReady k i b s) d = throttled s d := fun d => by
    rw [throttled, thm_levelReady, throttled]
  simp only [capThermal, throttleCap, same, hh, hd, Bool.false_eq_true, if_false, capMin]

/-! ## What leaves the stage -/

/-- A sender that is silent adds no probe (R137). -/
theorem withProbe_silent (h : isSilent s k i = true) : withProbe s k i b = b := by
  simp [withProbe, h]

theorem levelOut_invalid (hv : b.valid = false) : levelOut k i b s = b := by
  simp [levelOut, withProbe, hv]

theorem levelOut_silent (hv : b.valid = true) (h : isSilent s k i = true) :
    levelOut k i b s = { b with xs := gained s.freeCtr (levelFrom k i b s) (levelGain k i b s) b.xs } := by
  rw [levelOut, withProbe_silent h, if_pos hv]

theorem levelFrom_later (hf : (s.strand k i).first = false) : levelFrom k i b s = (s.strand k i).gApp := by
  rw [levelFrom, hf, Bool.false_and, if_neg Bool.false_ne_true]

theorem levelGain_later (hf : (s.strand k i).first = false) : levelGain k i b s =
    gainStep (s.strand k i).gApp (levelTarget k i b s) (fld (s.cfg2 .GAIN_CFG k i) 9 0) := by
  simp only [levelGain, hf, Bool.false_and, Bool.false_eq_true, if_false]

theorem levelGain_first (hf : (s.strand k i).first = true) (hv : b.valid = true) :
    levelGain k i b s = levelTarget k i b s := by
  simp only [levelGain, hf, hv, Bool.and_self, if_true]

/-- With the ALC off a later block finds the target that stood before it. -/
theorem gTarget_levelReady_later (ha : bit (s.cfg2 .ALC_CFG k i) 31 = false) (hf : (s.strand k i).first = false) :
    gTarget (levelReady k i b s) k i b.bo (capThermal (levelReady k i b s) k i) =
      gTarget s k i b.bo (capThermal s k i) := by
  rw [gTarget_levelReady ha, levelReady_later hf, capThermal_alcBlock]

/-- With the ALC off g_app of a later block is one step from the last one (R107). -/
theorem levelGain_levelReady_later (ha : bit (s.cfg2 .ALC_CFG k i) 31 = false) (hf : (s.strand k i).first = false) :
    levelGain k i b (levelReady k i b s) = gainStep (s.strand k i).gApp
      (max (-800) (gTarget s k i b.bo (capThermal s k i))) (fld (s.cfg2 .GAIN_CFG k i) 9 0) := by
  rw [levelGain_later (first_levelReady.trans hf), gApp_levelReady, levelTarget, gTarget_levelReady_later ha hf,
    State.cfg2, levelReady_stays.regs, State.cfg2]

/-- With the ALC off and no die in THROTTLE g_app of the first valid block is its target (R110). -/
theorem levelGain_levelReady_first (ha : bit (s.cfg2 .ALC_CFG k i) 31 = false) (hf : (s.strand k i).first = true)
    (hv : b.valid = true) (hh : throttled s 0 = false) (hd : throttled s (thmIx k) = false) :
    levelGain k i b (levelReady k i b s) = max (-800) (gTarget s k i b.bo none) := by
  rw [levelGain_first (first_levelReady.trans hf) hv, levelTarget, gTarget_levelReady ha,
    capThermal_levelReady_unthrottled hh hd]

/-- A later valid block of a silent strand leaves on the line from the last g_app to the new one (R109). -/
theorem levelOut_levelReady_silent (hv : b.valid = true) (hf : (s.strand k i).first = false)
    (hq : isSilent s k i = true) : levelOut k i b (levelReady k i b s) = { b with
      xs := gained (levelReady k i b s).freeCtr (s.strand k i).gApp (levelGain k i b (levelReady k i b s)) b.xs } := by
  have silent : isSilent (levelReady k i b s) k i = true := by
    rw [levelReady_later hf, alcBlock_valid hv, isSilent_modStrand, hq]
  rw [levelOut_silent hv silent, levelFrom_later (first_levelReady.trans hf), gApp_levelReady]

/-- The free error of a gain stays within 0.005 dB (R109). -/
theorem gainErr_bounds (ctr j : Nat) : -575482 ≤ gainErr ctr j ∧ gainErr ctr j ≤ 575812 := by
  unfold gainErr
  omega

/-- A block of zeros has the power of no signal (R113). -/
theorem dbfs_energy_zeros {xs : List Cx} (h : ∀ z ∈ xs, z = ⟨0, 0⟩) : dbfs (energy xs) 64 = -20000 := by
  have sum : energy xs = 0 := by
    unfold energy
    induction xs with
    | nil => rfl
    | cons z xs ih =>
      rw [List.foldl_cons, h z List.mem_cons_self]
      exact ih fun y hy => h y (List.mem_cons_of_mem z hy)
  rw [dbfs, dbfsIn, if_pos (.inl sum)]

/-! ## The commands -/

/-- What LEVEL_STAGE_BLOCK leaves: its strand as the stage makes it, and nothing beyond the strand's die, register words
and memory included. -/
theorem exec_levelStageBlock (h : (s.strand k i).toLevel = b :: rest) : Answers (exec (.levelStageBlock k i) s) fun t =>
    t.strand k i = levelStrand k i b rest (levelReady k i b s) ((levelReady k i b s).strand k i) ∧
      StrandFrame (fun _ => ()) k s t :=
  ⟨_, rfl, strand_levelBlock h, levelReady_stays.modStrand.trans (levelBlock_frame _ h)⟩

/-- Setting ALC_EN takes the present g_app (R115). -/
theorem exec_registerWrite_alcEnable {o : Origin} {w : Word} (h : Admits o ⟨.ALC_CFG, k.val, i.val, 0⟩ w s)
    (hw : bit w 31 = true) (ha : bit (s.cfg2 .ALC_CFG k i) 31 = false) :
    Answers (exec (.registerWrite o 4 (BitVec.ofNat 32 (keyAddr ⟨.ALC_CFG, k.val, i.val, 0⟩)) w) s) fun t =>
      t.done = ⟨.ok, 0⟩ ∧ (t.strand k i).gAlc = roundDiv ((s.strand k i).gApp * 65536) 20 := by
  have he : regEffect o ⟨.ALC_CFG, k.val, i.val, 0⟩ w s = (.ok,
      (storeRw ⟨.ALC_CFG, k.val, i.val, 0⟩ w s).modStrand k i fun t =>
        { t with gAlc := roundDiv (t.gApp * 65536) 20 }) := by
    rw [regEffect_strand (by simp) rfl]
    simp only [writeStrand, dieIx_val, strandIx_val, alcEnable, hw, ha, Bool.not_false, Bool.and_self, if_true]
  obtain ⟨hd, hk⟩ := writeReg_effect h (by simp) he
  refine ⟨_, rfl, hd, ?_⟩
  have kept := (StrandFrame.of_keeps (π := Strand.gAlc) (k := k) hk).strand i
  rw [strand_modStrand_same, storeRw_some (by simp) (by simp)] at kept
  exact kept

end Stage

/-- Settles O18: every clause reads off what `levelStrand` makes of what the block finds. -/
theorem levelStage : Obligations.LevelStage := by
  unfold Obligations.LevelStage
  refine ⟨fun k i b rest s h ha => ⟨fun hf => ?later, fun hf hv hh hd => ?first⟩,
    fun o w k i b rest s => ⟨fun h ha hv => ?update, fun h hv => ?invalid, fun h hv hz => ?zeros,
      exec_registerWrite_alcEnable⟩,
    fun k i b rest s h => ⟨fun hv => ?passes, fun hv hf hq => ?line⟩⟩
  all_goals
    obtain ⟨t, ht, e, frame⟩ := exec_levelStageBlock h
    refine ⟨t, ht, ?_⟩
    dsimp only
    rw [e, levelStrand]
  case later =>
    rw [levelGain_levelReady_later ha hf, gTarget_levelReady_later ha hf]
    exact ⟨rfl, rfl, rfl, frame.other, frame.regs, frame.mem⟩
  case first => exact ⟨levelGain_levelReady_first ha hf hv hh hd, by simp [hv], rfl⟩
  case update => exact ⟨pIn_levelReady hv, gAlc_levelReady ha hv⟩
  case invalid =>
    rw [levelReady_invalid hv]
    exact ⟨rfl, rfl⟩
  case zeros => exact (pIn_levelReady hv).trans (dbfs_energy_zeros hz)
  case passes => rw [levelReady_invalid hv, levelOut_invalid hv]
  case line =>
    refine ⟨gainErr (levelReady k i b s).freeCtr, _, gainErr_bounds _, ?_, rfl⟩
    rw [levelOut_levelReady_silent hv hf hq, toLim_levelReady]
    rfl

end Sys2Proof.Machine
end

section
/-!
PROOFS. Invocations of strand programs, their output blocks, look-ahead values and parameters (06_withy_model.md R215 to
R217, R223, R236, R287; 01_architecture.md R27).
-/
namespace Sys2Proof.Machine
open Sys2Proof

/-! ## A strand's program and level stage after a change -/

theorem prog_of_dies {s t : State} {k : DieIx} {i : StrandIx} (h : t.dies = s.dies) : t.prog k i = s.prog k i := by
  rw [State.prog, h, State.prog]

theorem prog_modProg_same (k : DieIx) (i : StrandIx) (f : Prog → Prog) (s : State) :
    (s.modProg k i f).prog k i = f (s.prog k i) := by
  simp [State.prog_eq]

theorem prog_modProg_ne {k : DieIx} {i j : StrandIx} (h : j ≠ i) (f : Prog → Prog) (s : State) :
    (s.modProg k i f).prog k j = s.prog k j := by
  have hv : ¬ i.val = j.val := fun e => h (Fin.ext e.symm)
  simp [State.prog_eq, hv]

theorem strand_modProg (k : DieIx) (i : StrandIx) (f : Prog → Prog) (s : State) :
    (s.modProg k i f).strand k i = s.strand k i :=
  (StrandFrame.refl.modProg (π := id)).strand i

theorem prog_modStrand (k : DieIx) (i : StrandIx) (f : Strand → Strand) (s : State) :
    (s.modStrand k i f).prog k i = s.prog k i := by
  simp [State.prog_eq]

theorem modProg_keeps {k : DieIx} {i : StrandIx} {f : Prog → Prog} {s : State} :
    KeepsBut [.dies] s (s.modProg k i f) :=
  modDie_keeps _ _ _

theorem modProg_other {k : DieIx} {i : StrandIx} {f : Prog → Prog} {s : State} : OtherDies k s (s.modProg k i f) :=
  modDie_other _ _ _

theorem isRunning_modProg {k : DieIx} {i : StrandIx} {f : Prog → Prog} {s : State} :
    isRunning (s.modProg k i f) k i = isRunning s k i := by
  rw [isRunning, strand_modProg, isRunning]

/-! ## The parameters that an APPLY staged (R223) -/

section Params
variable {p : Prog}

theorem takeParams_waiting (h : p.paramWait = true) : p.takeParams = { p with
    paramWait := false
    sc := { p.sc with
      s := Vector.ofFn fun n : Fin 16 => if _ : 8 ≤ n.val then p.staged[n.val - 8] else p.sc.s[n] } } :=
  if_pos h

theorem takeParams_idle (h : p.paramWait = false) : p.takeParams = p := by
  rw [Prog.takeParams, h, if_neg Bool.false_ne_true]

theorem paramWait_takeParams : p.takeParams.paramWait = false := by
  cases h : p.paramWait with
  | true => rw [takeParams_waiting h]
  | false => rw [takeParams_idle h, h]

theorem vec_takeParams : p.takeParams.vec = p.vec := by
  cases h : p.paramWait with
  | true => rw [takeParams_waiting h]
  | false => rw [takeParams_idle h]

/-- s0 to s7 take no parameter. -/
theorem takeParams_low {n : Fin 16} (hn : n.val < 8) : p.takeParams.sc.s[n] = p.sc.s[n] := by
  cases h : p.paramWait with
  | true => simp [takeParams_waiting h, Nat.not_le.mpr hn]
  | false => rw [takeParams_idle h]

/-- s8 to s15 take the staged parameters, where they wait. -/
theorem takeParams_high (n : Fin 8) : p.takeParams.sc.s[n.val + 8]'(by omega) =
    if p.paramWait then p.staged[n] else p.sc.s[n.val + 8]'(by omega) := by
  cases h : p.paramWait with
  | true => simp [takeParams_waiting h]
  | false => simp [takeParams_idle h]

end Params

/-! ## The start of an invocation (R215, R216, R217, R223) -/

/-- A program that begins an invocation on the inputs `cur`; `ok` says whether they are valid. -/
def Prog.begun (rest : List WInput) (cur : WInput) (ok : Bool) (p : Prog) : Prog :=
  { p.takeParams with
    inQ := rest, cur := cur, msgNew := Vector.replicate 4 false, hist := (ok :: p.takeParams.hist).take 15,
    eccNow := false, out := Vector.replicate 4 none, env := none, sends := [],
    sc := { p.takeParams.sc with pc := 0, loops := [], running := true, evented := false } }

/-- Taking blocks out of the endpoints' buffers changes the wale fabric only. -/
theorem takeBlocks_wale (inv : Nat) (l : List Reservation) (s : State) :
    ∃ w, l.foldl (fun s r => takeBlock r.ep inv s) s = { s with wale := w } := by
  induction l generalizing s with
  | nil => exact ⟨s.wale, rfl⟩
  | cons r l ih => exact ih (takeBlock r.ep inv s)

theorem keepsBut_wale (s : State) (w : Wale) : KeepsBut [.wale] s { s with wale := w } := by
  intro p hp
  cases p with
  | wale => exact absurd (by decide) hp
  | _ => rfl

/-- An invocation that can start begins on the oldest block, beside what it takes from the wale fabric. -/
theorem invoke_begins {k : DieIx} {i : StrandIx} {s : State} {b : WInput} {rest : List WInput} {g : Image}
    (hq : (s.prog k i).inQ = b :: rest) (hg : boundImage s k i = some g) (hr : (s.strand k i).st ≠ .stopped)
    (hi : (s.prog k i).sc.running = false) (hb : weaverBusy s k i = false) :
    ∃ w cur ok, cur.x = b.x ∧
      invoke k i s = ({ s with wale := w } : State).modProg k i (Prog.begun rest cur ok) := by
  obtain ⟨w, hw⟩ := takeBlocks_wale (s.prog k i).inv (g.res.filter fun r => r.kind == 0) s
  simp only [invoke, hq, hg, isRunning_iff.mpr hr, hi, hb, hw, Bool.not_true, Bool.or_false, Bool.false_eq_true, if_false]
  refine ⟨w, _, _, ?_, rfl⟩
  rfl

/-! ## The release of an output block (R216) -/

theorem outputRelease_running {k : DieIx} {i : StrandIx} {s : State} {b : Block} {rest : List Block}
    (hq : (s.prog k i).outQ = b :: rest) (hr : (s.strand k i).st ≠ .stopped) :
    outputRelease k i s = (s.modProg k i fun p => { p with outQ := rest }).modStrand k i fun t =>
      { t with toLevel := t.toLevel ++ [b] } := by
  simp only [outputRelease, hq]
  rw [if_pos (isRunning_modProg.trans (isRunning_iff.mpr hr))]

/-! ## What a change of the look-ahead keeps (R351) -/

section Skein
variable (src sev loc group pos code data : Nat) (inj mbx : Bool) (r : SkeinRec) (s : State)

theorem skeinEmit_tally : (skeinEmit r s).tally = s.tally := by
  unfold skeinEmit
  split
  · split <;> rfl
  · rfl

theorem skeinClose_tally : (skeinClose s).tally = s.tally := by
  unfold skeinClose
  split
  · rfl
  · exact skeinEmit_tally ..
  · dsimp only
    split <;> exact skeinEmit_tally ..

theorem skeinNew_tally : (skeinNew src sev loc code data inj mbx s).tally = s.tally := by
  unfold skeinNew
  dsimp only
  split
  · exact (skeinEmit_tally ..).trans (skeinClose_tally s)
  · rfl

theorem skeinOccur_tally : (skeinOccur src sev loc code data inj mbx s).tally = s.tally := by
  unfold skeinOccur
  split
  · split
    · dsimp only
      split
      · exact skeinClose_tally _
      · rfl
    · exact skeinNew_tally ..
  · exact skeinNew_tally ..

theorem skeinFill_tally : (skeinFill s).tally = s.tally := by
  unfold skeinFill
  split
  · dsimp only
    split
    · exact skeinOccur_tally ..
    · rfl
  · rfl

theorem skeinEvent_tally : (skeinEvent loc group pos data s).tally = s.tally := by
  unfold skeinEvent
  split
  · rfl
  · exact (skeinFill_tally _).trans (skeinOccur_tally ..)

/-- A device event is recorded in the Skein and shown on the Cane link; Tally has no part in it. -/
theorem skeinEvent_keeps : KeepsBut [.skein, .cane] s (skeinEvent loc group pos data s) := by
  intro p hp
  by_cases e : p = .tally
  · subst e; exact skeinEvent_tally ..
  · exact (skeinEvent_log loc group pos data s).keeps p (by simp_all)

end Skein

section LookAhead
variable {c : CoilIx} {n cause : Nat} {k : DieIx} {i : StrandIx} {s : State}

theorem modCoil_keeps {f : Coil → Coil} : KeepsBut [.coils] s (s.modCoil c f) := (ctxOnly_modCoil c f s).1

theorem traceTrig_keeps : KeepsBut [.coils] s (traceTrig c n s) := by
  unfold traceTrig
  dsimp only
  split
  · exact modCoil_keeps
  · exact .refl _ _

theorem coilFlag_keeps : KeepsBut [.coils] s (coilFlag c n s) := by
  unfold coilFlag
  dsimp only
  split
  · exact .refl _ _
  · exact modCoil_keeps.trans traceTrig_keeps

theorem laUpdate_keeps : KeepsBut [.coils, .skein, .cane] s (laUpdate c cause s) := by
  have coil : ∀ {t u}, KeepsBut [.coils] t u → KeepsBut [.coils, .skein, .cane] t u := fun h => h.mono (by decide)
  unfold laUpdate
  dsimp only
  split
  · exact .refl _ _
  · split
    · exact (coil ((modCoil_keeps.trans coilFlag_keeps).trans traceTrig_keeps)).trans
        ((skeinEvent_keeps _ _ _ _ _).mono (by decide))
    · split
      · exact coil modCoil_keeps
      · exact .refl _ _

theorem laStrand_keeps : KeepsBut [.coils, .skein, .cane] s (laStrand k i s) := by
  unfold laStrand
  split
  · exact laUpdate_keeps
  · exact .refl _ _

theorem prog_laStrand (j : StrandIx) : (laStrand k i s).prog k j = s.prog k j :=
  prog_of_dies (laStrand_keeps .dies (by decide))

end LookAhead

/-! ## The delivery of a look-ahead value (R27, R236, R349) -/

/-- A program whose oldest look-ahead value is due: the values `v` are delivered. -/
def Prog.delivered (rest : List (Option Word)) (v : List LaValue) (p : Prog) : Prog :=
  { p with laQ := rest, la := (v ++ p.la).take 64, laHist := ((!v.isEmpty) :: p.laHist).take 64 }

/-- The level that a strand's ENV of a word has when it is delivered. -/
def laLevel (s : State) (k : DieIx) (i : StrandIx) (g : Image) (w : Word) : Int :=
  peakLevel s k i g w.toNat (max (-800) (gTarget s k i (s.prot k i).b (capThermal s k i)))

/-- An ENV of 0 has the level of no signal. -/
theorem laLevel_zero (s : State) (k : DieIx) (i : StrandIx) (g : Image) : laLevel s k i g 0 = -20000 := rfl

/-- The values that arrive of an ENV sent to a coil: one with its level now, or none over a lost control lane. -/
def laArrived (s : State) (k : DieIx) (i : StrandIx) (g : Image) (w : Word) : List LaValue :=
  if (s.dies[k]).laneLost then [] else [⟨s.time.ft, laLevel s k i g w⟩]

/-- The delivery of a value that an ENV sent to a coil, and what follows for the coil of the strand's port. -/
theorem laDelivery_delivers {k : DieIx} {i : StrandIx} {s : State} {w : Word} {rest : List (Option Word)} {g : Image}
    {c : CoilIx} (hq : (s.prog k i).laQ = some w :: rest) (hg : boundImage s k i = some g) (hc : imageCoil g = some c) :
    laDelivery k i s = laStrand k i (s.modProg k i (Prog.delivered rest (laArrived s k i g w))) := by
  cases hl : (s.dies[k]).laneLost <;>
    simp only [laDelivery, laArrived, laLevel, hq, hg, hc, hl, Option.isSome_some, Bool.not_true,
      Bool.not_false, Bool.and_true, Bool.and_false, Bool.false_eq_true, if_true, if_false] <;> rfl

/-! ## APPLY (R223) -/

/-- A program in which an APPLY stages the parameters `v`. -/
def Prog.staging (v : Vector Word 8) (p : Prog) : Prog := { p with paramWait := true, staged := v }

/-- The parameters that an APPLY stages. -/
def paramWords (s : State) (k : DieIx) (i : StrandIx) : Vector Word 8 :=
  Vector.ofFn fun n : Fin 8 => s.cfg3 .PRG_PARAM k i n

theorem stageParams_running {k : DieIx} {i : StrandIx} {s : State} (hr : (s.strand k i).st ≠ .stopped) :
    stageParams k i s = s.modProg k i (Prog.staging (paramWords s k i)) := if_pos (isRunning_iff.mpr hr)

theorem stageParams_stopped {k : DieIx} {i : StrandIx} {s : State} (hs : (s.strand k i).st = .stopped) :
    stageParams k i s = s.modProg k i fun p => (p.staging (paramWords s k i)).takeParams :=
  if_neg (Bool.eq_false_iff.mp (isRunning_eq_false_iff.mpr hs))

/-- Writing APPLY to PRG_PCTRL is `stageParams`. -/
theorem regEffect_prgApply (o : Origin) (k : DieIx) (i : StrandIx) (s : State) :
    regEffect o ⟨.PRG_PCTRL, k.val, i.val, 0⟩ 1 s = (.ok, stageParams k i s) := by
  have hbit : bit 1 0 = true := by decide
  rw [regEffect_prog (.inl (by simp)), storeRw_none (by simp) (by simp)]
  simp only [writeProg, hbit, if_true, dieIx_val, strandIx_val]

/-- While parameters wait, a write to PRG_PARAM is BUSY. -/
theorem placeRule_prgParam_waiting {k : DieIx} {i : StrandIx} (n : Nat) (w : Word) {s : State}
    (h : (s.prog k i).paramWait = true) : placeRule (.reg ⟨.PRG_PARAM, k.val, i.val, n⟩) w s = .busy := by
  have free : rangesOk .PRG_PARAM w = true := rfl
  simp [placeRule, regRule, ruleDie, lrRefuses, restartBusy, busyIf, free, h]

/-! ## The commands -/

section Commands
variable {o : Origin} {k : DieIx} {i : StrandIx} {s : State}

/-- What INVOCATION leaves: its strand's program as it begins, and nothing beyond that program and the wale fabric. -/
theorem exec_invocation {b : WInput} {rest : List WInput} {g : Image}
    (hq : (s.prog k i).inQ = b :: rest) (hg : boundImage s k i = some g) (hr : (s.strand k i).st ≠ .stopped)
    (hi : (s.prog k i).sc.running = false) (hb : weaverBusy s k i = false) : Answers (exec (.invocation k i) s) fun t =>
      (∃ cur ok, cur.x = b.x ∧ t.prog k i = (s.prog k i).begun rest cur ok) ∧ (∀ j, j ≠ i → t.prog k j = s.prog k j) ∧
        KeepsBut [.dies, .wale] s t ∧ OtherDies k s t := by
  obtain ⟨w, cur, ok, hx, e⟩ := invoke_begins hq hg hr hi hb
  have fabric := (keepsBut_wale s w).mono (qs := [.dies, .wale]) (by decide)
  refine ⟨_, congrArg Host.Outcome.next e, ⟨cur, ok, hx, prog_modProg_same ..⟩, fun j hj => prog_modProg_ne hj .., ?_,
    modProg_other⟩
  exact fabric.trans (modProg_keeps.mono (by decide))

theorem exec_outputRelease {b : Block} {rest : List Block} (hq : (s.prog k i).outQ = b :: rest)
    (hr : (s.strand k i).st ≠ .stopped) : Answers (exec (.outputRelease k i) s) fun t =>
      (t.prog k i).outQ = rest ∧ (t.strand k i).toLevel = (s.strand k i).toLevel ++ [b] ∧ KeepsBut [.dies] s t ∧
        OtherDies k s t := by
  refine ⟨_, congrArg Host.Outcome.next (outputRelease_running hq hr), ?_, ?_, modProg_keeps.trans (modDie_keeps _ _ _),
    OtherDies.trans modProg_other (modDie_other _ _ _)⟩
  · rw [prog_modStrand, prog_modProg_same]
  · rw [strand_modStrand_same, strand_modProg]

/-- What LOOKAHEAD_DELIVERY leaves: the value delivered with its level or lost, and what follows for the coil. -/
theorem exec_lookaheadDelivery {w : Word} {rest : List (Option Word)} {g : Image} {c : CoilIx}
    (hq : (s.prog k i).laQ = some w :: rest) (hg : boundImage s k i = some g) (hc : imageCoil g = some c) :
    Answers (exec (.lookaheadDelivery k i) s) fun t =>
      t.prog k i = (s.prog k i).delivered rest (laArrived s k i g w) ∧
      KeepsBut [.dies, .coils, .skein, .cane] s t ∧ OtherDies k s t := by
  refine ⟨_, congrArg Host.Outcome.next (laDelivery_delivers hq hg hc), ?_, ?_,
    OtherDies.trans modProg_other (.of_eq (laStrand_keeps .dies (by decide)))⟩
  · rw [prog_laStrand, prog_modProg_same]
  · exact (modProg_keeps.mono (by decide)).trans (laStrand_keeps.mono (by decide))

theorem exec_messageArrival {r : Fin 4} {bytes : List Byte} (hr : (s.strand k i).st ≠ .stopped) :
    exec (.messageArrival k i r bytes) s = .next (s.modProg k i fun p =>
      { p with msg := vset p.msg r bytes, msgNew := vset p.msgNew r true }) :=
  congrArg Host.Outcome.next (if_pos (isRunning_iff.mpr hr))

theorem exec_prgParamApply_running (h : Admits o ⟨.PRG_PCTRL, k.val, i.val, 0⟩ 1 s) (hr : (s.strand k i).st ≠ .stopped) :
    Answers (exec (.prgParamApply o k i) s) (Accepted (s.modProg k i (Prog.staging (paramWords s k i)))) :=
  ⟨_, rfl, writeReg_accepted h (by simp) (stageParams_running hr ▸ regEffect_prgApply o k i s)⟩

theorem exec_prgParamApply_stopped (h : Admits o ⟨.PRG_PCTRL, k.val, i.val, 0⟩ 1 s) (hs : (s.strand k i).st = .stopped) :
    Answers (exec (.prgParamApply o k i) s) fun t => t.done = ⟨.ok, 0⟩ ∧
      t.prog k i = ((s.prog k i).staging (paramWords s k i)).takeParams ∧ KeepsBut (.dies :: logParts) s t ∧
      OtherDies k s t := by
  obtain ⟨hd, hk⟩ := writeReg_effect h (by simp) (stageParams_stopped hs ▸ regEffect_prgApply o k i s)
  obtain ⟨dies, kept⟩ := KeepsBut.of_modDie hk
  refine ⟨_, rfl, hd, ?_, kept, OtherDies.trans modProg_other (OtherDies.of_eq dies)⟩
  rw [prog_of_dies dies]
  exact prog_modProg_same ..

/-- A register write that the register's rule refuses as BUSY. -/
theorem exec_registerWrite_busy {x : RegKey} {w : Word} (h : Arrives o x w s) (hc : placeRule (.reg x) w s = .busy) :
    Answers (exec (.registerWrite o 4 (BitVec.ofNat 32 (keyAddr x)) w) s) fun t =>
      t.done = ⟨.busy, 0⟩ ∧ KeepsBut logParts s t :=
  ⟨_, rfl, hc ▸ writeReg_refused h (by simp [hc])⟩

end Commands

/-- Settles O29: each clause reads off what its command makes of the strand's program. -/
theorem invocations : Obligations.Invocations := by
  unfold Obligations.Invocations
  refine fun o k i r bytes s => ⟨fun b rest g hq hg hr hi hb => ?begins, fun b rest => exec_outputRelease,
    fun w rest g c hq hg hc => ?delivers, exec_messageArrival, fun h => ⟨exec_prgParamApply_running h, fun hs => ?stopped⟩,
    fun n w h hw => exec_registerWrite_busy h (placeRule_prgParam_waiting n.val w hw)⟩
  case begins =>
    obtain ⟨t, ht, ⟨cur, ok, hx, e⟩, others, kept, dies⟩ := exec_invocation hq hg hr hi hb
    refine ⟨t, ht, ?_⟩
    dsimp only
    rw [e]
    exact ⟨rfl, hx, rfl, rfl, rfl, rfl, rfl, rfl, rfl, paramWait_takeParams, vec_takeParams,
      fun n hn => takeParams_low hn, takeParams_high, others, kept, dies⟩
  case delivers =>
    obtain ⟨t, ht, e, kept, dies⟩ := exec_lookaheadDelivery hq hg hc
    refine ⟨t, ht, ?_⟩
    dsimp only
    rw [e]
    refine ⟨rfl, fun hl => ⟨⟨s.time.ft, laLevel s k i g w⟩, rfl, ?_, fun hz => ?zero⟩, fun hl => ?_, kept, dies⟩
    case zero => rw [hz, laLevel_zero]
    all_goals
      rw [laArrived, hl]
      rfl
  case stopped =>
    obtain ⟨t, ht, hd, e, kept, dies⟩ := exec_prgParamApply_stopped h hs
    refine ⟨t, ht, hd, ?_⟩
    rw [e]
    refine ⟨fun n => ?_, fun n hn => takeParams_low hn, paramWait_takeParams, kept, dies⟩
    rw [takeParams_high]
    simp [Prog.staging, paramWords]

end Sys2Proof.Machine
end
